-- ==== Sys2Proof/Word.lean ====
section
/-! DEFINITION. The words of the part: bytes and multi-byte fields of the two links, sweep numbers and
crossing stamps (32-bit, wrapping), converter samples and audio samples. -/

namespace Sys2Proof

/-- One byte of a link (R201, R203) or of PMEM (R202). -/
abbrev Byte := BitVec 8

/-- A 2-byte link field (R201). -/
abbrev Half := BitVec 16

/-- A sweep number: the 32-bit sweep count, which wraps (R1). -/
abbrev Sweep := BitVec 32

/-- A crossing stamp in sixteenths of a sweep, modulo 2^32 (R36). -/
abbrev Stamp := BitVec 32

/-- A raw sample of the 12-bit converter (R2). -/
abbrev Raw := BitVec 12

/-- A 24-bit two's complement audio sample (R101, R102). -/
abbrev Tone := BitVec 24

/-- A signed 16-bit CLICK sample (R105). -/
abbrev ClickSample := BitVec 16

/-- Elapsed sweeps from `since` to `now`, modulo 2^32 (00_scope.md 1.4, Time). -/
def elapsed (now since : Sweep) : Nat := (now - since).toNat

end Sys2Proof
end

