-- ==== Sys2Proof/Syntax.lean ====
section
/-! DEFINITION. The commands of the block: one constructor of `Instr` for each row of
spec/opcode_table.json, with the row's operands (the table gives none, the rules do: log 1, 8, 9). -/

namespace Sys2Proof

/-- Keys are numbered K1..K88 (00_scope.md 1.4); key Kn is the value n - 1. -/
abbrev Key := Fin 88

/-- The three pedals, in the order of their codes 0, 1, 2 (R124). -/
inductive Pedal where
  | soft | sost | damp
  deriving DecidableEq, Repr

/-- The 92 sensor channels: K1..K88, PSOFT, PSOST, PDAMP, RAIL (R2). -/
inductive Channel where
  | key (k : Key)
  | pedal (p : Pedal)
  | rail
  deriving DecidableEq, Repr

/-- The four bytes of a PMEM entry, byte 0 first (R202). -/
structure Entry where
  b0 : Byte
  b1 : Byte
  b2 : Byte
  b3 : Byte
  deriving DecidableEq, Repr

/-- One record of a TABLE WRITE of CAL: the key and the nine fields as carried (11 section 11.4). -/
structure CalArgs where
  key : Byte
  restRaw : Half
  fullRaw : Half
  floor : Half
  ceil : Half
  dmp : Half
  g1 : Half
  rpt : Half
  g2 : Half
  scale : Half
  deriving DecidableEq, Repr

/-- One record of a TABLE WRITE of PCAL: the record number and the four fields as carried. -/
structure PcalArgs where
  record : Byte
  restRaw : Half
  fullRaw : Half
  floor : Half
  ceil : Half
  deriving DecidableEq, Repr

/-- One entry of a TABLE WRITE of PARAM: index and value as carried (R191). -/
structure ParamArgs where
  index : Byte
  value : Half
  deriving DecidableEq, Repr

/-- What one audio frame brings to HPM: the stereo tone sample (R102) and the JACK pin (R115). -/
structure AudioFrame where
  left : Tone
  right : Tone
  jackHigh : Bool
  deriving DecidableEq, Repr

/-- The commands. The comment of each group names the rules; the meaning is in Machine/. -/
inductive Instr where
  -- resets and the reset input (R17, R46, R60, R83, R100, R117, R132, R156, R172, R184, R196, R200)
  | powerOnReset
  | deviceReset
  | resetPractice
  | resetVoices
  -- Action Link commands (R189..R196 and the owners' rules)
  | ping
  | tableRead (code selector first : Byte) (count : Half)
  | calWrite (records : List CalArgs)
  | pcalWrite (records : List PcalArgs)
  | curveWrite (curve first : Byte) (points : List Byte)
  | loudWrite (first : Byte) (gains : List Half)
  | clickWrite (sound first : Byte) (samples : List Half)
  | paramWrite (entries : List ParamArgs)
  | warmupWrite (value : Half)
  | pedalAccumWrite (value : Half)
  | holdOnWrite (value : Half)
  | holdOffWrite (value : Half)
  | practiceModeWrite (value : Half)
  | partMaskWrite (value : Half)
  | takeSizeWrite (value : Half)
  | rail (target : Byte)
  | scoreWrite (start : Half) (entries : List Entry)
  | scoreRead (start count : Half)
  | play (source mark : Byte)
  | stop
  | pause
  | resume
  | locate (mark : Byte)
  | arm (mode : Byte)
  | stopCapture
  | captureRead (offset count : Half)
  | captureClear
  | voicePass (bytes : List Byte)
  | dampAll
  | watch (channel : Byte) (count : Half)
  | status
  | clearFlags
  -- the start of a sweep and the conversion of one channel (R1, R2)
  | sweep
  | conversion (channel : Channel) (raw : Raw)
  | warmupEnd
  | channelFault (channel : Channel) (raw : Raw)
  | channelRecovery (channel : Channel) (raw : Raw)
  | gateExpiry (key : Key)
  | strikeAgeExpiry
  | pedalGroupComplete (pedal : Pedal) (raw : Raw)
  | railWaitExpiry
  | railMoveExpiry
  | railDriftHalt (raw : Raw)
  -- the end of an audio frame (R103, R108, R115)
  | outputSamplePeriod (frame : AudioFrame)
  | jackAdoption (frame : AudioFrame)
  | clickEnd (frame : AudioFrame)
  -- what a sweep event brings at PBE, PRM and TKR (R135, R137, R163, R167, R159, R178)
  | pulse
  | run
  | deadlineExpiry
  | waitTimerExpiry
  | staleStrikeAged
  | takeGap
  -- the two links and their pins (R77, R78, R187, R188, R199), and the release of RESET_N (R101)
  | voiceFrameCompletion
  | holdInChange (high : Bool)
  | byteReceived (byte : Byte) (framingError : Bool)
  | interByteTimeout
  | linkFrameCompletion
  | resetNRelease
  deriving DecidableEq, Repr

end Sys2Proof
end

