-- ==== Sys2Proof/Decode.lean ====
section
/-! DEFINITION. The opcode table gives no row any bits ("fields" is empty in every row and none has a fixed
word), so no word spells a command. Commands that come as bytes of the Action Link are decoded by the
receiver (Machine/Link.lean, R187..R189), from BYTE_RECEIVED. -/

namespace Sys2Proof

/-- The command that an opcode-table word spells: none, for every word. -/
def decodeTableWord (_nbits _w : Nat) : Option Instr := none

end Sys2Proof
end

