-- ==== Sys2Proof/Config.lean ====
section
/-! DEFINITION. The constants of the part. The spec leaves no result of a command undefined, so there is no
free value here. -/

namespace Sys2Proof.Config

/-- R193: the revision code of the parts the manual describes. -/
def revisionCode : Byte := 0x21

/-- R186: the start byte of a link frame. -/
def startByte : Byte := 0x9E

/-- R186: the generator constant of the CRC. -/
def crcConstant : Byte := 0x31

/-- R186: the greatest payload length. -/
def maxPayload : Nat := 240

/-- R188: a receiver timer expires this many sweeps after the byte that set it. -/
def interByteSweeps : Sweep := 17

/-- R74: capacity of the voice queue. -/
def voiceQueueSize : Nat := 32

/-- R67, R76: NOTE-ON and PASS frames enter only below this many queued frames. -/
def voiceNoteLimit : Nat := 24

/-- R189: capacity of the reply queue. -/
def replyQueueSize : Nat := 4

/-- R197: capacities of the class N, P and E report queues. -/
def classNSize : Nat := 64
def classPSize : Nat := 32
def classESize : Nat := 16

/-- R68, R161, R180, R188, R189, R198: a saturating count stays here. -/
def countMax : Nat := 65535

/-- R14: the longest watch; R15: samples in a full WATCH report. -/
def watchMax : Nat := 4000
def watchReport : Nat := 100

/-- R44: age at which a last strike sweep becomes absent. -/
def strikeAge : Nat := 65535

/-- R96: drift count at which the rail is halted. -/
def driftLimit : Nat := 64

/-- R115: readings that adopt a jack state. -/
def jackPeriods : Nat := 96

/-- R119: entries of PMEM. -/
def pmemEntries : Nat := 16384

/-- R135: the accumulator's modulus; R141: pulses to a beat. -/
def pulseModulus : Nat := 500000
def pulsesPerBeat : Nat := 96

/-- R137: entries performed in one run at most. -/
def runPlaces : Nat := 64

/-- R144: records the navigation stack holds at most. -/
def stackDepth : Nat := 8

/-- R158, R157: capacities of the expectation list and of the recent strike list. -/
def expectSize : Nat := 10
def recentSize : Nat := 8

/-- R161: practice offsets are clamped to -8000..8000. -/
def offsetMax : Nat := 8000

/-- R178: the reference age at which a GAP is appended. -/
def gapSweeps : Nat := 4095

/-- R128, R131, R182: entries in one score or take transfer at most. -/
def runEntries : Nat := 56

end Sys2Proof.Config
end

