-- ==== Sys2Proof/Machine/State.lean ====
section
/-! DEFINITION. The state of the part, block by block, as plain data; the three outcomes' reasons; the state
that a power-on reset leaves (`State.powerOn`) and the state the part runs from (`State.reset`). -/

namespace Sys2Proof.Machine

/-- Why a step stops with a fault. The spec gives every event of the part an effect, so there is no reason:
no command faults (INVENTORY.md, Faults). -/
inductive Fault
  deriving DecidableEq, Repr

/-- Why a step is refused. -/
inductive Refusal where
  /-- Raised by an arm of exec whose command has no meaning yet; no arm uses it. Safe: nothing is claimed. -/
  | notModelled (mnemonic : String)
  deriving DecidableEq, Repr

/-- One value for each pedal. -/
structure PerPedal (α : Type) where
  soft : α
  sost : α
  damp : α
  deriving DecidableEq, Repr

/-! ### The PARAM table (11 section 11.4) -/

/-- The 33 PARAM entries, each the one home of its parameter. -/
structure Params where
  hysteresis : Nat
  gateLimit : Nat
  settle : Nat
  warmup : Nat
  faultPersist : Nat
  recoverPersist : Nat
  curveSelect : Nat
  pedalAccum : Nat
  pedalStep : Nat
  holdOn : Nat
  holdOff : Nat
  railWait : Nat
  railTimeout : Nat
  railInLimit : Nat
  railOutLimit : Nat
  railDrift : Nat
  layer : Nat
  volume : Nat
  gTone : Nat
  gClick : Nat
  rampStep : Nat
  tempoScale : Nat
  metroMode : Nat
  beatsPerBar : Nat
  practiceMode : Nat
  partMask : Nat
  early : Nat
  late : Nat
  waitTimeout : Nat
  guideLevel : Nat
  takeSize : Nat
  takeMode : Nat
  reportEnable : Nat
  deriving DecidableEq, Repr

/-- The defaults of the PARAM table (11 section 11.4), restored by both device-level resets. -/
def Params.defaults : Params where
  hysteresis := 24
  gateLimit := 2400
  settle := 800
  warmup := 400
  faultPersist := 8
  recoverPersist := 64
  curveSelect := 0
  pedalAccum := 3
  pedalStep := 2
  holdOn := 64
  holdOff := 48
  railWait := 16000
  railTimeout := 12000
  railInLimit := 3800
  railOutLimit := 300
  railDrift := 200
  layer := 0
  volume := 16
  gTone := 32768
  gClick := 16384
  rampStep := 32
  tempoScale := 100
  metroMode := 1
  beatsPerBar := 4
  practiceMode := 0
  partMask := 1
  early := 1600
  late := 1600
  waitTimeout := 0
  guideLevel := 40
  takeSize := 2
  takeMode := 0
  reportEnable := 7

/-! ### SCN -/

/-- R4: the scanner states, in the order of their codes (R201). -/
inductive ScanState where
  | warmup | running
  deriving DecidableEq, Repr

/-- R2: the health of a channel. -/
inductive Health where
  | ok | faulted
  deriving DecidableEq, Repr

/-- R2: the channel record. -/
structure ChannelRecord where
  lastRaw : Raw
  health : Health
  persistence : Nat
  recovery : Nat
  deriving DecidableEq, Repr

/-- R14 to R16: an active watch. `first` is the sweep of the buffer's first sample, absent while the buffer
is empty; `started` says that a sweep has begun since the WATCH command (the model's own bit). -/
structure Watch where
  channel : Channel
  remaining : Nat
  first : Option Sweep
  buffer : List Raw
  started : Bool
  deriving DecidableEq, Repr

/-- The scanner (R17). -/
structure Scn where
  state : ScanState
  warmupCount : Nat
  sweep : Sweep
  leds : BitVec 4
  channels : Vector ChannelRecord 92
  watch : Option Watch
  deriving DecidableEq, Repr

/-! ### KTR -/

/-- The nine fields of a CAL record (02 section 2.1). -/
structure CalRecord where
  restRaw : Nat
  fullRaw : Nat
  floor : Nat
  ceil : Nat
  dmp : Nat
  g1 : Nat
  rpt : Nat
  g2 : Nat
  scale : Nat
  deriving DecidableEq, Repr

/-- The default CAL record (02 section 2.1). -/
def CalRecord.default : CalRecord := ⟨3600, 600, 64, 4032, 600, 1400, 2600, 3300, 768⟩

/-- R22: the states of a key. -/
inductive KeyState where
  | init | startHeld | rest | lifted | gated | creep | struck | rearm | faulted
  deriving DecidableEq, Repr

/-- R22: which threshold opened the gate. -/
inductive GateStart where
  | g1 | rpt
  deriving DecidableEq, Repr

/-- R22: what a key in GATED holds: gate stamp, start threshold and the expiry of its gate timer. -/
structure Gate where
  stamp : Stamp
  start : GateStart
  expiry : Sweep
  deriving DecidableEq, Repr

/-- R22: the key record. -/
structure KeyRecord where
  state : KeyState
  current : Nat
  previous : Nat
  gate : Option Gate
  lastStrike : Option Sweep
  cal : CalRecord
  pendingCal : Option CalRecord
  deriving DecidableEq, Repr

/-- The key tracker (R46). -/
structure Ktr where
  keys : Vector KeyRecord 88
  curves : Vector (Vector Nat 33) 4
  lastStrike : Option Sweep
  strikeAge : Option Sweep
  gatedCount : Nat
  deriving DecidableEq, Repr

/-! ### PTR -/

/-- The four fields of a PCAL record (03 section 3.1, 05 section 5.1). -/
structure PcalRecord where
  restRaw : Nat
  fullRaw : Nat
  floor : Nat
  ceil : Nat
  deriving DecidableEq, Repr

/-- One pedal of PTR: its PCAL record, accumulation group and three levels (R60). -/
structure PedalRecord where
  cal : PcalRecord
  sum : Nat
  count : Nat
  player : Nat
  playback : Nat
  effective : Nat
  deriving DecidableEq, Repr

/-- The pedal tracker. `latch` is absent while the sostenuto latch is inactive, else its set (R58, R59). -/
structure Ptr where
  pedals : PerPedal PedalRecord
  hold : Bool
  latch : Option (List Key)
  deriving DecidableEq, Repr

/-! ### RLC -/

/-- R85: the rail states, in the order of their codes (R201). -/
inductive RailState where
  | unsettled | engaged | disengaged | waitToEngage | waitToDisengage | engaging | disengaging | halted
  deriving DecidableEq, Repr

/-- R85: the state a wait returns to. -/
inductive WaitOrigin where
  | engaged | disengaged | halted
  deriving DecidableEq, Repr

/-- R86: the motor drive. -/
inductive Drive where
  | off | inward | outward
  deriving DecidableEq, Repr

/-- The rail controller (R85, R100). `cal` is PCAL record 3. -/
structure Rlc where
  state : RailState
  position : Nat
  faulted : Bool
  waitOrigin : Option WaitOrigin
  waitTimer : Option Sweep
  moveTimer : Option Sweep
  drift : Nat
  drive : Drive
  cal : PcalRecord
  deriving DecidableEq, Repr

/-! ### VDP -/

/-- R203: the source a NOTE-ON frame carries, in the order of its codes. -/
inductive NoteSource where
  | player | playback | guide
  deriving DecidableEq, Repr

/-- R61: the last source of a sounding record; a guide note counts as PLAYBACK. -/
inductive LastSource where
  | player | playback
  deriving DecidableEq, Repr

/-- R61: the sounding record. -/
structure SoundRecord where
  sounding : Bool
  playerHolder : Bool
  playbackHolder : Bool
  lastLevel : Nat
  lastSource : LastSource
  offPending : Bool
  deriving DecidableEq, Repr

/-- 04 section 4.7: the frames of the Voice Link. -/
inductive VoiceFrame where
  | noteOn (key : Key) (level : Nat) (source : NoteSource)
  | noteOff (key : Key) (level : Nat) (source : LastSource)
  | pedal (p : Pedal) (level : Nat)
  | pass (bytes : List Byte)
  | allDamp
  deriving DecidableEq, Repr

/-- The voice dispatcher (R83). `inFlight` absent is the transmitter IDLE; `holdIn` is the pin's level. -/
structure Vdp where
  table : Vector SoundRecord 88
  queue : List VoiceFrame
  remembered : PerPedal (Option Nat)
  urgent : Bool
  inFlight : Option VoiceFrame
  dropCount : Nat
  dropWaiting : Bool
  holdIn : Bool
  deriving DecidableEq, Repr

/-! ### HPM -/

/-- R105: the two click sounds. -/
inductive Sound where
  | a | b
  deriving DecidableEq, Repr

/-- R104: a playing click. -/
structure Click where
  sound : Sound
  index : Nat
  deriving DecidableEq, Repr

/-- R104: the jack state, in the order R104 lists it. -/
inductive Jack where
  | plug | none
  deriving DecidableEq, Repr

/-- The headphone mixer (R104, R117), with the sample pair that HDOUT carries (R103) and the clocks (R101). -/
structure Hpm where
  gain : Nat
  limit : Bool
  click : Option Click
  jack : Jack
  jackCount : Nat
  clickA : Vector ClickSample 256
  clickB : Vector ClickSample 256
  loud : Vector Nat 32
  outLeft : Tone
  outRight : Tone
  clocks : Bool
  deriving DecidableEq, Repr

/-! ### PMEM, PBE -/

/-- PMEM by byte (entry n is bytes 4n .. 4n+3): addresses strictly rising, nothing listed that is 0. -/
abbrev Memory := List Host.Cell

/-- R133: the playback states, in the order of their codes. -/
inductive PlayState where
  | stopped | running | waiting | paused
  deriving DecidableEq, Repr

/-- R133: what PAUSE saves. -/
inductive SavedState where
  | running | waiting
  deriving DecidableEq, Repr

/-- R133: the source of playback, in the order of its codes. -/
inductive Source where
  | score | take
  deriving DecidableEq, Repr

/-- R144: the records of the navigation stack. -/
inductive NavRecord where
  | loop (start : Nat) (passes : Nat)
  | call (returnIndex : Nat)
  deriving DecidableEq, Repr

/-- R133: the take window fixed at PLAY. -/
structure TakeWindow where
  oldest : Nat
  count : Nat
  deriving DecidableEq, Repr

/-- The playback engine (R133, R156). The head of `stack` is its top. -/
structure Pbe where
  state : PlayState
  saved : Option SavedState
  source : Source
  cursor : Nat
  countdown : Nat
  acc : Nat
  tempo : Nat
  beatPulse : Nat
  barPosition : Nat
  stack : List NavRecord
  stackError : Bool
  window : Option TakeWindow
  deriving DecidableEq, Repr

/-! ### PRM -/

/-- R157: an entry of the expectation list. -/
structure Expected where
  key : Key
  noteSweep : Sweep
  index : Nat
  deadline : Option Sweep
  deriving DecidableEq, Repr

/-- R157: an entry of the recent strike list. -/
structure Recent where
  key : Key
  sweep : Sweep
  deriving DecidableEq, Repr

/-- The practice monitor (R157, R172). Lists are oldest first. -/
structure Prm where
  expected : List Expected
  recent : List Recent
  groupKeys : List Key
  waitTimer : Option Sweep
  pauseSweep : Option Sweep
  hits : Nat
  misses : Nat
  wrongs : Nat
  deriving DecidableEq, Repr

/-! ### TKR -/

/-- R173: the recorder states, in the order of their codes. -/
inductive TakeState where
  | idle | armed | recording | full
  deriving DecidableEq, Repr

/-- The take recorder (R173, R184). Ring base and size follow from TAKE_SIZE (R119). -/
structure Tkr where
  state : TakeState
  oldest : Nat
  count : Nat
  writeIndex : Nat
  reference : Option Sweep
  armedSync : Option Nat
  overwrites : Nat
  deriving DecidableEq, Repr

/-! ### LNK -/

/-- R190: the reply codes. -/
inductive ReplyCode where
  | ok | badLength | badTable | badIndex | busy | queueFull | refusedState
  deriving DecidableEq, Repr

/-- R190: a reply: its command's kind, the code and the fields after it. -/
structure Reply where
  command : Byte
  code : ReplyCode
  fields : List Byte
  deriving DecidableEq, Repr

/-- R197: the report classes. -/
inductive ReportClass where
  | n | p | e
  deriving DecidableEq, Repr

/-- R99: outcomes of a RAIL report, in the order of R99's table. -/
inductive RailOutcome where
  | settled | waiting | moving | reversed | cancelled | notQuiet | done | halted
  deriving DecidableEq, Repr

/-- R99: causes of a RAIL report. -/
inductive RailCause where
  | none | timeout | drift | fault
  deriving DecidableEq, Repr

/-- R99: the target of a rail request. -/
inductive RailTarget where
  | inward | outward
  deriving DecidableEq, Repr

/-- R155: causes of a PLAY report, in the order of their codes. -/
inductive PlayCause where
  | started | mark | located | waiting | running | paused | resumed | command | ended | takeEnd | fault | reset
  deriving DecidableEq, Repr

/-- R161: results. -/
inductive PracticeResult where
  | hit | miss | wrong
  deriving DecidableEq, Repr

/-- R161: causes, in the order of their codes. -/
inductive PracticeCause where
  | early | late | deadline | evicted | repeated | timeout | aged
  deriving DecidableEq, Repr

/-- R7: the side of a SENSOR FAULT. -/
inductive Side where
  | low | high
  deriving DecidableEq, Repr

/-- R145: causes of a SCORE FAULT. -/
inductive ScoreCause where
  | range | carry | depth | nesting | kind
  deriving DecidableEq, Repr

/-- R111: the channels that saturated. -/
inductive LimitSide where
  | left | right | both
  deriving DecidableEq, Repr

/-- The reports (11 section 11.6), each with the fields its rule lists. -/
inductive Report where
  | strike (key : Key) (level speed : Nat) (repeated transit overrun : Bool) (interval : Nat) (sweep : Sweep)
  | release (key : Key) (fault overrun : Bool) (sweep : Sweep)
  | ready (sweep : Sweep)
  | pedal (p : Pedal) (level : Nat) (fault : Bool) (sweep : Sweep)
  | rail (state : RailState) (outcome : RailOutcome) (cause : RailCause) (target : Option RailTarget)
      (position : Nat) (sweep : Sweep)
  | jack (state : Jack) (volume target : Nat) (sweep : Sweep)
  | play (state : PlayState) (saved : Option SavedState) (source : Source) (cursor : Nat) (cause : PlayCause)
      (mark : Option Nat) (sweep : Sweep)
  | practice (key : Key) (result : PracticeResult) (cause : PracticeCause) (offset : Int) (index : Option Nat)
      (mode : Nat) (sweep : Sweep)
  | watch (channel : Channel) (first : Sweep) (samples : List Raw) (final : Bool)
  | captureFull (count size : Nat) (sweep : Sweep)
  | sensorFault (channel : Channel) (side : Side) (raw : Raw) (sweep : Sweep)
  | sensorRecovered (channel : Channel) (raw : Raw) (sweep : Sweep)
  | railTimeout (left : RailState) (position : Nat) (sweep : Sweep)
  | railDrift (left : RailState) (position : Nat) (sweep : Sweep)
  | scoreFault (cause : ScoreCause) (index depth : Nat) (sweep : Sweep)
  | voiceDrop (key : Key) (level : Nat) (source : NoteSource) (count : Nat) (sweep : Sweep)
  | audioLimit (side : LimitSide) (value : Int) (gain : Nat) (sweep : Sweep)
  deriving DecidableEq, Repr

/-- R187: the receiver's states, each with the frame under reception so far. -/
inductive Rx where
  | hunt
  | kind
  | length (kind : Byte)
  | body (kind : Byte) (len : Nat) (got : List Byte)
  | check (kind : Byte) (payload : List Byte)
  deriving DecidableEq, Repr

/-- R201: a frame on ALTX: its kind and payload. -/
structure LinkFrame where
  kind : Byte
  payload : List Byte
  deriving DecidableEq, Repr

/-- The link controller (R200). `tx` absent is the transmitter IDLE. -/
structure Lnk where
  rx : Rx
  rxTimer : Option Sweep
  badFrames : Nat
  dropped : Nat
  replies : List Reply
  classN : List Report
  classP : List Report
  classE : List Report
  overN : Nat
  overP : Nat
  overE : Nat
  fairN : Bool
  fairP : Bool
  fairE : Bool
  tx : Option LinkFrame
  deriving DecidableEq, Repr

/-! ### The whole part -/

/-- The state of the part. `resetHeld`: RESET_N is asserted. `pending`: the commands that are waiting,
first in first out. `early`: for each coming sweep, the samples that are taken before PBE's sweep event in it (R163,
log 3); like `pending` it is the surroundings' input and no item of the part. -/
structure State where
  resetHeld : Bool
  par : Params
  scn : Scn
  ktr : Ktr
  ptr : Ptr
  rlc : Rlc
  vdp : Vdp
  hpm : Hpm
  mem : Memory
  pbe : Pbe
  prm : Prm
  tkr : Tkr
  lnk : Lnk
  pending : List Instr
  early : List (List (Channel × Raw))
  deriving DecidableEq, Repr

/-! ### Reset values -/

/-- R17. -/
def ChannelRecord.initial : ChannelRecord := ⟨0, .ok, 0, 0⟩

/-- R17. -/
def Scn.initial : Scn :=
  ⟨.warmup, 0, 0, 0xF, Vector.replicate 92 ChannelRecord.initial, none⟩

/-- R46. -/
def KeyRecord.initial : KeyRecord := ⟨.init, 0, 0, none, none, CalRecord.default, none⟩

/-- R40: the default points, L[i] = 4 i clamped to 1..127. -/
def defaultCurve : Vector Nat 33 := Vector.ofFn fun i => max 1 (min 127 (4 * i.val))

/-- R46. -/
def Ktr.initial : Ktr :=
  ⟨Vector.replicate 88 KeyRecord.initial, Vector.replicate 4 defaultCurve, none, none, 0⟩

/-- R47. -/
def PcalRecord.pedalDefault : PcalRecord := ⟨400, 3600, 64, 4032⟩

/-- R84. -/
def PcalRecord.railDefault : PcalRecord := ⟨300, 3700, 64, 4032⟩

/-- R60. -/
def PedalRecord.initial : PedalRecord := ⟨PcalRecord.pedalDefault, 0, 0, 0, 0, 0⟩

/-- R60. -/
def Ptr.initial : Ptr :=
  ⟨⟨PedalRecord.initial, PedalRecord.initial, PedalRecord.initial⟩, false, none⟩

/-- R100. -/
def Rlc.initial : Rlc :=
  ⟨.unsettled, 0, false, none, none, none, 0, .off, PcalRecord.railDefault⟩

/-- R83. -/
def SoundRecord.initial : SoundRecord := ⟨false, false, false, 1, .player, false⟩

/-- R83: after the reset's emptying the queue holds the three pedal frames at level 0 and the urgent slot
holds ALL DAMP. -/
def Vdp.initial : Vdp where
  table := Vector.replicate 88 SoundRecord.initial
  queue := [.pedal .damp 0, .pedal .soft 0, .pedal .sost 0]
  remembered := ⟨none, none, none⟩
  urgent := true
  inFlight := none
  dropCount := 0
  dropWaiting := false
  holdIn := false

/-- R106: the default sounds, an alternating burst of period 2 `half` that decays in a straight line. -/
def defaultClick (peak half : Nat) : Vector ClickSample 256 :=
  Vector.ofFn fun k =>
    let magnitude := peak * (256 - k.val) / 256
    if k.val / half % 2 = 0 then BitVec.ofNat 16 magnitude else BitVec.ofInt 16 (-(magnitude : Int))

/-- R117; the clocks stand still until RESET_N is released. -/
def Hpm.initial : Hpm where
  gain := 0
  limit := false
  click := none
  jack := .none
  jackCount := 0
  clickA := defaultClick 24000 6
  clickB := defaultClick 12000 8
  loud := Vector.ofFn fun k => 32768 * k.val / 31
  outLeft := 0
  outRight := 0
  clocks := false

/-- R156. -/
def Pbe.initial : Pbe :=
  ⟨.stopped, none, .score, 0, 0, 0, 120, 0, 0, [], false, none⟩

/-- R172. -/
def Prm.initial : Prm := ⟨[], [], [], none, none, 0, 0, 0⟩

/-- R184. -/
def Tkr.initial : Tkr := ⟨.idle, 0, 0, 0, none, none, 0⟩

/-- R200. -/
def Lnk.initial : Lnk where
  rx := .hunt
  rxTimer := none
  badFrames := 0
  dropped := 0
  replies := []
  classN := []
  classP := []
  classE := []
  overN := 0
  overP := 0
  overE := 0
  fairN := false
  fairP := false
  fairE := false
  tx := none

/-- The part after a power-on reset, RESET_N still asserted: the reset tables of every chapter (R17, R46,
R60, R83, R100, R117, R132, R156, R172, R184, R200). -/
def State.powerOn : State where
  resetHeld := true
  par := Params.defaults
  scn := Scn.initial
  ktr := Ktr.initial
  ptr := Ptr.initial
  rlc := Rlc.initial
  vdp := Vdp.initial
  hpm := Hpm.initial
  mem := []
  pbe := Pbe.initial
  prm := Prm.initial
  tkr := Tkr.initial
  lnk := Lnk.initial
  pending := []
  early := []

/-- The part right after reset, running from sweep 0: `State.powerOn` with RESET_N released, so that the
audio clocks run (R101, R117) and the voice transmitter has made its first choice, ALL DAMP from the urgent
slot (R77, R79, R83). DEDUCED, log 6. -/
def State.reset : State :=
  { State.powerOn with
    resetHeld := false
    vdp := { Vdp.initial with urgent := false, inFlight := some .allDamp }
    hpm := { Hpm.initial with clocks := true } }

/-! ### Updating one block -/

def State.modScn (s : State) (f : Scn → Scn) : State := { s with scn := f s.scn }
def State.modKtr (s : State) (f : Ktr → Ktr) : State := { s with ktr := f s.ktr }
def State.modPtr (s : State) (f : Ptr → Ptr) : State := { s with ptr := f s.ptr }
def State.modRlc (s : State) (f : Rlc → Rlc) : State := { s with rlc := f s.rlc }
def State.modVdp (s : State) (f : Vdp → Vdp) : State := { s with vdp := f s.vdp }
def State.modHpm (s : State) (f : Hpm → Hpm) : State := { s with hpm := f s.hpm }
def State.modPbe (s : State) (f : Pbe → Pbe) : State := { s with pbe := f s.pbe }
def State.modPrm (s : State) (f : Prm → Prm) : State := { s with prm := f s.prm }
def State.modTkr (s : State) (f : Tkr → Tkr) : State := { s with tkr := f s.tkr }
def State.modLnk (s : State) (f : Lnk → Lnk) : State := { s with lnk := f s.lnk }
def State.modPar (s : State) (f : Params → Params) : State := { s with par := f s.par }
def State.setMem (s : State) (m : Memory) : State := { s with mem := m }

/-- The sweep count as it stands: the *now* of every block (R1). -/
def State.now (s : State) : Sweep := s.scn.sweep

end Sys2Proof.Machine
end

