-- ==== Sys2Proof/Machine/Ops.lean ====
section
/-! DEFINITION. The named operations over numbers, PMEM, per-pedal, per-key and per-channel records and the
PARAM table. The part has no exception entry: an error is a reply code, a report or a flag. -/

namespace Sys2Proof.Machine

/-! ### Numbers (00_scope.md 1.4, Arithmetic) -/

/-- Clamped to lo..hi. -/
def clamp (lo hi n : Nat) : Nat := max lo (min hi n)

/-- 1 when clamping to lo..hi changes n, else 0: what a clamped field adds to the clamped count. -/
def clampCount (lo hi n : Nat) : Nat := if clamp lo hi n = n then 0 else 1

/-- Clamped to lo..hi, for signed values. -/
def clampInt (lo hi n : Int) : Int := max lo (min hi n)

/-- A count that rises by one and stays at 65,535 (R68, R161, R180, R188, R189, R198). -/
def saturatingSucc (n : Nat) : Nat := min Config.countMax (n + 1)

/-! ### PMEM -/

/-- The byte at address a; an unlisted address reads 0, the reset's zero-fill (R132). -/
def memRead : Memory → Nat → Byte
  | [], _ => 0
  | c :: rest, a => if c.1 = a then c.2 else memRead rest a

/-- Write one byte, keeping the canonical form: rising addresses, no zero listed. -/
def memWrite : Memory → Nat → Byte → Memory
  | [], a, v => if v = 0 then [] else [(a, v)]
  | c :: rest, a, v =>
    if c.1 < a then c :: memWrite rest a v
    else if c.1 = a then (if v = 0 then rest else (a, v) :: rest)
    else if v = 0 then c :: rest else (a, v) :: c :: rest

/-- Zero-fill the bytes lo .. hi - 1 (R120). -/
def memClear (m : Memory) (lo hi : Nat) : Memory :=
  m.filter fun c => c.1 < lo || hi ≤ c.1

/-- The canonical form: addresses strictly rising, nothing listed that is 0. -/
def Memory.wf : Memory → Bool
  | [] => true
  | [c] => c.2 != 0
  | c :: d :: rest => c.1 < d.1 && c.2 != 0 && Memory.wf (d :: rest)

/-- Entry n of PMEM: its four bytes, byte 0 first (R118, R202). -/
def readEntry (m : Memory) (n : Nat) : Entry :=
  ⟨memRead m (4 * n), memRead m (4 * n + 1), memRead m (4 * n + 2), memRead m (4 * n + 3)⟩

/-- Store entry n of PMEM (R118, R202). -/
def writeEntry (m : Memory) (n : Nat) (e : Entry) : Memory :=
  memWrite (memWrite (memWrite (memWrite m (4 * n) e.b0) (4 * n + 1) e.b1) (4 * n + 2) e.b2) (4 * n + 3) e.b3

/-- Store a run of entries at n and the indices after it (R128). -/
def writeRun (m : Memory) (n : Nat) : List Entry → Memory
  | [] => m
  | e :: es => writeRun (writeEntry m n e) (n + 1) es

/-- Read a run of `count` entries from n. -/
def readRun (m : Memory) (n : Nat) : Nat → List Entry
  | 0 => []
  | count + 1 => readEntry m n :: readRun m (n + 1) count

/-- R119: the ring size of a TAKE_SIZE code. -/
def ringSize (code : Nat) : Nat := 1024 * 2 ^ code

/-- R119: the ring base, which is also the score region size. -/
def ringBase (code : Nat) : Nat := Config.pmemEntries - ringSize code

/-- R119: the score region size as it stands. -/
def regionSize (s : State) : Nat := ringBase s.par.takeSize

/-! ### Per-pedal values -/

def PerPedal.get {α : Type} (v : PerPedal α) : Pedal → α
  | .soft => v.soft
  | .sost => v.sost
  | .damp => v.damp

def PerPedal.set {α : Type} (v : PerPedal α) (p : Pedal) (x : α) : PerPedal α :=
  match p with
  | .soft => { v with soft := x }
  | .sost => { v with sost := x }
  | .damp => { v with damp := x }

/-- R124: the pedal of a code 0..2. -/
def pedalOfCode : Nat → Option Pedal
  | 0 => some .soft
  | 1 => some .sost
  | 2 => some .damp
  | _ => none

def pedalCode : Pedal → Nat
  | .soft => 0
  | .sost => 1
  | .damp => 2

/-! ### Keys and channels -/

/-- Kn's number n, 1..88. -/
def keyNumber (k : Key) : Nat := k.val + 1

/-- The key of a number 1..88. -/
def keyOfNumber (n : Nat) : Option Key :=
  if h : 1 ≤ n ∧ n ≤ 88 then some ⟨n - 1, by omega⟩ else none

/-- The 88 keys in ascending order. -/
def allKeys : List Key := List.finRange 88

/-- R2: the channel's place in channel order, 0..91. -/
def channelIndex : Channel → Fin 92
  | .key k => ⟨k.val, by omega⟩
  | .pedal .soft => 88
  | .pedal .sost => 89
  | .pedal .damp => 90
  | .rail => 91

/-- R2: the channel's number, 1..92. -/
def channelNumber (c : Channel) : Nat := (channelIndex c).val + 1

/-- The channel of a number 1..92. -/
def channelOfNumber (n : Nat) : Option Channel :=
  match keyOfNumber n with
  | some k => some (.key k)
  | none =>
    match n with
    | 89 => some (.pedal .soft)
    | 90 => some (.pedal .sost)
    | 91 => some (.pedal .damp)
    | 92 => some .rail
    | _ => none

/-- The channel record of a channel. -/
def State.channel (s : State) (c : Channel) : ChannelRecord := s.scn.channels[channelIndex c]

def setChannel (c : Channel) (r : ChannelRecord) (s : State) : State :=
  s.modScn fun b => { b with channels := b.channels.set (channelIndex c) r }

/-- The key record of a key. -/
def State.keyRec (s : State) (k : Key) : KeyRecord := s.ktr.keys[k]

def setKeyRec (k : Key) (r : KeyRecord) (s : State) : State :=
  s.modKtr fun b => { b with keys := b.keys.set k r }

/-- The sounding record of a key. -/
def State.sound (s : State) (k : Key) : SoundRecord := s.vdp.table[k]

def setSound (k : Key) (r : SoundRecord) (s : State) : State :=
  s.modVdp fun b => { b with table := b.table.set k r }

/-- The pedal record of a pedal. -/
def State.pedalRec (s : State) (p : Pedal) : PedalRecord := s.ptr.pedals.get p

def setPedalRec (p : Pedal) (r : PedalRecord) (s : State) : State :=
  s.modPtr fun b => { b with pedals := b.pedals.set p r }

/-! ### The PARAM table (11 section 11.4) -/

/-- The number of PARAM entries. -/
def paramCount : Nat := 33

/-- The PARAM entry of an index. -/
def paramGet (p : Params) : Nat → Nat
  | 0 => p.hysteresis
  | 1 => p.gateLimit
  | 2 => p.settle
  | 3 => p.warmup
  | 4 => p.faultPersist
  | 5 => p.recoverPersist
  | 6 => p.curveSelect
  | 7 => p.pedalAccum
  | 8 => p.pedalStep
  | 9 => p.holdOn
  | 10 => p.holdOff
  | 11 => p.railWait
  | 12 => p.railTimeout
  | 13 => p.railInLimit
  | 14 => p.railOutLimit
  | 15 => p.railDrift
  | 16 => p.layer
  | 17 => p.volume
  | 18 => p.gTone
  | 19 => p.gClick
  | 20 => p.rampStep
  | 21 => p.tempoScale
  | 22 => p.metroMode
  | 23 => p.beatsPerBar
  | 24 => p.practiceMode
  | 25 => p.partMask
  | 26 => p.early
  | 27 => p.late
  | 28 => p.waitTimeout
  | 29 => p.guideLevel
  | 30 => p.takeSize
  | 31 => p.takeMode
  | 32 => p.reportEnable
  | _ => 0

/-- The PARAM table with one entry replaced. -/
def paramSet (i v : Nat) (p : Params) : Params :=
  match i with
  | 0 => { p with hysteresis := v }
  | 1 => { p with gateLimit := v }
  | 2 => { p with settle := v }
  | 3 => { p with warmup := v }
  | 4 => { p with faultPersist := v }
  | 5 => { p with recoverPersist := v }
  | 6 => { p with curveSelect := v }
  | 7 => { p with pedalAccum := v }
  | 8 => { p with pedalStep := v }
  | 9 => { p with holdOn := v }
  | 10 => { p with holdOff := v }
  | 11 => { p with railWait := v }
  | 12 => { p with railTimeout := v }
  | 13 => { p with railInLimit := v }
  | 14 => { p with railOutLimit := v }
  | 15 => { p with railDrift := v }
  | 16 => { p with layer := v }
  | 17 => { p with volume := v }
  | 18 => { p with gTone := v }
  | 19 => { p with gClick := v }
  | 20 => { p with rampStep := v }
  | 21 => { p with tempoScale := v }
  | 22 => { p with metroMode := v }
  | 23 => { p with beatsPerBar := v }
  | 24 => { p with practiceMode := v }
  | 25 => { p with partMask := v }
  | 26 => { p with early := v }
  | 27 => { p with late := v }
  | 28 => { p with waitTimeout := v }
  | 29 => { p with guideLevel := v }
  | 30 => { p with takeSize := v }
  | 31 => { p with takeMode := v }
  | 32 => { p with reportEnable := v }
  | _ => p

/-- The least value of a PARAM entry. -/
def paramLo : Nat → Nat
  | 1 => 16
  | 4 => 1
  | 5 => 1
  | 8 => 1
  | 9 => 1
  | 12 => 800
  | 13 => 2048
  | 20 => 1
  | 21 => 25
  | 23 => 1
  | 29 => 1
  | _ => 0

/-- The greatest value of a PARAM entry. -/
def paramHi : Nat → Nat
  | 0 => 255
  | 1 => 4095
  | 2 => 4095
  | 3 => 4095
  | 4 => 255
  | 5 => 4095
  | 6 => 3
  | 7 => 7
  | 8 => 32
  | 9 => 127
  | 10 => 126
  | 11 => 65535
  | 12 => 65535
  | 13 => 4095
  | 14 => 2047
  | 15 => 1023
  | 16 => 1
  | 17 => 31
  | 18 => 32768
  | 19 => 32768
  | 20 => 32768
  | 21 => 200
  | 22 => 2
  | 23 => 16
  | 24 => 2
  | 25 => 15
  | 26 => 8000
  | 27 => 8000
  | 28 => 65535
  | 29 => 127
  | 30 => 3
  | 31 => 1
  | 32 => 7
  | _ => 65535

end Sys2Proof.Machine
end

