-- ==== Sys2Proof/Machine/Operands.lean ====
section
/-! DEFINITION. What stands on the wires and in PMEM: link fields and their conventions (R201), the CRC (R186),
the bit layout of score and take entries (R202), Voice Link frames (R203), the payloads of replies and
reports (R190, 11 section 11.6), and the reading of command payloads into operands. -/

namespace Sys2Proof.Machine

/-! ### Multi-byte fields, most significant byte first (R201) -/

def byteOf (n : Nat) : Byte := BitVec.ofNat 8 n

/-- A 2-byte field. -/
def field2 (n : Nat) : List Byte := [byteOf (n / 256), byteOf n]

/-- A 4-byte field. -/
def field4 (n : Nat) : List Byte :=
  [byteOf (n / 16777216), byteOf (n / 65536), byteOf (n / 256), byteOf n]

/-- A signed 2-byte field in two's complement. -/
def signed2 (n : Int) : List Byte := field2 (BitVec.ofInt 16 n).toNat

/-- A signed 4-byte field in two's complement. -/
def signed4 (n : Int) : List Byte := field4 (BitVec.ofInt 32 n).toNat

/-- A sweep number. -/
def sweepField (s : Sweep) : List Byte := field4 s.toNat

/-- A 2-byte field read. -/
def half (hi lo : Byte) : Half := hi ++ lo

def entryBytes (e : Entry) : List Byte := [e.b0, e.b1, e.b2, e.b3]

def halfBytes (h : Half) : List Byte := field2 h.toNat

/-! ### The byte on a line (R185) and the slot of the audio ports (R101) -/

/-- R185: the bit times of one byte: start bit low, eight data bits least significant first, stop bit high. -/
def serialBits (b : Byte) : List Bool :=
  false :: (List.range 8).map (fun i => b.getLsbD i) ++ [true]

/-- The number whose bits are given, the least significant first. -/
def bitsValue (bits : List Bool) : Nat := bits.foldr (fun b n => (if b then 1 else 0) + 2 * n) 0

/-- R185: the byte that ten bit times on a line carry, and whether its stop bit reads low, which is a framing error;
without a low start bit there is no byte. -/
def readSerial (levels : List Bool) : Option (Byte × Bool) :=
  match levels with
  | [false, b0, b1, b2, b3, b4, b5, b6, b7, stop] => some (byteOf (bitsValue [b0, b1, b2, b3, b4, b5, b6, b7]), !stop)
  | _ => none

/-- R185: the command that ten bit times on ALRX are. -/
def alrxCommand (levels : List Bool) : Option Instr := (readSerial levels).map fun x => .byteReceived x.1 x.2

/-- R185: the levels of a line that sends these bytes back to back, and which is high (one bit time of it) when it
sends none. -/
def lineLevels (bytes : Option (List Byte)) : List Bool :=
  match bytes with
  | none => [true]
  | some bs => bs.flatMap serialBits

/-- R101: the 32 bit periods of one slot on HDOUT: one low, 24 bits most significant first, seven low. -/
def slotBits (t : Tone) : List Bool :=
  false :: (List.range 24).map (fun i => t.getMsbD i) ++ List.replicate 7 false

/-- R101, R102: the tone sample that the 32 bit periods of a slot on TDIN carry. -/
def slotSample (bits : List Bool) : Tone :=
  BitVec.ofNat 24 (bitsValue ((bits.drop 1).take 24).reverse)

/-- R101: WCLK and HDOUT in the 64 bit periods of an audio frame: the left slot with WCLK low, then the right slot with
WCLK high. -/
def audioFramePeriods (left right : Tone) : List (Bool × Bool) :=
  (slotBits left).map (fun d => (false, d)) ++ (slotBits right).map (fun d => (true, d))

/-- R101, R102, R115: what the 64 bit periods of a frame on TDIN, and the level of JACK at its end, bring to HPM. -/
def audioFrameOf (tdin : List Bool) (jackHigh : Bool) : AudioFrame :=
  ⟨slotSample (tdin.take 32), slotSample (tdin.drop 32), jackHigh⟩

/-- R86: the outputs RMA and RMB. -/
def motorPins : Drive → Bool × Bool
  | .off => (false, false)
  | .inward => (true, false)
  | .outward => (false, true)

/-! ### The CRC (R186) -/

/-- One shift of the CRC register. -/
def crcShift (r : Byte) : Byte :=
  if r.msb then r <<< 1 ^^^ Config.crcConstant else r <<< 1

/-- The register after one byte: exclusive OR, then eight shifts. -/
def crcByte (r b : Byte) : Byte := Nat.repeat crcShift 8 (r ^^^ b)

/-- The CRC of a frame's kind, length and payload. -/
def linkCrc (kind : Byte) (payload : List Byte) : Byte :=
  (kind :: byteOf payload.length :: payload).foldl crcByte 0

/-- R201: the bytes of a frame on ALTX. -/
def linkFrameBytes (f : LinkFrame) : List Byte :=
  Config.startByte :: f.kind :: byteOf f.payload.length :: f.payload ++ [linkCrc f.kind f.payload]

/-! ### PMEM entries (R202) -/

/-- The five fields of a score entry (R121). -/
structure ScoreEntry where
  delta : Nat
  kind : Nat
  part : Nat
  a : Nat
  b : Nat
  deriving DecidableEq, Repr

/-- A score entry read from its four bytes. -/
def scoreEntry (e : Entry) : ScoreEntry where
  delta := e.b0.toNat * 4 + e.b1.toNat / 64
  kind := e.b1.toNat / 4 % 16
  part := e.b1.toNat % 4
  a := e.b2.toNat
  b := e.b3.toNat

/-- R121: the unsigned 16-bit reading of a and b. -/
def ScoreEntry.unsigned (e : ScoreEntry) : Nat := e.a * 256 + e.b

/-- R121: the signed 16-bit reading of a and b. -/
def ScoreEntry.signed (e : ScoreEntry) : Int :=
  if e.a < 128 then (e.unsigned : Int) else (e.unsigned : Int) - 65536

/-- R121: JUMP, CALL, RETURN, REPEAT and LOOP_END are the navigation kinds 8..12. -/
def ScoreEntry.isNavigation (e : ScoreEntry) : Bool := 8 ≤ e.kind && e.kind ≤ 12

/-- The fields of a take entry (R174); `first` is the key or pedal, `second` the level. -/
structure TakeEntry where
  delta : Nat
  kind : Nat
  first : Nat
  second : Nat
  deriving DecidableEq, Repr

/-- A take entry read from its four bytes; the zero bits are ignored. -/
def takeEntry (e : Entry) : TakeEntry where
  delta := e.b0.toNat * 16 + e.b1.toNat / 16
  kind := e.b1.toNat / 2 % 8
  first := e.b2.toNat % 128
  second := e.b3.toNat % 128

/-- The score index of a SYNC entry: bits 13..7 and 6..0. -/
def TakeEntry.syncIndex (e : TakeEntry) : Nat := e.first * 128 + e.second

/-- The four bytes TKR writes for a take entry. -/
def takeBytes (delta kind first second : Nat) : Entry where
  b0 := byteOf (delta / 16)
  b1 := byteOf (delta % 16 * 16 + kind * 2)
  b2 := byteOf (first % 128)
  b3 := byteOf (second % 128)

/-! ### Voice Link frames (R203) -/

def noteSourceCode : NoteSource → Nat
  | .player => 0
  | .playback => 1
  | .guide => 2

def lastSourceCode : LastSource → Nat
  | .player => 0
  | .playback => 1

/-- R203: the bytes of a frame on VLTX. -/
def voiceFrameBytes : VoiceFrame → List Byte
  | .noteOn k level src => [0x21, byteOf (keyNumber k), byteOf level, byteOf (noteSourceCode src)]
  | .noteOff k level src => [0x22, byteOf (keyNumber k), byteOf level, byteOf (lastSourceCode src)]
  | .pedal .damp level => [0x31, byteOf level]
  | .pedal .soft level => [0x32, byteOf level]
  | .pedal .sost level => [0x33, byteOf level]
  | .allDamp => [0x3F]
  | .pass bytes => 0x40 :: byteOf bytes.length :: bytes

/-! ### Codes of states, causes and outcomes (R201: the rule's code, else the place in the rule's list) -/

def boolCode (b : Bool) : Byte := if b then 1 else 0

def replyCodeByte : ReplyCode → Byte
  | .ok => 0
  | .badLength => 1
  | .badTable => 2
  | .badIndex => 3
  | .busy => 4
  | .queueFull => 5
  | .refusedState => 6

def scanStateCode : ScanState → Byte
  | .warmup => 0
  | .running => 1

def railStateCode : RailState → Byte
  | .unsettled => 0
  | .engaged => 1
  | .disengaged => 2
  | .waitToEngage => 3
  | .waitToDisengage => 4
  | .engaging => 5
  | .disengaging => 6
  | .halted => 7

def playStateCode : PlayState → Byte
  | .stopped => 0
  | .running => 1
  | .waiting => 2
  | .paused => 3

/-- The saved state is carried with its code as a playback state; absent with every bit set. DESIGN CHOICE,
log 10. -/
def savedStateCode : Option SavedState → Byte
  | none => 0xFF
  | some .running => 1
  | some .waiting => 2

def sourceCode : Source → Byte
  | .score => 0
  | .take => 1

def takeStateCode : TakeState → Byte
  | .idle => 0
  | .armed => 1
  | .recording => 2
  | .full => 3

def railOutcomeCode : RailOutcome → Byte
  | .settled => 0
  | .waiting => 1
  | .moving => 2
  | .reversed => 3
  | .cancelled => 4
  | .notQuiet => 5
  | .done => 6
  | .halted => 7

def railCauseCode : RailCause → Byte
  | .none => 0
  | .timeout => 1
  | .drift => 2
  | .fault => 3

def railTargetCode : Option RailTarget → Byte
  | none => 0xFF
  | some .inward => 1
  | some .outward => 2

def playCauseCode : PlayCause → Byte
  | .started => 0
  | .mark => 1
  | .located => 2
  | .waiting => 3
  | .running => 4
  | .paused => 5
  | .resumed => 6
  | .command => 7
  | .ended => 8
  | .takeEnd => 9
  | .fault => 10
  | .reset => 11

def practiceResultCode : PracticeResult → Byte
  | .hit => 0
  | .miss => 1
  | .wrong => 2

def practiceCauseCode : PracticeCause → Byte
  | .early => 0
  | .late => 1
  | .deadline => 2
  | .evicted => 3
  | .repeated => 4
  | .timeout => 5
  | .aged => 6

/-- R104 lists PLUG before NONE (log 11). -/
def jackCode : Jack → Byte
  | .plug => 0
  | .none => 1

def sideCode : Side → Byte
  | .low => 0
  | .high => 1

def scoreCauseCode : ScoreCause → Byte
  | .range => 0
  | .carry => 1
  | .depth => 2
  | .nesting => 3
  | .kind => 4

def limitSideCode : LimitSide → Byte
  | .left => 0
  | .right => 1
  | .both => 2

/-! ### Replies and reports as frames -/

/-- R190: a reply's frame: the command's kind plus 0x80, the code, then the fields. -/
def replyFrame (r : Reply) : LinkFrame := ⟨r.command + 0x80, replyCodeByte r.code :: r.fields⟩

/-- 11 section 11.6: the kind of a report. -/
def reportKind : Report → Byte
  | .strike .. => 0xE0
  | .release .. => 0xE1
  | .ready .. => 0xE8
  | .pedal .. => 0xE9
  | .rail .. => 0xEA
  | .jack .. => 0xEB
  | .play .. => 0xEC
  | .practice .. => 0xED
  | .watch .. => 0xEE
  | .captureFull .. => 0xEF
  | .sensorFault .. => 0xF0
  | .sensorRecovered .. => 0xF1
  | .railTimeout .. => 0xF2
  | .railDrift .. => 0xF3
  | .scoreFault .. => 0xF4
  | .voiceDrop .. => 0xF5
  | .audioLimit .. => 0xF6

/-- 11 section 11.6: the class of a report. -/
def reportClass : Report → ReportClass
  | .strike .. | .release .. => .n
  | .ready .. | .pedal .. | .rail .. | .jack .. | .play .. | .practice .. | .watch .. | .captureFull .. => .p
  | .sensorFault .. | .sensorRecovered .. | .railTimeout .. | .railDrift .. => .e
  | .scoreFault .. | .voiceDrop .. | .audioLimit .. => .e

/-- 11 section 11.6 and R201: a report's payload, the fields its rule lists, in order. R201 does not name the width of
the ring size of a CAPTURE FULL report; two bytes, as its count has, is the model's choice (DEDUCED, log 11). -/
def reportPayload : Report → List Byte
  | .strike k level speed repeated transit overrun interval sw =>
    [byteOf (keyNumber k), byteOf level] ++ field2 speed
      ++ [boolCode repeated ||| boolCode transit <<< 1 ||| boolCode overrun <<< 2] ++ field2 interval ++ sweepField sw
  | .release k fault overrun sw =>
    [byteOf (keyNumber k), boolCode fault ||| boolCode overrun <<< 1] ++ sweepField sw
  | .ready sw => Config.revisionCode :: sweepField sw
  | .pedal p level fault sw => [byteOf (pedalCode p), byteOf level, boolCode fault] ++ sweepField sw
  | .rail st outcome cause target position sw =>
    [railStateCode st, railOutcomeCode outcome, railCauseCode cause, railTargetCode target]
      ++ field2 position ++ sweepField sw
  | .jack st volume target sw => jackCode st :: field2 volume ++ field2 target ++ sweepField sw
  | .play st saved src cursor cause mark sw =>
    [playStateCode st, savedStateCode saved, sourceCode src] ++ field2 cursor
      ++ [playCauseCode cause, match mark with | some m => byteOf m | none => 0xFF] ++ sweepField sw
  | .practice k result cause offset index mode sw =>
    [byteOf (keyNumber k), practiceResultCode result, practiceCauseCode cause] ++ signed2 offset
      ++ (match index with | some i => field2 i | none => [0xFF, 0xFF]) ++ [byteOf mode] ++ sweepField sw
  | .watch ch first samples final =>
    byteOf (channelNumber ch) :: sweepField first ++ field2 samples.length
      ++ samples.flatMap (fun r => field2 r.toNat) ++ [boolCode final]
  | .captureFull count size sw => field2 count ++ field2 size ++ sweepField sw
  | .sensorFault ch side raw sw =>
    [byteOf (channelNumber ch), sideCode side] ++ field2 raw.toNat ++ sweepField sw
  | .sensorRecovered ch raw sw => byteOf (channelNumber ch) :: field2 raw.toNat ++ sweepField sw
  | .railTimeout st position sw => railStateCode st :: field2 position ++ sweepField sw
  | .railDrift st position sw => railStateCode st :: field2 position ++ sweepField sw
  | .scoreFault cause index depth sw =>
    scoreCauseCode cause :: field2 index ++ field2 depth ++ sweepField sw
  | .voiceDrop k level src count sw =>
    [byteOf (keyNumber k), byteOf level, byteOf (noteSourceCode src)] ++ field2 count ++ sweepField sw
  | .audioLimit side value gain sw => limitSideCode side :: signed4 value ++ field2 gain ++ sweepField sw

/-- A report as a frame. -/
def reportFrame (r : Report) : LinkFrame := ⟨reportKind r, reportPayload r⟩

/-! ### Payloads of commands read into operands (11 sections 11.3, 11.4) -/

/-- The payload as 2-byte fields; none when a byte is left over. -/
def parseHalves : List Byte → Option (List Half)
  | [] => some []
  | [_] => none
  | hi :: lo :: rest => (parseHalves rest).map (half hi lo :: ·)

/-- The payload as 4-byte entries; none when a part of an entry is left over (R128). -/
def parseEntries : List Byte → Option (List Entry)
  | [] => some []
  | b0 :: b1 :: b2 :: b3 :: rest => (parseEntries rest).map (⟨b0, b1, b2, b3⟩ :: ·)
  | _ => none

/-- The payload as PARAM entries: index, value. -/
def parseParams : List Byte → Option (List ParamArgs)
  | [] => some []
  | i :: hi :: lo :: rest => (parseParams rest).map (⟨i, half hi lo⟩ :: ·)
  | _ => none

/-- The payload as PCAL records: record number, then the four fields. -/
def parsePcals : List Byte → Option (List PcalArgs)
  | [] => some []
  | r :: a1 :: a0 :: b1 :: b0 :: c1 :: c0 :: d1 :: d0 :: rest =>
    (parsePcals rest).map (⟨r, half a1 a0, half b1 b0, half c1 c0, half d1 d0⟩ :: ·)
  | _ => none

/-- The payload as CAL records: key, then the nine fields. -/
def parseCals : List Byte → Option (List CalArgs)
  | [] => some []
  | k :: a1 :: a0 :: b1 :: b0 :: c1 :: c0 :: d1 :: d0 :: e1 :: e0 :: f1 :: f0 :: g1 :: g0 :: h1 :: h0 :: i1 :: i0 :: rest =>
    (parseCals rest).map
      (⟨k, half a1 a0, half b1 b0, half c1 c0, half d1 d0, half e1 e0, half f1 f0, half g1 g0, half h1 h0, half i1 i0⟩ :: ·)
  | _ => none

end Sys2Proof.Machine
end

