-- ==== Sys2Proof/Machine/Flags.lean ====
section
/-! DEFINITION. LNK's side of every report: REPORT_ENABLE, the three class queues, the OVERRUN mark and the
overrun counts (R197, R198), the choice of the Action Link transmitter with its fair flags (R199), and the
frame every event of the part stands in (`partEvent`). -/

namespace Sys2Proof.Machine

/-- R197: REPORT_ENABLE's bit of a class. -/
def classEnabled (s : State) : ReportClass → Bool
  | .n => s.par.reportEnable.testBit 0
  | .p => s.par.reportEnable.testBit 1
  | .e => s.par.reportEnable.testBit 2

/-- R197: the queue of a class. -/
def classQueue (l : Lnk) : ReportClass → List Report
  | .n => l.classN
  | .p => l.classP
  | .e => l.classE

/-- R197: the capacity of a class queue. -/
def classCapacity : ReportClass → Nat
  | .n => Config.classNSize
  | .p => Config.classPSize
  | .e => Config.classESize

def setClassQueue (c : ReportClass) (q : List Report) (l : Lnk) : Lnk :=
  match c with
  | .n => { l with classN := q }
  | .p => { l with classP := q }
  | .e => { l with classE := q }

/-- R197: whether LNK queues a report handed to it now. -/
def reportAccepted (r : Report) (s : State) : Bool :=
  classEnabled s (reportClass r) && (classQueue s.lnk (reportClass r)).length < classCapacity (reportClass r)

/-- R198: the OVERRUN mark, which STRIKE and RELEASE reports carry. -/
def markOverrun : Report → Report
  | .strike k level speed repeated transit _ interval sw => .strike k level speed repeated transit true interval sw
  | .release k fault _ sw => .release k fault true sw
  | r => r

/-- Apply f to the last element of a list. -/
def modifyNewest (f : Report → Report) : List Report → List Report
  | [] => []
  | [r] => [f r]
  | r :: rest => r :: modifyNewest f rest

/-- R198: a report handed to a full class queue is discarded and counted. -/
def reportOverrun (c : ReportClass) (l : Lnk) : Lnk :=
  match c with
  | .n => { l with classN := modifyNewest markOverrun l.classN, overN := saturatingSucc l.overN }
  | .p => { l with overP := saturatingSucc l.overP }
  | .e => { l with overE := saturatingSucc l.overE }

/-- R197, R198: a report handed to LNK by a block. -/
def handReport (r : Report) (s : State) : State :=
  if reportAccepted r s then
    s.modLnk fun l => setClassQueue (reportClass r) (classQueue l (reportClass r) ++ [r]) l
  else if classEnabled s (reportClass r) then s.modLnk (reportOverrun (reportClass r))
  else s

/-! ### The transmitter (R199) -/

def fairFlag (l : Lnk) : ReportClass → Bool
  | .n => l.fairN
  | .p => l.fairP
  | .e => l.fairE

def setFair (c : ReportClass) (l : Lnk) : Lnk :=
  match c with
  | .n => { l with fairN := true }
  | .p => { l with fairP := true }
  | .e => { l with fairE := true }

/-- R199: when every class that holds reports has its fair flag set, all three are cleared first. -/
def clearFair (l : Lnk) : Lnk :=
  if [ReportClass.e, .p, .n].all (fun c => (classQueue l c).isEmpty || fairFlag l c) then
    { l with fairN := false, fairP := false, fairE := false }
  else l

/-- R199: the first class in the order E, P, N that holds reports and has a clear flag. -/
def fairClass (l : Lnk) : Option ReportClass :=
  [ReportClass.e, .p, .n].find? fun c => !(classQueue l c).isEmpty && !fairFlag l c

/-- R199: a report leaves its class queue and is sent; R68, R197: a VOICE DROP report leaving clears VDP's
report-waiting flag. -/
def sendReport (c : ReportClass) (r : Report) (rest : List Report) (s : State) : State :=
  let t := s.modLnk fun l => { setFair c (setClassQueue c rest l) with tx := some (reportFrame r) }
  match r with
  | .voiceDrop .. => t.modVdp fun v => { v with dropWaiting := false }
  | _ => t

/-- R199: one report of the class whose turn it is. -/
def sendNextReport (s : State) : State :=
  let l := clearFair s.lnk
  match fairClass l with
  | none => s
  | some c =>
    match classQueue l c with
    | [] => s
    | r :: rest => sendReport c r rest (s.modLnk fun _ => l)

/-- R199: the choice of an IDLE transmitter: the oldest reply, else a report, else nothing. -/
def linkChoose (s : State) : State :=
  match s.lnk.tx with
  | some _ => s
  | none =>
    match s.lnk.replies with
    | r :: rest => s.modLnk fun l => { l with replies := rest, tx := some (replyFrame r) }
    | [] => sendNextReport s

/-! ### The frame of every event -/

/-- One event at the part: while RESET_N is asserted the part does not run (DEDUCED, log 6); otherwise the
event's effect, after which an idle Action Link transmitter makes its choice (DEDUCED, log 4). -/
def partEvent (effect : State → State) (s : State) : Host.Outcome State Fault Refusal :=
  .next (if s.resetHeld then s else linkChoose (effect s))

end Sys2Proof.Machine
end

