-- ==== Sys2Proof/Machine/Recorder.lean ====
section
/-! DEFINITION. TKR, the take recorder (10, R173 to R184): the ring, appends, player events, SYNC entries and
the sweep event's GAP. Its Action Link commands stand in Machine/CaptureCommands.lean. -/

namespace Sys2Proof.Machine

/-- R119: the ring size as it stands. -/
def takeRingSize (s : State) : Nat := ringSize s.par.takeSize

/-- R173: the PMEM entry of the offset k from an oldest index. -/
def ringEntryIndex (s : State) (oldest k : Nat) : Nat :=
  regionSize s + (oldest + k) % takeRingSize s

/-- The codes of R174. -/
def kindStrike : Nat := 1
def kindRelease : Nat := 2
def kindPedal : Nat := 3
def kindGap : Nat := 4
def kindSync : Nat := 5

/-- R180: the recorder becomes FULL and reports it. -/
def captureFull (s : State) : State :=
  handReport (.captureFull s.tkr.count (takeRingSize s) s.now)
    (s.modTkr fun t => { t with state := .full, reference := none })

/-- The entry is written at the write index, which advances by one modulo the size (R173). -/
def writeTake (e : Entry) (s : State) : State :=
  (s.setMem (writeEntry s.mem (regionSize s + s.tkr.writeIndex) e)).modTkr fun t =>
    { t with writeIndex := (t.writeIndex + 1) % takeRingSize s }

/-- R180: an append. -/
def appendTake (e : Entry) (s : State) : State :=
  if s.tkr.count < takeRingSize s then
    let t := (writeTake e s).modTkr fun b => { b with count := b.count + 1 }
    if t.tkr.count = takeRingSize s ∧ s.par.takeMode = 1 then captureFull t else t
  else if s.par.takeMode = 1 then captureFull s
  else
    (writeTake e s).modTkr fun b =>
      { b with oldest := (b.oldest + 1) % takeRingSize s, overwrites := saturatingSucc b.overwrites }

/-- R177: the delta is counted from the reference sweep, which becomes now while the recorder records on. -/
def appendTimed (kind first second : Nat) (s : State) : State :=
  let delta := match s.tkr.reference with
    | some r => elapsed s.now r
    | none => 0
  let t := appendTake (takeBytes delta kind first second) s
  if t.tkr.state = .recording then t.modTkr fun b => { b with reference := some s.now } else t

/-- R174: the two low fields of a SYNC entry hold the score index. -/
def appendSync (index : Nat) (s : State) : State := appendTimed kindSync (index / 128) (index % 128) s

/-- R176: the first player event of an ARMED recorder starts the take, any armed SYNC before it. -/
def startTake (s : State) : State :=
  let t := s.modTkr fun b => { b with state := .recording, reference := some s.now, armedSync := none }
  match s.tkr.armedSync with
  | some index => appendSync index t
  | none => t

/-- R176, R177: a player event: it starts an ARMED take, is appended in RECORDING and is lost otherwise. -/
def playerEvent (kind first second : Nat) (s : State) : State :=
  match s.tkr.state with
  | .idle | .full => s
  | .recording => appendTimed kind first second s
  | .armed =>
    let t := startTake s
    if t.tkr.state = .recording then appendTimed kind first second t else t

/-- R179: a playback start or locate carrying a score index. -/
def playbackPlaced (index : Nat) (s : State) : State :=
  match s.tkr.state with
  | .recording => appendSync index s
  | .armed => s.modTkr fun b => { b with armedSync := some index }
  | .idle | .full => s

/-- R178: a GAP is due at this sweep event. -/
def gapDue (s : State) : Bool :=
  s.tkr.state == .recording &&
    match s.tkr.reference with
    | some r => elapsed s.now r == Config.gapSweeps
    | none => false

/-- R178: TKR's sweep event. -/
def recorderSweep (s : State) : State := if gapDue s then appendTimed kindGap 0 0 s else s

/-- R181: ending a take: IDLE, with the ring and its counts kept. -/
def endTake (s : State) : State :=
  s.modTkr fun t => { t with state := .idle, reference := none, armedSync := none }

/-- R175, R183, R120: the ring is emptied. -/
def emptyRing (s : State) : State :=
  s.modTkr fun t => { t with count := 0, oldest := 0, writeIndex := 0, overwrites := 0 }

end Sys2Proof.Machine
end

