-- ==== Sys2Proof/Machine/Voice.lean ====
section
/-! DEFINITION. VDP, the voice dispatcher (04, R61 to R83): holders, the enqueue rules, release evaluation, the
off-pending set, pedal frames, ALL DAMP and the Voice Link transmitter; and the commands of this family:
VOICE_FRAME_COMPLETION and HOLD_IN_CHANGE. -/

namespace Sys2Proof.Machine

/-! ### Held keys and the transmitter -/

/-- R59: a key is in the sostenuto latch set. -/
def inLatchSet (s : State) (k : Key) : Bool :=
  match s.ptr.latch with
  | none => false
  | some ks => ks.contains k

/-- R62: the held condition, computed from VDP's holders and PTR's HOLD and latch set. -/
def held (s : State) (k : Key) : Bool :=
  (s.sound k).playerHolder || (s.sound k).playbackHolder || s.ptr.hold || inLatchSet s k

/-- The NOTE-OFF frame a key is owed: its last level and last source (R61). -/
def noteOffFrame (s : State) (k : Key) : VoiceFrame := .noteOff k (s.sound k).lastLevel (s.sound k).lastSource

/-- A frame joins the queue at its tail. -/
def pushFrame (f : VoiceFrame) (s : State) : State := s.modVdp fun v => { v with queue := v.queue ++ [f] }

/-- R75: off-pending keys from the lowest: those that have become held (or stopped) leave without a frame,
until one NOTE-OFF is enqueued. -/
def refillOffPending : List Key → State → State
  | [], s => s
  | k :: ks, s =>
    let r := s.sound k
    if !r.offPending then refillOffPending ks s
    else if r.sounding && !held s k then
      pushFrame (noteOffFrame s k) (setSound k { r with offPending := false, sounding := false } s)
    else refillOffPending ks (setSound k { r with offPending := false } s)

/-- R75: the remembered change of the lowest pedal in the order DAMPER, SOFT, SOST. -/
def refillPedal (s : State) : State :=
  match [Pedal.damp, .soft, .sost].find? fun p => (s.vdp.remembered.get p).isSome with
  | none => s
  | some p =>
    match s.vdp.remembered.get p with
    | none => s
    | some level =>
      pushFrame (.pedal p level) (s.modVdp fun v => { v with remembered := v.remembered.set p none })

/-- R75: the refill of the place a departure freed: an owed NOTE-OFF before a remembered pedal change. -/
def refill (s : State) : State :=
  let t := refillOffPending allKeys s
  if t.vdp.queue.length = s.vdp.queue.length then refillPedal t else t

/-- R77, R79: the transmitter's choice when IDLE: ALL DAMP whatever HOLD_IN shows, else the head frame unless
HOLD_IN is asserted. -/
def voiceChoose (s : State) : State :=
  match s.vdp.inFlight with
  | some _ => s
  | none =>
    if s.vdp.urgent then s.modVdp fun v => { v with urgent := false, inFlight := some .allDamp }
    else if s.vdp.holdIn then s
    else
      match s.vdp.queue with
      | [] => s
      | f :: rest => refill (s.modVdp fun v => { v with queue := rest, inFlight := some f })

/-- A frame is enqueued at the tail, and the transmitter makes its choice if it is IDLE (R74, R77). -/
def voiceEnqueue (f : VoiceFrame) (s : State) : State := voiceChoose (pushFrame f s)

/-! ### Release evaluation -/

/-- R65: the release evaluation of a key. -/
def releaseEval (k : Key) (s : State) : State :=
  let r := s.sound k
  if r.sounding && !held s k then
    if r.offPending then s
    else if s.vdp.queue.length < Config.voiceQueueSize then
      voiceEnqueue (noteOffFrame s k) (setSound k { r with sounding := false } s)
    else setSound k { r with offPending := true } s
  else s

/-- R65: one event's evaluation of several keys, in the order given (ascending). -/
def releaseEvals (ks : List Key) (s : State) : State := ks.foldl (fun t k => releaseEval k t) s

/-! ### NOTE-ON -/

/-- R68: a dropped NOTE-ON is counted, and reported unless a report waits. -/
def voiceDrop (k : Key) (level : Nat) (src : NoteSource) (s : State) : State :=
  let t := s.modVdp fun v => { v with dropCount := saturatingSucc v.dropCount }
  if s.vdp.dropWaiting then t
  else
    let r := Report.voiceDrop k level src t.vdp.dropCount t.now
    (handReport r t).modVdp fun v => { v with dropWaiting := reportAccepted r t }

/-- R61, R67: the last source a NOTE-ON leaves; a guide note counts as PLAYBACK. -/
def lastSourceOf : NoteSource → LastSource
  | .player => .player
  | .playback => .playback
  | .guide => .playback

/-- R67: the enqueue rule of every NOTE-ON. -/
def noteOn (k : Key) (level : Nat) (src : NoteSource) (s : State) : State :=
  let s1 := setSound k { s.sound k with offPending := false } s
  let s2 :=
    if s1.vdp.queue.length < Config.voiceNoteLimit then
      voiceEnqueue (.noteOn k level src)
        (setSound k { s1.sound k with sounding := true, lastLevel := level, lastSource := lastSourceOf src } s1)
    else voiceDrop k level src s1
  releaseEval k s2

/-- R63: a lift sets the player holder. -/
def voiceLift (k : Key) (s : State) : State := setSound k { s.sound k with playerHolder := true } s

/-- R64: a release clears a set player holder and evaluates the key. -/
def voiceRelease (k : Key) (s : State) : State :=
  if (s.sound k).playerHolder then releaseEval k (setSound k { s.sound k with playerHolder := false } s) else s

/-- R98: the voicing gate is open but in DISENGAGED and WAIT_TO_ENGAGE. -/
def gateOpen (s : State) : Bool :=
  match s.rlc.state with
  | .disengaged | .waitToEngage => false
  | .unsettled | .engaged | .waitToDisengage | .engaging | .disengaging | .halted => true

/-- R66: a player strike is voiced when the gate is open or LAYER is 1. -/
def voiceStrike (k : Key) (level : Nat) (s : State) : State :=
  if gateOpen s || s.par.layer == 1 then noteOn k level .player s else s

/-- R69: a playback NOTE-ON sets the playback holder first. -/
def playbackOn (k : Key) (level : Nat) (s : State) : State :=
  noteOn k level .playback (setSound k { s.sound k with playbackHolder := true } s)

/-- R70: a guide note is a playback NOTE-ON whose frame carries GUIDE. -/
def guideNote (k : Key) (s : State) : State :=
  noteOn k s.par.guideLevel .guide (setSound k { s.sound k with playbackHolder := true } s)

/-- R71: a playback NOTE-OFF. -/
def playbackOff (k : Key) (s : State) : State :=
  if (s.sound k).playbackHolder then releaseEval k (setSound k { s.sound k with playbackHolder := false } s) else s

/-- R71: the keys that have a playback holder, ascending. -/
def playbackHeldKeys (s : State) : List Key := allKeys.filter fun k => (s.sound k).playbackHolder

/-- R71: every playback holder is cleared, then those keys are evaluated in ascending order. -/
def clearPlayback (s : State) : State :=
  let ks := playbackHeldKeys s
  releaseEvals ks (s.modVdp fun v => { v with table := v.table.map fun r => { r with playbackHolder := false } })

/-! ### Pedals at VDP -/

/-- A frame of a pedal's kind. -/
def isPedalFrame (p : Pedal) : VoiceFrame → Bool
  | .pedal q _ => q == p
  | _ => false

/-- R72: the level of an unsent frame of the pedal's kind is replaced in place. -/
def replacePedalFrame (p : Pedal) (level : Nat) (q : List VoiceFrame) : List VoiceFrame :=
  q.map fun f => if isPedalFrame p f then .pedal p level else f

/-- R72: an effective level change from PTR: replaced in place, enqueued or remembered. -/
def voicePedal (p : Pedal) (level : Nat) (s : State) : State :=
  if s.vdp.queue.any (isPedalFrame p) then
    s.modVdp fun v => { v with queue := replacePedalFrame p level v.queue }
  else if s.vdp.queue.length < Config.voiceQueueSize then voiceEnqueue (.pedal p level) s
  else s.modVdp fun v => { v with remembered := v.remembered.set p (some level) }

/-- R73: a HOLD deactivation evaluates every sounding key in ascending order. -/
def voiceHoldOff (s : State) : State :=
  releaseEvals (allKeys.filter fun k => (s.sound k).sounding) s

/-! ### ALL DAMP -/

/-- R80 step 2: a cleared record keeps its last level and last source. -/
def SoundRecord.cleared (r : SoundRecord) : SoundRecord :=
  { r with sounding := false, playerHolder := false, playbackHolder := false, offPending := false }

/-- R80: the ALL DAMP handling, in its five steps. -/
def allDamp (s : State) : State :=
  let s1 := s.modVdp fun v =>
    { v with queue := [], table := v.table.map SoundRecord.cleared, remembered := ⟨none, none, none⟩ }
  let s2 := voiceChoose (s1.modVdp fun v => { v with urgent := true })
  let s3 := voiceEnqueue (.pedal .damp (s.pedalRec .damp).effective) s2
  let s4 := voiceEnqueue (.pedal .soft (s.pedalRec .soft).effective) s3
  voiceEnqueue (.pedal .sost (s.pedalRec .sost).effective) s4

/-- R77, R185, R203: VLTX, in the byte format of R185: the bit times of the frame in flight, and high when none is. -/
def vltxLevels (s : State) : List Bool := lineLevels (s.vdp.inFlight.map voiceFrameBytes)

/-! ### The commands of this family -/

/-- R77: a completion returns the transmitter to IDLE and makes the choice again; an IDLE transmitter has
nothing to complete. -/
def voiceComplete (s : State) : State :=
  match s.vdp.inFlight with
  | none => s
  | some _ => voiceChoose (s.modVdp fun v => { v with inFlight := none })

/-- VOICE_FRAME_COMPLETION (R77). -/
def execVoiceFrameCompletion (s : State) : Host.Outcome State Fault Refusal := partEvent voiceComplete s

/-- HOLD_IN_CHANGE (R78): the pin's level, and on a release the choice of R77. The level of the pin is seen
whether or not RESET_N is asserted (log 7). -/
def execHoldInChange (high : Bool) (s : State) : Host.Outcome State Fault Refusal :=
  partEvent voiceChoose (s.modVdp fun v => { v with holdIn := high })

end Sys2Proof.Machine
end

