-- ==== Sys2Proof/Machine/Pedals.lean ====
section
/-! DEFINITION. PTR, the pedal tracker (03, R47 to R60): accumulation groups, player, playback and effective
levels, HOLD and the sostenuto latch set. -/

namespace Sys2Proof.Machine

/-! ### HOLD and the latch -/

/-- R56: HOLD tested against the effective damper level; a deactivation is handed to VDP. -/
def testHold (s : State) : State :=
  let level := (s.pedalRec .damp).effective
  if !s.ptr.hold && s.par.holdOn ≤ level then s.modPtr fun b => { b with hold := true }
  else if s.ptr.hold && level < s.par.holdOff then voiceHoldOff (s.modPtr fun b => { b with hold := false })
  else s

/-- R58: the keys that have a player holder or the playback holder, ascending. -/
def holderKeys (s : State) : List Key :=
  allKeys.filter fun k => (s.sound k).playerHolder || (s.sound k).playbackHolder

/-- R58, R59: the sostenuto latch tested against the effective sostenuto level. -/
def testLatch (s : State) : State :=
  let level := (s.pedalRec .sost).effective
  match s.ptr.latch with
  | none => if s.par.holdOn ≤ level then s.modPtr fun b => { b with latch := some (holderKeys s) } else s
  | some ks =>
    if level < s.par.holdOff then releaseEvals ks (s.modPtr fun b => { b with latch := none }) else s

/-- R55: after an effective level change PTR tests HOLD for the damper and the latch for the sostenuto pedal. -/
def testPedal (p : Pedal) (s : State) : State :=
  match p with
  | .soft => s
  | .sost => testLatch s
  | .damp => testHold s

/-- R55: the effective level is the greater of player and playback level; a change goes to VDP, then the
test of HOLD or the latch. -/
def recomputeEffective (p : Pedal) (s : State) : State :=
  let r := s.pedalRec p
  let level := max r.player r.playback
  if level = r.effective then s
  else testPedal p (voicePedal p level (setPedalRec p { r with effective := level } s))

/-! ### Player and playback levels -/

/-- R50, R52: an adoption of a player level: the PEDAL report, the take recorder and the effective level. -/
def adoptPlayer (p : Pedal) (level : Nat) (fault : Bool) (s : State) : State :=
  let s1 := setPedalRec p { s.pedalRec p with player := level } s
  let s2 := handReport (.pedal p level fault s.now) s1
  recomputeEffective p (playerEvent kindPedal (pedalCode p) level s2)

/-- R50: a candidate is adopted when it moved by PEDAL_STEP, or is an end and differs at all. -/
def adopts (step player candidate : Nat) : Bool :=
  (player + step ≤ candidate || candidate + step ≤ player) ||
    ((candidate == 0 || candidate == 127) && candidate != player)

/-- R50: the player level evaluated with the position of a completed group. -/
def evaluatePlayer (p : Pedal) (position : Nat) (s : State) : State :=
  if adopts s.par.pedalStep (s.pedalRec p).player (position / 32) then adoptPlayer p (position / 32) false s else s

/-- R54: a playback level write from PBE. -/
def playbackLevel (p : Pedal) (level : Nat) (s : State) : State :=
  recomputeEffective p (setPedalRec p { s.pedalRec p with playback := level } s)

/-- R134, R152: a playback level write of 0 for each of SOFT, SOST and DAMP. That they are made in the order in which the
rules name them is the model's choice (DESIGN CHOICE, log 27). -/
def clearPlaybackLevels (s : State) : State :=
  playbackLevel .damp 0 (playbackLevel .sost 0 (playbackLevel .soft 0 s))

/-! ### Accumulation -/

/-- R48: the group size N. -/
def groupSize (s : State) : Nat := 2 ^ s.par.pedalAccum

/-- R48: the next arrival completes the pedal's group. -/
def groupCompletes (p : Pedal) (s : State) : Bool := groupSize s ≤ (s.pedalRec p).count + 1

/-- R48: a sample arrival of a pedal channel with normalized position `pos`. -/
def pedalArrival (p : Pedal) (pos : Nat) (s : State) : State :=
  let r := s.pedalRec p
  if groupCompletes p s then
    evaluatePlayer p ((r.sum + pos) / groupSize s) (setPedalRec p { r with sum := 0, count := 0 } s)
  else setPedalRec p { r with sum := r.sum + pos, count := r.count + 1 } s

/-- R47, R52: the pedal's group is emptied. -/
def emptyGroup (p : Pedal) (s : State) : State :=
  setPedalRec p { s.pedalRec p with sum := 0, count := 0 } s

/-- R49: the group of every pedal is emptied. -/
def emptyGroups (s : State) : State := emptyGroup .damp (emptyGroup .sost (emptyGroup .soft s))

/-- R52: a fault notice for a pedal channel. -/
def pedalFault (p : Pedal) (s : State) : State :=
  let t := emptyGroup p s
  if (s.pedalRec p).player = 0 then t else adoptPlayer p 0 true t

/-- R53: a recovery notice: the group restarts with the position it carries. -/
def pedalRecovery (p : Pedal) (pos : Nat) (s : State) : State := pedalArrival p pos (emptyGroup p s)

end Sys2Proof.Machine
end

