-- ==== Sys2Proof/Machine/Practice.lean ====
section
/-! DEFINITION. PRM, the practice monitor (09, R157 to R172): the two lists, resolution and the tally, MUTE
deadlines, WAIT groups, the wait timer; and PBE's side of the wait release (R147). -/

namespace Sys2Proof.Machine

/-- R155: a PLAY report with PBE's items as they stand. -/
def playReport (cause : PlayCause) (s : State) : State :=
  handReport
    (.play s.pbe.state (if s.pbe.state = .paused then s.pbe.saved else none) s.pbe.source s.pbe.cursor cause none s.now) s

/-- R147: the wait release at PBE. -/
def waitRelease (s : State) : State :=
  match s.pbe.state with
  | .waiting => playReport .running (s.modPbe fun b => { b with state := .running })
  | .paused =>
    if s.pbe.saved = some .waiting then s.modPbe fun b => { b with saved := some .running } else s
  | .stopped | .running => s

/-- R157: PRM is listening. -/
def listening (s : State) : Bool :=
  (s.par.practiceMode == 1 || s.par.practiceMode == 2) &&
    (s.pbe.state == .running || s.pbe.state == .waiting)

/-- R161: one more in the tally. -/
def countResult (r : PracticeResult) (b : Prm) : Prm :=
  match r with
  | .hit => { b with hits := saturatingSucc b.hits }
  | .miss => { b with misses := saturatingSucc b.misses }
  | .wrong => { b with wrongs := saturatingSucc b.wrongs }

/-- R161: a resolution: the tally and the PRACTICE report. -/
def resolve (k : Key) (result : PracticeResult) (cause : PracticeCause) (offset : Int) (index : Option Nat)
    (s : State) : State :=
  handReport
    (.practice k result cause (clampInt (-(Config.offsetMax : Int)) Config.offsetMax offset) index s.par.practiceMode s.now)
    (s.modPrm (countResult result))

/-! ### The recent strike list -/

/-- R159: an entry is stale. -/
def stale (s : State) (e : Recent) : Bool := s.par.early < elapsed s.now e.sweep

/-- R159: an entry of the recent list is resolved WRONG; its offset is its age. -/
def resolveWrong (cause : PracticeCause) (e : Recent) (s : State) : State :=
  resolve e.key .wrong cause (elapsed s.now e.sweep) none s

/-- R159: an examination removes every stale entry, oldest first. -/
def examine (s : State) : State :=
  let old := s.prm.recent.filter (stale s)
  old.foldl (fun t e => resolveWrong .aged e t)
    (s.modPrm fun b => { b with recent := b.recent.filter fun e => !stale s e })

/-- R160: an unclaimed strike joins the recent list, which evicts its oldest entry when it holds 8. -/
def joinRecent (k : Key) (s : State) : State :=
  let s1 :=
    if s.prm.recent.length < Config.recentSize then s
    else
      match s.prm.recent with
      | [] => s
      | e :: rest => resolveWrong .evicted e (s.modPrm fun b => { b with recent := rest })
  s1.modPrm fun b => { b with recent := b.recent ++ [⟨k, s.now⟩] }

/-! ### The expectation list -/

/-- R161: a MISS; its offset is the sweeps from the note sweep to now (log 15). -/
def resolveMiss (cause : PracticeCause) (e : Expected) (s : State) : State :=
  resolve e.key .miss cause (elapsed s.now e.noteSweep) (some e.index) s

/-- R158: the entry of a key leaves the expectation list. -/
def dropExpected (k : Key) (s : State) : State :=
  s.modPrm fun b => { b with expected := b.expected.filter fun e => e.key != k }

/-- R166: an event at PRM that leaves the list empty while PBE is WAITING stops the timer and releases. -/
def releaseIfEmpty (s : State) : State :=
  if s.prm.expected.isEmpty && s.pbe.state == .waiting then
    waitRelease (s.modPrm fun b => { b with waitTimer := none })
  else s

/-- R160, R166: a player strike at PRM. -/
def practiceStrike (k : Key) (s : State) : State :=
  if !listening s then s
  else
    let t := examine s
    match t.prm.expected.find? fun e => e.key == k with
    | some e =>
      releaseIfEmpty (resolve k .hit .late (elapsed t.now e.noteSweep) (some e.index) (dropExpected k t))
    | none => joinRecent k t

/-- The most recent entry of a key in the recent list (R162). -/
def latestRecent (k : Key) (l : List Recent) : Option Recent := l.reverse.find? fun e => e.key == k

/-- R162, R164: a note credited early from the recent list, every recent entry of the key removed. -/
def creditEarly (k : Key) (index : Nat) (e : Recent) (s : State) : State :=
  resolve k .hit .early (-(elapsed s.now e.sweep : Int)) (some index)
    (s.modPrm fun b => { b with recent := b.recent.filter fun r => r.key != k })

/-- R162, R164: the note joins the expectation list at its tail. -/
def joinExpected (k : Key) (index : Nat) (deadline : Option Sweep) (s : State) : State :=
  s.modPrm fun b => { b with expected := b.expected ++ [⟨k, s.now, index, deadline⟩] }

/-- R162: an older entry of the key is resolved MISS, REPEATED. -/
def missRepeated (k : Key) (s : State) : State :=
  match s.prm.expected.find? fun e => e.key == k with
  | some e => resolveMiss .repeated e (dropExpected k s)
  | none => s

/-- R162: a list of 10 loses its oldest entry, MISS, EVICTED. -/
def missEvicted (s : State) : State :=
  if s.prm.expected.length < Config.expectSize then s
  else
    match s.prm.expected with
    | [] => s
    | e :: rest => resolveMiss .evicted e (s.modPrm fun b => { b with expected := rest })

/-- R162: an expected note in MUTE mode. -/
def expectedMute (k : Key) (index : Nat) (s : State) : State :=
  let t := examine s
  match latestRecent k t.prm.recent with
  | some e => creditEarly k index e t
  | none =>
    joinExpected k index (some (s.now + BitVec.ofNat 32 s.par.late)) (missEvicted (missRepeated k t))

/-- R164: an expected note of a WAIT group: merged, credited early, awaited, or a chord overflow. -/
def expectedWait (k : Key) (index : Nat) (s : State) : State :=
  let t := if s.prm.groupKeys.isEmpty then examine s else s
  if t.prm.groupKeys.contains k then t
  else
    let u := t.modPrm fun b => { b with groupKeys := b.groupKeys ++ [k] }
    match latestRecent k u.prm.recent with
    | some e => creditEarly k index e u
    | none => if u.prm.expected.length < Config.expectSize then joinExpected k index none u else guideNote k u

/-- R139, R162, R164: an expected NOTE_ON handed to PRM, by the mode as it stands. -/
def expectedNote (k : Key) (index : Nat) (s : State) : State :=
  if s.par.practiceMode = 1 then expectedMute k index s
  else if s.par.practiceMode = 2 then expectedWait k index s
  else s

/-- R146, R165: the close of a group: PBE enters WAITING if the list holds a key. -/
def closeGroup (s : State) : State :=
  if s.prm.expected.isEmpty then s
  else
    let t := s.modPrm fun b =>
      { b with waitTimer := if s.par.waitTimeout = 0 then none else some (s.now + BitVec.ofNat 32 s.par.waitTimeout) }
    playReport .waiting (t.modPbe fun b => { b with state := .waiting })

/-- R146, R157: the end of a run of PBE: a group that was handed is closed if PBE still runs, and the group
key set is emptied. -/
def endGroup (s : State) : State :=
  let t :=
    if !s.prm.groupKeys.isEmpty && s.pbe.state == .running && s.par.practiceMode == 2 then closeGroup s else s
  t.modPrm fun b => { b with groupKeys := [] }

/-! ### PRM's sweep event (R159: examination, deadline expiries in list order, wait timer) -/

/-- R163: the entry's deadline expires at this sweep event. -/
def deadlineDue (s : State) (e : Expected) : Bool :=
  match e.deadline with
  | some d => s.now == d + 1
  | none => false

/-- R163: the deadline expiries of a sweep event. -/
def expireDeadlines (s : State) : State :=
  let due := s.prm.expected.filter (deadlineDue s)
  due.foldl (fun t e => resolveMiss .deadline e t)
    (s.modPrm fun b => { b with expected := b.expected.filter fun e => !deadlineDue s e })

/-- R167: the wait timer expires at this sweep event. -/
def waitTimerDue (s : State) : Bool := s.prm.waitTimer == some s.now

/-- R167: one entry at the wait timer's expiry: MISS, TIMEOUT, and its guide note. -/
def missTimeout (e : Expected) (s : State) : State := guideNote e.key (resolveMiss .timeout e s)

/-- R167: the expiry of the wait timer. -/
def expireWait (s : State) : State :=
  let due := s.prm.expected
  let t := due.foldl (fun u e => missTimeout e u) (s.modPrm fun b => { b with expected := [], waitTimer := none })
  waitRelease t

/-- R159, R163, R167: PRM's sweep event. -/
def practiceSweep (s : State) : State :=
  if !listening s then s
  else
    let t := expireDeadlines (examine s)
    if waitTimerDue t then expireWait t else t

/-! ### Stops, places, pauses and mode changes -/

/-- R169: the expectation list is emptied without tally and the wait timer stopped. -/
def emptyExpected (s : State) : State := s.modPrm fun b => { b with expected := [], waitTimer := none }

/-- R169: the stop steps at PRM. -/
def practiceStop (s : State) : State :=
  s.modPrm fun b => { b with expected := [], waitTimer := none, pauseSweep := none }

/-- R150, R169: PLAY at PRM. -/
def practicePlay (s : State) : State :=
  s.modPrm fun b => { b with expected := [], recent := [], hits := 0, misses := 0, wrongs := 0 }

/-- R168: PAUSE at PRM. -/
def practicePause (s : State) : State := s.modPrm fun b => { b with pauseSweep := some s.now }

/-- R168: every sweep PRM holds is advanced by the length d of the pause. -/
def advancePractice (d : Sweep) (b : Prm) : Prm :=
  { b with
    expected := b.expected.map fun e => { e with noteSweep := e.noteSweep + d, deadline := e.deadline.map (· + d) }
    recent := b.recent.map fun e => { e with sweep := e.sweep + d }
    waitTimer := b.waitTimer.map (· + d)
    pauseSweep := none }

/-- R168: RESUME at PRM. -/
def practiceResume (s : State) : State :=
  match s.prm.pauseSweep with
  | some p => s.modPrm (advancePractice (s.now - p))
  | none => s

/-- R170: a mode change during playback; the stored values are already the new ones. -/
def modeChange (s : State) : State :=
  let t := emptyExpected s
  let u := if s.par.practiceMode = 0 then t.modPrm fun b => { b with recent := [] } else t
  waitRelease u

/-- R170: after PRACTICE_MODE or PART_MASK has been stored: a changed value while PBE is not STOPPED is a
mode change. -/
def afterModeWrite (changed : Bool) (s : State) : State :=
  if changed && s.pbe.state != .stopped then modeChange s else s

end Sys2Proof.Machine
end

