-- ==== Sys2Proof/Machine/Playback.lean ====
section
/-! DEFINITION. PBE, the playback engine (08, R133 to R156): the stop steps, the performance of score and take
entries, navigation, runs, the pulse clock and PBE's sweep event; and BEAT at the mixer (R107). -/

namespace Sys2Proof.Machine

/-! ### The stop steps and SCORE FAULT -/

/-- R134: the stop steps. -/
def stopSteps (cause : PlayCause) (s : State) : State :=
  let s1 := s.modPbe fun b => { b with state := .stopped, saved := none, stack := [], countdown := 0 }
  let s2 := practiceStop (clearPlaybackLevels (clearPlayback s1))
  if s.pbe.state = .stopped then s2 else playReport cause s2

/-- R145: DEPTH and NESTING set the stack-error flag. -/
def setsStackError : ScoreCause → Bool
  | .depth | .nesting => true
  | .range | .carry | .kind => false

/-- R145: a SCORE FAULT: the flag, the report, the stop steps with cause FAULT. -/
def scoreFault (cause : ScoreCause) (index : Nat) (s : State) : State :=
  let s1 := s.modPbe fun b => { b with stackError := b.stackError || setsStackError cause }
  stopSteps .fault (handReport (.scoreFault cause index s.pbe.stack.length s.now) s1)

/-! ### Entries -/

/-- The score entry at an index (R138: one access). -/
def scoreAt (s : State) (index : Nat) : ScoreEntry := scoreEntry (readEntry s.mem index)

/-- The take window, or an empty one. -/
def windowOf (s : State) : TakeWindow :=
  match s.pbe.window with
  | some w => w
  | none => ⟨0, 0⟩

/-- R148: the take entry at an offset of the window. -/
def takeAt (s : State) (offset : Nat) : TakeEntry :=
  takeEntry (readEntry s.mem (ringEntryIndex s (windowOf s).oldest offset))

/-- R139: a NOTE_ON of this part is expected of the learner. -/
def partExpected (s : State) (part : Nat) : Bool :=
  (s.par.practiceMode == 1 || s.par.practiceMode == 2) && s.par.partMask.testBit part

/-- R123, R139: a NOTE_ON: skipped, handed to PRM, or voiced. -/
def performNoteOn (key level part index : Nat) (s : State) : State :=
  match keyOfNumber key with
  | none => s
  | some k =>
    if partExpected s part then expectedNote k index s else playbackOn k (clamp 1 127 level) s

/-- R123, R139: a NOTE_OFF. -/
def performNoteOff (key : Nat) (s : State) : State :=
  match keyOfNumber key with
  | none => s
  | some k => playbackOff k s

/-- R124, R140: a PEDAL entry. -/
def performPedal (pedal level : Nat) (s : State) : State :=
  match pedalOfCode pedal with
  | none => s
  | some p => playbackLevel p (min 127 level) s

/-- R107: a BEAT sets the click to sound A (accent) or B at index 0. -/
def beat (accent : Bool) (s : State) : State :=
  s.modHpm fun h => { h with click := some ⟨if accent then .a else .b, 0⟩ }

/-- R140: a MARK with a nonzero number is reported with its number and index. -/
def performMark (number index : Nat) (s : State) : State :=
  if number = 0 then s
  else handReport (.play s.pbe.state none s.pbe.source index .mark (some number) s.now) s

/-- R139, R140: a score entry of kind 0..7 or 13..15 performed at its index. -/
def performScore (e : ScoreEntry) (index : Nat) (s : State) : State :=
  match e.kind with
  | 0 => stopSteps .ended s
  | 1 => performNoteOn e.a e.b e.part index s
  | 2 => performNoteOff e.a s
  | 3 => performPedal e.a e.b s
  | 4 => if s.par.metroMode = 1 then beat (e.a == 1) s else s
  | 5 => s.modPbe fun b => { b with tempo := clamp 20 300 e.unsigned }
  | 6 => performMark e.a index s
  | 7 => s
  | _ => scoreFault .kind index s

/-! ### The cursor (R137, R138) -/

/-- R138: the cursor moves to an index of the score and the entry there is loaded; an index at the region size
faults RANGE with the index given for it. -/
def moveCursor (target faultIndex : Nat) (s : State) : State :=
  let t := s.modPbe fun b => { b with cursor := target }
  if regionSize s ≤ target then scoreFault .range faultIndex t
  else t.modPbe fun b => { b with countdown := (scoreAt s target).delta }

/-! ### Navigation (R142 to R144) -/

/-- R143: the target of a JUMP or CALL lies in the score region. -/
def targetValid (s : State) (target : Int) : Bool := 0 ≤ target && target < regionSize s

/-- R143, R144: the effect of the navigation entry e at index i, with link i + 2. -/
def navigate (e : ScoreEntry) (i : Nat) (s : State) : State :=
  let link := i + 2
  let push (r : NavRecord) (t : State) : State := t.modPbe fun b => { b with stack := r :: b.stack }
  match e.kind with
  | 8 =>
    let target : Int := link + e.signed
    if targetValid s target then moveCursor target.toNat i s else scoreFault .range i s
  | 9 =>
    if !targetValid s e.unsigned then scoreFault .range i s
    else if Config.stackDepth ≤ s.pbe.stack.length then scoreFault .depth i s
    else moveCursor e.unsigned i (push (.call link) s)
  | 10 =>
    match s.pbe.stack with
    | .call r :: rest => moveCursor r i (s.modPbe fun b => { b with stack := rest })
    | _ => scoreFault .nesting i s
  | 11 =>
    if Config.stackDepth ≤ s.pbe.stack.length then scoreFault .depth i s
    else moveCursor link i (push (.loop link (max 1 e.a)) s)
  | _ =>
    match s.pbe.stack with
    | .loop start passes :: rest =>
      if passes ≤ 1 then moveCursor link i (s.modPbe fun b => { b with stack := rest })
      else moveCursor start i (s.modPbe fun b => { b with stack := .loop start (passes - 1) :: rest })
    | _ => scoreFault .nesting i s

/-- R142: a navigation entry at index i: its carry is examined and performed, then it takes effect. -/
def performNavigation (e : ScoreEntry) (i : Nat) (s : State) : State :=
  if regionSize s ≤ i + 1 then scoreFault .range i s
  else
    let c := scoreAt s (i + 1)
    if c.kind = 0 ∨ c.isNavigation then scoreFault .carry i s
    else
      let t := performScore c (i + 1) s
      if t.pbe.state = .running then navigate e i t else t

/-! ### Runs (R137) -/

/-- The run goes on: PBE still runs and the entry loaded is due at once. -/
def runGoesOn (s : State) : Bool := s.pbe.state == .running && s.pbe.countdown == 0

/-- R137, R138: the entry at the cursor of a score, not navigation, performed and the cursor advanced. -/
def scoreStep (e : ScoreEntry) (s : State) : State :=
  let t := performScore e s.pbe.cursor s
  if t.pbe.state = .running then moveCursor (t.pbe.cursor + 1) (t.pbe.cursor + 1) t else t

/-- R137: a run of a score with this many places left; a navigation entry and its carry take two. -/
def scoreRun : Nat → State → State
  | 0, s => s
  | places + 1, s =>
    let e := scoreAt s s.pbe.cursor
    if e.isNavigation then
      match places with
      | 0 => s
      | left + 1 =>
        let t := performNavigation e s.pbe.cursor s
        if runGoesOn t then scoreRun left t else t
    else
      let t := scoreStep e s
      if runGoesOn t then scoreRun places t else t

/-- R148: a take entry performed at its offset. -/
def performTake (e : TakeEntry) (offset : Nat) (s : State) : State :=
  match e.kind with
  | 1 => performNoteOn e.first e.second 0 offset s
  | 2 => performNoteOff e.first s
  | 3 => performPedal e.first e.second s
  | _ => s

/-- R148: the entry at the cursor of a take performed and the cursor advanced; past the last entry the take
is over. -/
def takeStep (s : State) : State :=
  let offset := s.pbe.cursor
  let t := (performTake (takeAt s offset) offset s).modPbe fun b => { b with cursor := offset + 1 }
  if (windowOf t).count ≤ offset + 1 then stopSteps .takeEnd t
  else t.modPbe fun b => { b with countdown := (takeAt t (offset + 1)).delta }

/-- R137: a run of a take with this many places left. -/
def takeRun : Nat → State → State
  | 0, s => s
  | places + 1, s =>
    let t := takeStep s
    if runGoesOn t then takeRun places t else t

/-- R137, R146: a run, one event at PBE, and the group test at its end. -/
def performRun (s : State) : State :=
  endGroup
    (match s.pbe.source with
    | .score => scoreRun Config.runPlaces s
    | .take => takeRun Config.runPlaces s)

/-- R137: one unit of the countdown. -/
def countDown (s : State) : State := s.modPbe fun b => { b with countdown := b.countdown - 1 }

/-- R137: one unit in RUNNING: the countdown falls if it is above 0, and a run is performed at 0. -/
def playUnit (s : State) : State :=
  let t := countDown s
  if t.pbe.countdown = 0 then performRun t else t

/-! ### The pulse clock (R135, R141) -/

/-- R135: the gain of a sweep. -/
def pulseGain (s : State) : Nat := s.pbe.tempo * s.par.tempoScale

/-- R141: the test of the beat pulse count at a pulse. -/
def beatTest (s : State) : State :=
  let b := s.pbe
  let s1 :=
    if b.beatPulse = 0 then
      let t := if s.par.metroMode = 2 then beat (b.barPosition == 0) s else s
      t.modPbe fun p =>
        { p with barPosition := if s.par.beatsPerBar ≤ p.barPosition + 1 then 0 else p.barPosition + 1 }
    else s
  s1.modPbe fun p =>
    { p with beatPulse := if Config.pulsesPerBeat ≤ p.beatPulse + 1 then 0 else p.beatPulse + 1 }

/-- R135: a pulse falls due at this sweep event. -/
def pulseDue (s : State) : Bool :=
  s.pbe.state == .running && s.pbe.source == .score && Config.pulseModulus ≤ s.pbe.acc + pulseGain s

/-- R135, R137: PBE performs a run at this sweep event: a unit passes and leaves the countdown at 0. -/
def runDue (s : State) : Bool :=
  s.pbe.state == .running && s.pbe.countdown ≤ 1 && (s.pbe.source == .take || pulseDue s)

/-- R135: the accumulator gains, and no pulse is due. -/
def accumulate (s : State) : State := s.modPbe fun b => { b with acc := b.acc + pulseGain s }

/-- R135, R141: a pulse: the accumulator loses 500,000, the beat test, then the unit. -/
def performPulse (s : State) : State :=
  playUnit (beatTest (s.modPbe fun b => { b with acc := b.acc + pulseGain s - Config.pulseModulus }))

/-- R135: PBE's sweep event. -/
def playbackSweep (s : State) : State :=
  match s.pbe.state, s.pbe.source with
  | .running, .take => playUnit s
  | .running, .score => if Config.pulseModulus ≤ s.pbe.acc + pulseGain s then performPulse s else accumulate s
  | .stopped, _ => s
  | .waiting, _ => s
  | .paused, _ => s

/-! ### Places (R149) -/

/-- The lowest index i ≥ `i` within `fuel` entries whose entry is the MARK of this number (R125, R149). -/
def findMark (s : State) (mark : Nat) : Nat → Nat → Option Nat
  | _, 0 => none
  | i, fuel + 1 =>
    let e := scoreAt s i
    if e.kind = 6 ∧ e.a = mark then some i else findMark s mark (i + 1) fuel

/-- The first offset ≥ `k` within `fuel` entries of a window whose entry is a SYNC carrying this index. -/
def findSync (s : State) (oldest index : Nat) : Nat → Nat → Option Nat
  | _, 0 => none
  | k, fuel + 1 =>
    let e := takeEntry (readEntry s.mem (ringEntryIndex s oldest k))
    if e.kind = kindSync ∧ e.syncIndex = index then some k else findSync s oldest index (k + 1) fuel

/-- R149: the score index a mark names. -/
def scorePlace (s : State) (mark : Nat) : Option Nat :=
  if mark = 0 then some 0 else (findMark s mark 0 (regionSize s)).map (· + 1)

/-- R149: the place a mark names in a source, in the given take window; none when the mark is missing. -/
def placeOf (s : State) (source : Source) (w : TakeWindow) (mark : Nat) : Option Nat :=
  match source with
  | .score => scorePlace s mark
  | .take =>
    if mark = 0 then some 0
    else
      match scorePlace s mark with
      | none => none
      | some index => (findSync s w.oldest index 0 w.count).map (· + 1)

/-- R137, R149: the cursor placed for the present source, and the countdown loaded with the entry's delta
plus one. -/
def placeCursor (place : Nat) (s : State) : State :=
  let t := s.modPbe fun b => { b with cursor := place }
  let delta := match s.pbe.source with
    | .score => (scoreAt t place).delta
    | .take => (takeAt t place).delta
  t.modPbe fun b => { b with countdown := delta + 1 }

/-- R138, R149: a place at the end of the material faults RANGE or ends the take within the same event. -/
def afterPlacing (s : State) : State :=
  match s.pbe.source with
  | .score => if regionSize s ≤ s.pbe.cursor then scoreFault .range (regionSize s) s else s
  | .take => if (windowOf s).count ≤ s.pbe.cursor then stopSteps .takeEnd s else s

end Sys2Proof.Machine
end

