-- ==== Sys2Proof/Machine/Keys.lean ====
section
/-! DEFINITION. KTR, the key tracker (02, R18 to R46): thresholds, crossing stamps, strike level, the chain of a
sample arrival, key events and their delivery, fault and recovery, the strike age; and the commands
GATE_EXPIRY and STRIKE_AGE_EXPIRY. -/

namespace Sys2Proof.Machine

/-! ### Thresholds and stamps -/

/-- R23: the return point of a threshold. -/
def returnPoint (threshold hysteresis : Nat) : Nat := max 1 (threshold - hysteresis)

/-- R36: the crossing stamp of threshold T in the arrival of sweep s, from previous p to current c. -/
def crossingStamp (s : Sweep) (p c threshold : Nat) : Stamp :=
  let f := if p < threshold then (threshold - p) * 16 / (c - p) else 0
  BitVec.ofNat 32 ((s - 1).toNat % 2 ^ 28 * 16 + f)

/-- R30: the expiry sweep of a gate opened in the arrival of sweep s. -/
def gateExpirySweep (s : Sweep) (limit : Nat) : Sweep := s - 1 + BitVec.ofNat 32 limit

/-! ### Strike level (R37 to R39) -/

/-- R37: the interval between the two stamps, clamped to 1..65535. -/
def strikeInterval (gate g2 : Stamp) : Nat := clamp 1 65535 (g2 - gate).toNat

/-- The position of a start threshold in a record. -/
def startPosition (c : CalRecord) : GateStart → Nat
  | .g1 => c.g1
  | .rpt => c.rpt

/-- R38: the speed of a strike, clamped to 0..4095. -/
def strikeSpeed (c : CalRecord) (start : GateStart) (interval : Nat) : Nat :=
  clamp 0 4095 (c.scale * 1024 * (c.g2 - startPosition c start) / (interval * (c.g2 - c.g1)))

/-- A point of a curve. -/
def curvePoint (curve : Vector Nat 33) (i : Nat) : Nat := curve[i]?.getD 1

/-- R39: the level read from a curve at a speed. -/
def strikeLevel (curve : Vector Nat 33) (speed : Nat) : Nat :=
  let i := speed / 128
  let r : Int := speed % 128
  let lo : Int := curvePoint curve i
  let hi : Int := curvePoint curve (i + 1)
  (clampInt 1 127 (lo + ((hi - lo) * r + 64) / 128)).toNat

/-- R39, R40: the curve CURVE_SELECT selects. -/
def selectedCurve (s : State) : Vector Nat 33 := s.ktr.curves[s.par.curveSelect]?.getD defaultCurve

/-- R42: the interval since the key's previous strike, saturated at 65,535. -/
def sinceLastStrike (now : Sweep) : Option Sweep → Nat
  | some t => min 65535 (elapsed now t)
  | none => 65535

/-! ### Key events -/

/-- What a key raises (02 section 2.6). -/
inductive KeyEvent where
  | lift
  | strike (level speed : Nat) (repeated : Bool) (interval : Nat)
  | release (fault : Bool)
  deriving DecidableEq, Repr

/-- What the evaluation of an arrival reads beside the key record. -/
structure ArrivalContext where
  sweep : Sweep
  hysteresis : Nat
  gateLimit : Nat
  curve : Vector Nat 33

/-- The key record and the events raised so far in a chain (R24). -/
structure Chain where
  record : KeyRecord
  events : List KeyEvent

/-- R28, R33: entry into GATED at a threshold: stamp, start threshold and gate timer. -/
def openGate (x : ArrivalContext) (r : KeyRecord) (start : GateStart) : KeyRecord :=
  { r with
    state := .gated
    gate := some ⟨crossingStamp x.sweep r.previous r.current (startPosition r.cal start), start,
      gateExpirySweep x.sweep x.gateLimit⟩ }

/-- R29, R42: the strike of a key whose gate is g: the event it raises. -/
def strikeEvent (x : ArrivalContext) (r : KeyRecord) (g : Gate) : KeyEvent :=
  let g2 := crossingStamp x.sweep r.previous r.current r.cal.g2
  let speed := strikeSpeed r.cal g.start (strikeInterval g.stamp g2)
  .strike (strikeLevel x.curve speed) speed (g.start == .rpt) (sinceLastStrike x.sweep r.lastStrike)

/-- R25 to R33: one test of the key's state that holds at the current position, if any. -/
def keyStep (x : ArrivalContext) (c : Chain) : Option Chain :=
  let r := c.record
  let p := r.current
  let back (threshold : Nat) : Bool := p < returnPoint threshold x.hysteresis
  match r.state with
  | .init => none
  | .faulted => none
  | .startHeld => if back r.cal.dmp then some ⟨{ r with state := .rest }, c.events⟩ else none
  | .rest => if r.cal.dmp ≤ p then some ⟨{ r with state := .lifted }, c.events ++ [.lift]⟩ else none
  | .lifted =>
    if r.cal.g1 ≤ p then some ⟨openGate x r .g1, c.events⟩
    else if back r.cal.dmp then some ⟨{ r with state := .rest }, c.events ++ [.release false]⟩
    else none
  | .gated =>
    if r.cal.g2 ≤ p then
      match r.gate with
      | some g =>
        some ⟨{ r with state := .struck, gate := none, lastStrike := some x.sweep }, c.events ++ [strikeEvent x r g]⟩
      | none => none
    else if back r.cal.g1 then some ⟨{ r with state := .lifted, gate := none }, c.events⟩
    else none
  | .creep => if back r.cal.g1 then some ⟨{ r with state := .lifted }, c.events⟩ else none
  | .struck => if back r.cal.rpt then some ⟨{ r with state := .rearm }, c.events⟩ else none
  | .rearm =>
    if r.cal.rpt ≤ p then some ⟨openGate x r .rpt, c.events⟩
    else if back r.cal.dmp then some ⟨{ r with state := .rest }, c.events ++ [.release false]⟩
    else none

/-- R24: the chain of one arrival: tests until none holds. No state is entered twice, so the nine states
bound the chain. -/
def keyChain (x : ArrivalContext) : Nat → Chain → Chain
  | 0, c => c
  | n + 1, c =>
    match keyStep x c with
    | none => c
    | some d => keyChain x n d

/-- R20: a pending record becomes the record in effect. -/
def adoptCal (r : KeyRecord) : KeyRecord :=
  match r.pendingCal with
  | some c => { r with cal := c, pendingCal := none }
  | none => r

/-- R20: adoption as the last step of an arrival that ends in REST. -/
def adoptAtRest (r : KeyRecord) : KeyRecord := if r.state = .rest then adoptCal r else r

/-- R44: at each arrival the key's own last strike sweep becomes absent at an age of 65,535. -/
def ageStrike (now : Sweep) (r : KeyRecord) : KeyRecord :=
  match r.lastStrike with
  | some t => if Config.strikeAge ≤ elapsed now t then { r with lastStrike := none } else r
  | none => r

/-- R25, R35: a key placed by a position: REST below DMP, else START_HELD; both positions are P. -/
def placeKey (p : Nat) (r : KeyRecord) : KeyRecord :=
  { r with state := if p < r.cal.dmp then .rest else .startHeld, current := p, previous := p }

/-- R22, R24, R25: a sample arrival at a key record: the record after it and the events raised. -/
def arriveKey (x : ArrivalContext) (p : Nat) (r : KeyRecord) : Chain :=
  if r.state = .init then ⟨placeKey p r, []⟩
  else
    let moved := { ageStrike x.sweep r with previous := r.current, current := p }
    let c := keyChain x 9 ⟨moved, []⟩
    ⟨adoptAtRest c.record, c.events⟩

/-! ### Delivery of events (R41 to R43; the order among blocks is log 23) -/

/-- R42: RLC's state marks the strike TRANSIT. -/
def railInTransit (s : State) : Bool := s.rlc.state == .engaging || s.rlc.state == .disengaging

/-- R44: the device-wide last strike sweep and the strike age timer. -/
def noteStrike (s : State) : State :=
  s.modKtr fun b =>
    { b with lastStrike := some s.now, strikeAge := some (s.now + BitVec.ofNat 32 Config.strikeAge) }

/-- R42: a strike goes to VDP, PRM, TKR and LNK. -/
def deliverStrike (k : Key) (level speed : Nat) (repeated : Bool) (interval : Nat) (s : State) : State :=
  let transit := railInTransit s
  let s1 := voiceStrike k level (noteStrike s)
  let s2 := practiceStrike k s1
  let s3 := playerEvent kindStrike (keyNumber k) level s2
  handReport (.strike k level speed repeated transit false interval s.now) s3

/-- R43: a release goes to VDP, TKR and LNK. -/
def deliverRelease (k : Key) (fault : Bool) (s : State) : State :=
  handReport (.release k fault false s.now) (playerEvent kindRelease (keyNumber k) 0 (voiceRelease k s))

/-- R41 to R43: one event of a key. -/
def deliverKeyEvent (k : Key) (s : State) : KeyEvent → State
  | .lift => voiceLift k s
  | .strike level speed repeated interval => deliverStrike k level speed repeated interval s
  | .release fault => deliverRelease k fault s

/-- 1 for a key in GATED, else 0. -/
def gatedOne (r : KeyRecord) : Nat := if r.state = .gated then 1 else 0

/-- R45: the key record is replaced and the GATED count follows the key's entry into or exit from GATED. -/
def replaceKey (k : Key) (r : KeyRecord) (s : State) : State :=
  (setKeyRec k r s).modKtr fun b => { b with gatedCount := b.gatedCount + gatedOne r - gatedOne (s.keyRec k) }

/-- What an arrival reads (R23, R30, R39). -/
def arrivalContext (s : State) : ArrivalContext :=
  ⟨s.now, s.par.hysteresis, s.par.gateLimit, selectedCurve s⟩

/-- R24: a sample arrival at KTR. -/
def keyArrival (k : Key) (p : Nat) (s : State) : State :=
  let c := arriveKey (arrivalContext s) p (s.keyRec k)
  c.events.foldl (deliverKeyEvent k) (replaceKey k c.record s)

/-- R22: a key is lifted. -/
def KeyState.isLifted : KeyState → Bool
  | .lifted | .gated | .creep | .struck | .rearm => true
  | .init | .startHeld | .rest | .faulted => false

/-- R34: a fault notice at KTR. -/
def keyFault (k : Key) (s : State) : State :=
  let r := s.keyRec k
  let t := replaceKey k (adoptCal { r with state := .faulted, gate := none, lastStrike := none }) s
  if r.state.isLifted then deliverRelease k true t else t

/-- R35: a recovery notice at KTR. -/
def keyRecovery (k : Key) (p : Nat) (s : State) : State :=
  if (s.keyRec k).state = .faulted then replaceKey k (placeKey p (s.keyRec k)) s else s

/-! ### Timers -/

/-- R30: the gate timer of a key expires in this sweep. -/
def gateExpiryDue (s : State) (k : Key) : Bool :=
  (s.keyRec k).state == .gated &&
    match (s.keyRec k).gate with
    | some g => g.expiry == s.now
    | none => false

/-- R30: the expiry: the key goes to CREEP and its gate is cleared. -/
def expireGate (k : Key) (s : State) : State :=
  if gateExpiryDue s k then replaceKey k { s.keyRec k with state := .creep, gate := none } s else s

/-- R44: the strike age timer expires in this sweep. -/
def expireStrikeAge (s : State) : State :=
  if s.ktr.strikeAge = some s.now then s.modKtr fun b => { b with lastStrike := none, strikeAge := none } else s

/-- GATE_EXPIRY (R30); not due, the event does not come about (log 2). -/
def execGateExpiry (k : Key) (s : State) : Host.Outcome State Fault Refusal := partEvent (expireGate k) s

/-- STRIKE_AGE_EXPIRY (R44); not due, the event does not come about (log 2). -/
def execStrikeAgeExpiry (s : State) : Host.Outcome State Fault Refusal := partEvent expireStrikeAge s

end Sys2Proof.Machine
end

