-- ==== Sys2Proof/Machine/Rail.lean ====
section
/-! DEFINITION. RLC, the hammer-stop rail controller (05, R84 to R100): keys quiet, requests, waits, moves, the
drift watch, sensor faults and RAIL reports; and the commands RAIL_WAIT_EXPIRY and RAIL_MOVE_EXPIRY. -/

namespace Sys2Proof.Machine

/-! ### States, reports and the quiet test -/

/-- R86: the motor drive of a rail state. -/
def driveOf : RailState → Drive
  | .engaging => .inward
  | .disengaging => .outward
  | .unsettled | .engaged | .disengaged | .waitToEngage | .waitToDisengage | .halted => .off

/-- R86: an entry into a state sets the motor drive. -/
def enterRail (st : RailState) (s : State) : State := s.modRlc fun b => { b with state := st, drive := driveOf st }

def originState : WaitOrigin → RailState
  | .engaged => .engaged
  | .disengaged => .disengaged
  | .halted => .halted

/-- R99: a RAIL report with the state and position as they stand. -/
def railReport (outcome : RailOutcome) (cause : RailCause) (target : Option RailTarget) (s : State) : State :=
  handReport (.rail s.rlc.state outcome cause target s.rlc.position s.now) s

/-- R99: the target of a wait or move. -/
def railTargetOf : RailState → Option RailTarget
  | .waitToEngage | .engaging => some .inward
  | .waitToDisengage | .disengaging => some .outward
  | .unsettled | .engaged | .disengaged | .halted => none

/-- R89: keys quiet. -/
def keysQuiet (s : State) : Bool :=
  s.ktr.gatedCount == 0 &&
    match s.ktr.lastStrike with
    | none => true
    | some t => s.par.settle ≤ elapsed s.now t

/-- The moving state toward a target. -/
def movingState : RailTarget → RailState
  | .inward => .engaging
  | .outward => .disengaging

/-- The wait state toward a target. -/
def waitState : RailTarget → RailState
  | .inward => .waitToEngage
  | .outward => .waitToDisengage

/-- R91, R94: a move starts: the state, the drive, the move timer and the MOVING report. -/
def startMove (target : RailTarget) (s : State) : State :=
  let t := (enterRail (movingState target) s).modRlc fun b =>
    { b with waitOrigin := none, waitTimer := none, moveTimer := some (s.now + BitVec.ofNat 32 s.par.railTimeout) }
  railReport .moving .none (some target) t

/-- R91: a wait starts. -/
def startWait (target : RailTarget) (origin : WaitOrigin) (s : State) : State :=
  let timer := if s.par.railWait = 0 then none else some (s.now + BitVec.ofNat 32 s.par.railWait)
  let t := (enterRail (waitState target) s).modRlc fun b => { b with waitOrigin := some origin, waitTimer := timer }
  railReport .waiting .none (some target) t

/-- R92, R94, R97: a wait ends without a move: back to the wait origin, with a report. -/
def endWait (outcome : RailOutcome) (cause : RailCause) (s : State) : State :=
  match s.rlc.waitOrigin with
  | none => s
  | some o =>
    let t := (enterRail (originState o) s).modRlc fun b =>
      { b with waitOrigin := none, waitTimer := none, drift := 0 }
    railReport outcome cause (railTargetOf s.rlc.state) t

/-- R95 to R97: the rail is halted for a cause. -/
def haltRail (cause : RailCause) (s : State) : State :=
  let t := (enterRail .halted s).modRlc fun b => { b with waitOrigin := none, waitTimer := none, moveTimer := none }
  railReport .halted cause (railTargetOf s.rlc.state) t

/-! ### The drift watch (R96) -/

/-- R96: whether a position lies outside the drift band; none where no band holds. -/
def outsideBand (s : State) (p : Nat) : Option Bool :=
  let isIn := p + s.par.railDrift < s.par.railInLimit
  let isOut := s.par.railOutLimit + s.par.railDrift < p
  match s.rlc.state, s.rlc.waitOrigin with
  | .engaged, _ => some isIn
  | .waitToDisengage, some .engaged => some isIn
  | .disengaged, _ => some isOut
  | .waitToEngage, some .disengaged => some isOut
  | _, _ => none

/-- R96: the rail is halted for drift, and the exception follows. -/
def driftHalt (s : State) : State :=
  let t := haltRail .drift s
  handReport (.railDrift s.rlc.state t.rlc.position t.now) t

/-- R96: one position tested by the drift watch. -/
def driftTest (p : Nat) (s : State) : State :=
  match outsideBand s p with
  | none => s
  | some false => s.modRlc fun b => { b with drift := 0 }
  | some true =>
    let t := s.modRlc fun b => { b with drift := b.drift + 1 }
    if Config.driftLimit ≤ t.rlc.drift then driftHalt t else t

/-! ### Arrivals and notices -/

/-- R88: the state a position derives. -/
def derivedState (s : State) (p : Nat) : RailState :=
  if s.par.railInLimit ≤ p then .engaged else if p ≤ s.par.railOutLimit then .disengaged else .halted

/-- R88: the derivation, its SETTLED report and the first drift test. -/
def deriveRail (p : Nat) (s : State) : State :=
  let t := (enterRail (derivedState s p) s).modRlc fun b => { b with drift := 0 }
  driftTest p (railReport .settled .none none t)

/-- R95: the move is complete. -/
def completeMove (st : RailState) (s : State) : State :=
  let t := (enterRail st s).modRlc fun b => { b with moveTimer := none, drift := 0 }
  railReport .done .none (railTargetOf s.rlc.state) t

/-- R88, R94 to R96: the tests of the rail state at an arrival whose position is stored. -/
def testRail (p : Nat) (s : State) : State :=
  match s.rlc.state with
  | .unsettled => deriveRail p s
  | .halted => s
  | .engaged => driftTest p s
  | .disengaged => driftTest p s
  | .waitToEngage => if keysQuiet s then startMove .inward s else driftTest p s
  | .waitToDisengage => if keysQuiet s then startMove .outward s else driftTest p s
  | .engaging => if s.par.railInLimit ≤ p then completeMove .engaged s else s
  | .disengaging => if p ≤ s.par.railOutLimit then completeMove .disengaged s else s

/-- R85: the position is stored before the tests. -/
def railArrival (p : Nat) (s : State) : State := testRail p (s.modRlc fun b => { b with position := p })

/-- R96: the arrival that would bring the drift count to 64. -/
def driftHaltDue (s : State) (p : Nat) : Bool :=
  !((s.rlc.state == .waitToEngage || s.rlc.state == .waitToDisengage) && keysQuiet s) &&
    outsideBand s p == some true && Config.driftLimit ≤ s.rlc.drift + 1

/-- R97: a fault notice for the RAIL channel. -/
def railFault (s : State) : State :=
  let t := s.modRlc fun b => { b with faulted := true, drift := 0 }
  match s.rlc.state with
  | .unsettled | .engaged | .disengaged | .halted => t
  | .waitToEngage | .waitToDisengage => endWait .cancelled .fault t
  | .engaging | .disengaging => haltRail .fault t

/-- R97: a recovery notice for the RAIL channel. -/
def railRecovery (p : Nat) (s : State) : State :=
  let t := s.modRlc fun b => { b with faulted := false, position := p }
  match s.rlc.state with
  | .unsettled => deriveRail p t
  | .engaged | .disengaged => driftTest p t
  | .halted | .waitToEngage | .waitToDisengage | .engaging | .disengaging => t

/-! ### Requests (R91 to R93) -/

/-- R91: a request from a rest state starts a move if the keys are quiet, else a wait. -/
def requestFromRest (target : RailTarget) (origin : WaitOrigin) (s : State) : State :=
  let t := s.modRlc fun b => { b with drift := 0 }
  if keysQuiet s then startMove target t else startWait target origin t

/-- R93: a reversal: the other moving state, the timer restarted, no quiet test. -/
def reverseMove (target : RailTarget) (s : State) : State :=
  let t := (enterRail (movingState target) s).modRlc fun b =>
    { b with moveTimer := some (s.now + BitVec.ofNat 32 s.par.railTimeout) }
  railReport .reversed .none (some target) t

/-- R91 to R93: a request that has passed the checks of R90. -/
def railRequest (target : RailTarget) (s : State) : State :=
  match s.rlc.state, target with
  | .engaged, .inward => s
  | .engaged, .outward => requestFromRest .outward .engaged s
  | .disengaged, .inward => requestFromRest .inward .disengaged s
  | .disengaged, .outward => s
  | .halted, t => requestFromRest t .halted s
  | .waitToEngage, .inward => s
  | .waitToEngage, .outward => endWait .cancelled .none s
  | .waitToDisengage, .inward => endWait .cancelled .none s
  | .waitToDisengage, .outward => s
  | .engaging, .inward => s
  | .engaging, .outward => reverseMove .outward s
  | .disengaging, .inward => reverseMove .inward s
  | .disengaging, .outward => s
  | .unsettled, _ => s

/-! ### Timers -/

/-- R94: the wait timer's expiry in this sweep. -/
def expireRailWait (s : State) : State :=
  if s.rlc.waitTimer = some s.now then endWait .notQuiet .none s else s

/-- R95, R99: the move timer's expiry in this sweep: the halt, then the RAIL TIMEOUT exception. -/
def expireRailMove (s : State) : State :=
  if s.rlc.moveTimer = some s.now then
    let t := haltRail .timeout s
    handReport (.railTimeout s.rlc.state t.rlc.position t.now) t
  else s

/-- RAIL_WAIT_EXPIRY (R94); not due, the event does not come about (log 2). -/
def execRailWaitExpiry (s : State) : Host.Outcome State Fault Refusal := partEvent expireRailWait s

/-- RAIL_MOVE_EXPIRY (R95); not due, the event does not come about (log 2). -/
def execRailMoveExpiry (s : State) : Host.Outcome State Fault Refusal := partEvent expireRailMove s

end Sys2Proof.Machine
end

