-- ==== Sys2Proof/Machine/Scanner.lean ====
section
/-! DEFINITION. SCN, the sensor scanner (01, R2 to R17): the raw watch, the fault window, normalization, delivery
and the notices; and the commands CONVERSION, CHANNEL_FAULT, CHANNEL_RECOVERY, PEDAL_GROUP_COMPLETE and
RAIL_DRIFT_HALT, of which the last four are a conversion named for what comes about in it (log 1). -/

namespace Sys2Proof.Machine

/-! ### The record in effect (R2, R11) -/

/-- The raw limits and normalization points of a channel. -/
def channelCal (s : State) : Channel → PcalRecord
  | .key k => ⟨(s.keyRec k).cal.restRaw, (s.keyRec k).cal.fullRaw, (s.keyRec k).cal.floor, (s.keyRec k).cal.ceil⟩
  | .pedal p => (s.pedalRec p).cal
  | .rail => s.rlc.cal

/-- A raw sample is inside the window FLOOR..CEIL (01, Channel health). -/
def inWindow (c : PcalRecord) (r : Raw) : Bool := c.floor ≤ r.toNat && r.toNat ≤ c.ceil

/-- R7: the side of an outside sample, low below FLOOR, else high. With FLOOR above CEIL a sample between them lies
below FLOOR and above CEIL at once, and R7 does not say which side it then has: LOW is the model's choice (DESIGN
CHOICE, log 25). -/
def sideOf (c : PcalRecord) (r : Raw) : Side := if r.toNat < c.floor then .low else .high

/-- R10: the normalized position. -/
def normalize (c : PcalRecord) (r : Raw) : Nat :=
  (clampInt 0 4095 ((((r.toNat : Int) - c.restRaw) * 4096).tdiv ((c.fullRaw : Int) - c.restRaw))).toNat

/-! ### The raw watch (R14 to R16) -/

/-- R15: the watch after the sample of sweep `now` has been appended. -/
def watchAppend (now : Sweep) (r : Raw) (w : Watch) : Watch :=
  { w with
    first := if w.buffer.isEmpty then some now else w.first
    buffer := w.buffer ++ [r]
    remaining := w.remaining - 1 }

/-- A WATCH report of the buffer; an empty buffer carries the present sweep (R16). -/
def watchReport (now : Sweep) (w : Watch) (final : Bool) : Report :=
  .watch w.channel (w.first.getD now) w.buffer final

/-- R15: the watched channel's sample is gathered, and a full or final buffer is sent. -/
def watchGather (c : Channel) (r : Raw) (s : State) : State :=
  match s.scn.watch with
  | none => s
  | some w =>
    if w.channel = c ∧ w.started then
      let w' := watchAppend s.now r w
      if w'.remaining = 0 then
        handReport (watchReport s.now w' true) (s.modScn fun b => { b with watch := none })
      else if Config.watchReport ≤ w'.buffer.length then
        handReport (watchReport s.now w' false)
          (s.modScn fun b => { b with watch := some { w' with buffer := [], first := none } })
      else s.modScn fun b => { b with watch := some w' }
    else s

/-- R16: an active watch is closed: its buffer is sent as a final report and the watch becomes inactive. -/
def closeWatch (s : State) : State :=
  match s.scn.watch with
  | none => s
  | some w => handReport (watchReport s.now w true) (s.modScn fun b => { b with watch := none })

/-! ### Delivery and notices (R12, R13) -/

/-- R12: a sample arrival at the owner of the channel. -/
def deliverSample (c : Channel) (p : Nat) (s : State) : State :=
  match c with
  | .key k => keyArrival k p s
  | .pedal q => pedalArrival q p s
  | .rail => railArrival p s

/-- R13: a fault notice at the owner. -/
def deliverFault (c : Channel) (s : State) : State :=
  match c with
  | .key k => keyFault k s
  | .pedal q => pedalFault q s
  | .rail => railFault s

/-- R13: a recovery notice at the owner. -/
def deliverRecovery (c : Channel) (p : Nat) (s : State) : State :=
  match c with
  | .key k => keyRecovery k p s
  | .pedal q => pedalRecovery q p s
  | .rail => railRecovery p s

/-! ### Judgement (R7, R8) -/

/-- R7: the sample makes an OK channel FAULTED. -/
def faultsNow (s : State) (c : Channel) (r : Raw) : Bool :=
  !inWindow (channelCal s c) r && s.par.faultPersist ≤ (s.channel c).persistence + 1

/-- R8: the sample makes a FAULTED channel OK. -/
def recoversNow (s : State) (c : Channel) (r : Raw) : Bool :=
  inWindow (channelCal s c) r && s.par.recoverPersist ≤ (s.channel c).recovery + 1

/-- R7: the channel becomes FAULTED: the SENSOR FAULT report and the fault notice. -/
def faultChannel (c : Channel) (r : Raw) (s : State) : State :=
  let t := setChannel c { s.channel c with health := .faulted, persistence := 0, recovery := 0 } s
  deliverFault c (handReport (.sensorFault c (sideOf (channelCal s c) r) r s.now) t)

/-- R8: the channel becomes OK: the SENSOR RECOVERED report and the recovery notice with the position. -/
def recoverChannel (c : Channel) (r : Raw) (s : State) : State :=
  let t := setChannel c { s.channel c with health := .ok, persistence := 0, recovery := 0 } s
  deliverRecovery c (normalize (channelCal s c) r) (handReport (.sensorRecovered c r s.now) t)

/-- R7: a RUNNING sample of an OK channel. -/
def judgeOk (c : Channel) (r : Raw) (s : State) : State :=
  if faultsNow s c r then faultChannel c r s
  else
    let count := if inWindow (channelCal s c) r then 0 else (s.channel c).persistence + 1
    deliverSample c (normalize (channelCal s c) r) (setChannel c { s.channel c with persistence := count } s)

/-- R8: a RUNNING sample of a FAULTED channel. -/
def judgeFaulted (c : Channel) (r : Raw) (s : State) : State :=
  if recoversNow s c r then recoverChannel c r s
  else
    let count := if inWindow (channelCal s c) r then (s.channel c).recovery + 1 else 0
    setChannel c { s.channel c with recovery := count } s

/-- R2, R4, R7, R8, R15: the conversion of one channel to a raw sample. -/
def convert (c : Channel) (r : Raw) (s : State) : State :=
  let t := watchGather c r (setChannel c { s.channel c with lastRaw := r } s)
  match t.scn.state with
  | .warmup => t
  | .running =>
    match (t.channel c).health with
    | .ok => judgeOk c r t
    | .faulted => judgeFaulted c r t

/-! ### The commands of this family -/

/-- A RUNNING conversion of a channel whose health is h. -/
def convertsWith (s : State) (c : Channel) (h : Health) : Bool :=
  s.scn.state == .running && (s.channel c).health == h

/-- R7: this conversion faults the channel. -/
def channelFaultDue (c : Channel) (r : Raw) (s : State) : Bool := convertsWith s c .ok && faultsNow s c r

/-- R8: this conversion recovers the channel. -/
def channelRecoveryDue (c : Channel) (r : Raw) (s : State) : Bool := convertsWith s c .faulted && recoversNow s c r

/-- R7: this conversion is delivered to the owner as a sample arrival. -/
def sampleDelivered (c : Channel) (r : Raw) (s : State) : Bool := convertsWith s c .ok && !faultsNow s c r

/-- R48: this conversion completes the pedal's group. -/
def groupCompleteDue (p : Pedal) (r : Raw) (s : State) : Bool :=
  sampleDelivered (.pedal p) r s && groupCompletes p s

/-- R96: this conversion halts the rail for drift. -/
def railDriftDue (r : Raw) (s : State) : Bool :=
  sampleDelivered .rail r s && driftHaltDue s (normalize s.rlc.cal r)

/-- An event named for what comes about in a larger one: the larger event where that comes about, and nothing
where it does not (log 1). -/
def onlyWhen (due : State → Bool) (effect : State → State) (s : State) : State := if due s then effect s else s

/-- CONVERSION (R2). -/
def execConversion (c : Channel) (r : Raw) (s : State) : Host.Outcome State Fault Refusal :=
  partEvent (convert c r) s

/-- CHANNEL_FAULT (R7). -/
def execChannelFault (c : Channel) (r : Raw) (s : State) : Host.Outcome State Fault Refusal :=
  partEvent (onlyWhen (channelFaultDue c r) (convert c r)) s

/-- CHANNEL_RECOVERY (R8). -/
def execChannelRecovery (c : Channel) (r : Raw) (s : State) : Host.Outcome State Fault Refusal :=
  partEvent (onlyWhen (channelRecoveryDue c r) (convert c r)) s

/-- PEDAL_GROUP_COMPLETE (R48). -/
def execPedalGroupComplete (p : Pedal) (r : Raw) (s : State) : Host.Outcome State Fault Refusal :=
  partEvent (onlyWhen (groupCompleteDue p r) (convert (.pedal p) r)) s

/-- RAIL_DRIFT_HALT (R96). -/
def execRailDriftHalt (r : Raw) (s : State) : Host.Outcome State Fault Refusal :=
  partEvent (onlyWhen (railDriftDue r) (convert .rail r)) s

end Sys2Proof.Machine
end

