-- ==== Sys2Proof/Machine/Mixer.lean ====
section
/-! DEFINITION. HPM, the headphone mixer (06, R101 to R117): the five stages of an output sample period; and the
commands OUTPUT_SAMPLE_PERIOD, JACK_ADOPTION and CLICK_END, of which the last two are the same event named
for what comes about in it (log 1). -/

namespace Sys2Proof.Machine

/-- R114: the target of the master gain, LOUD[VOLUME] with a plug and 0 without. -/
def gainTarget (s : State) : Nat :=
  match s.hpm.jack with
  | .plug => s.hpm.loud[s.par.volume]?.getD 0
  | .none => 0

/-- R115: the reading of the JACK pin. -/
def jackReading (high : Bool) : Jack := if high then .plug else .none

/-- R115: this reading is adopted. -/
def jackAdopts (s : State) (high : Bool) : Bool :=
  jackReading high != s.hpm.jack && Config.jackPeriods ≤ s.hpm.jackCount + 1

/-- R115, stage 1: the jack reading. -/
def jackStage (high : Bool) (s : State) : State :=
  if jackReading high = s.hpm.jack then s.modHpm fun h => { h with jackCount := 0 }
  else if jackAdopts s high then
    let t := s.modHpm fun h => { h with jack := jackReading high, jackCount := 0 }
    handReport (.jack t.hpm.jack s.par.volume (gainTarget t) s.now) t
  else s.modHpm fun h => { h with jackCount := h.jackCount + 1 }

/-- R114: one step of the master gain toward a target. -/
def gainStep (step gain target : Nat) : Nat :=
  if gain ≤ target then min target (gain + step) else max target (gain - step)

/-- R114, stage 2. -/
def gainStage (s : State) : State :=
  s.modHpm fun h => { h with gain := gainStep s.par.rampStep h.gain (gainTarget s) }

/-- The samples of a sound. -/
def soundTable (h : Hpm) : Sound → Vector ClickSample 256
  | .a => h.clickA
  | .b => h.clickB

/-- R108, stage 3: the click contribution c of the period. -/
def clickContribution (h : Hpm) : Int :=
  match h.click with
  | none => 0
  | some c => ((soundTable h c.sound)[c.index]?.getD 0).toInt * 256

/-- R109, R110: weighting by a gain and rounding to nearest, halves upward. -/
def roundGain (x : Int) : Int := (x + 16384) / 32768

/-- R109: the mix of one channel. -/
def mixOf (s : State) (t : Tone) : Int :=
  roundGain (t.toInt * s.par.gTone + clickContribution s.hpm * s.par.gClick)

/-- R110: the output of one channel before saturation. -/
def outOf (s : State) (t : Tone) : Int := roundGain (mixOf s t * s.hpm.gain)

/-- R110: a channel saturates. -/
def saturates (x : Int) : Bool := x < -8388608 || 8388607 < x

/-- R110: the output sample. -/
def outputSample (x : Int) : Tone := BitVec.ofInt 24 (clampInt (-8388608) 8388607 x)

/-- R111: the channels that saturated. -/
def limitSide (left right : Bool) : LimitSide := if left then (if right then .both else .left) else .right

/-- R111: LIMIT and its report. -/
def limitStage (left right : Int) (s : State) : State :=
  if (saturates left || saturates right) && !s.hpm.limit then
    handReport
      (.audioLimit (limitSide (saturates left) (saturates right)) (if saturates left then left else right) s.hpm.gain s.now)
      (s.modHpm fun h => { h with limit := true })
  else s

/-- R109 to R111, stage 4: mix, scale, saturate. -/
def mixStage (l r : Tone) (s : State) : State :=
  (limitStage (outOf s l) (outOf s r) s).modHpm fun h =>
    { h with outLeft := outputSample (outOf s l), outRight := outputSample (outOf s r) }

/-- R108, stage 5: the click advances, and becomes idle past index 255. -/
def advanceClick (c : Click) : Option Click := if c.index < 255 then some { c with index := c.index + 1 } else none

/-- R108, stage 5. -/
def clickStage (s : State) : State := s.modHpm fun h => { h with click := h.click.bind advanceClick }

/-- R103: the output sample period. -/
def samplePeriod (f : AudioFrame) (s : State) : State :=
  clickStage (mixStage f.left f.right (gainStage (jackStage f.jackHigh s)))

/-- R101, R103: WCLK and HDOUT in the 64 bit periods of the present frame; both are low while the clocks stand
still, which they do while RESET_N is asserted. -/
def audioOutput (s : State) : List (Bool × Bool) :=
  if s.hpm.clocks then audioFramePeriods s.hpm.outLeft s.hpm.outRight else List.replicate 64 (false, false)

/-- R115: this period adopts the jack reading. -/
def jackAdoptionDue (f : AudioFrame) (s : State) : Bool := jackAdopts s f.jackHigh

/-- R108: this period plays the click's last sample. -/
def clickEndDue (s : State) : Bool :=
  match s.hpm.click with
  | some c => 255 ≤ c.index
  | none => false

/-- OUTPUT_SAMPLE_PERIOD (R103). -/
def execOutputSamplePeriod (f : AudioFrame) (s : State) : Host.Outcome State Fault Refusal :=
  partEvent (samplePeriod f) s

/-- JACK_ADOPTION (R115). -/
def execJackAdoption (f : AudioFrame) (s : State) : Host.Outcome State Fault Refusal :=
  partEvent (onlyWhen (jackAdoptionDue f) (samplePeriod f)) s

/-- CLICK_END (R108). -/
def execClickEnd (f : AudioFrame) (s : State) : Host.Outcome State Fault Refusal :=
  partEvent (onlyWhen clickEndDue (samplePeriod f)) s

end Sys2Proof.Machine
end

