-- ==== Sys2Proof/Machine/Receiver.lean ====
section
/-! DEFINITION. LNK's receiver between bytes (R187, R188): the inter-byte timer, frames abandoned and dropped;
and the command INTER_BYTE_TIMEOUT. -/

namespace Sys2Proof.Machine

/-- R187, R188: a frame is dropped or abandoned: HUNT, the timer stopped, BAD FRAMES counted. -/
def dropFrame (s : State) : State :=
  s.modLnk fun l => { l with rx := .hunt, rxTimer := none, badFrames := saturatingSucc l.badFrames }

/-- R188: the receiver goes to a state within a frame and its timer is set from this sweep. -/
def receiverTo (rx : Rx) (s : State) : State :=
  s.modLnk fun l => { l with rx := rx, rxTimer := some (s.now + Config.interByteSweeps) }

/-- The receiver returns to HUNT after a whole frame; the timer is stopped. -/
def receiverDone (s : State) : State := s.modLnk fun l => { l with rx := .hunt, rxTimer := none }

/-- R188: the inter-byte timer expires in this sweep. -/
def expireInterByte (s : State) : State := if s.lnk.rxTimer = some s.now then dropFrame s else s

/-- INTER_BYTE_TIMEOUT (R188); not due, the event does not come about (log 2). -/
def execInterByteTimeout (s : State) : Host.Outcome State Fault Refusal := partEvent expireInterByte s

end Sys2Proof.Machine
end

