-- ==== Sys2Proof/Machine/Sweep.lean ====
section
/-! DEFINITION. The start of a sweep (R1): the ended sweep's owed expiries and warm-up count, the advance of the
sweep count, the sweep events of PBE, TKR and PRM, and the samples taken before PBE's; and the commands SWEEP, WARMUP_END, PULSE, RUN,
TAKE_GAP, STALE_STRIKE_AGED, DEADLINE_EXPIRY and WAIT_TIMER_EXPIRY, of which the last seven are the same
event named for what comes about in it (log 1). -/

namespace Sys2Proof.Machine

/-! ### The end of the sweep that ends -/

/-- The timer expiries of the ending sweep that the sender has not placed are taken last in it (log 2):
R30, R44, R94, R95, R188. -/
def takeOwedExpiries (s : State) : State :=
  expireInterByte (expireRailMove (expireRailWait (expireStrikeAge (allKeys.foldl (fun t k => expireGate k t) s))))

/-- R4: the end of this sweep ends the warm-up. -/
def warmupEnds (s : State) : Bool := s.scn.state == .warmup && s.par.warmup ≤ s.scn.warmupCount + 1

/-- R4, R5: the warm-up count at the end of a sweep; at its end SCN enters RUNNING and marks every channel OK. -/
def countWarmup (s : State) : State :=
  match s.scn.state with
  | .running => s
  | .warmup =>
    if warmupEnds s then
      s.modScn fun b =>
        { b with
          state := .running
          warmupCount := b.warmupCount + 1
          channels := b.channels.map fun r => { r with health := .ok, persistence := 0, recovery := 0 } }
    else s.modScn fun b => { b with warmupCount := b.warmupCount + 1 }

/-- R1: the sweep count advances, wrapping; R14: a watch gathers from the first sweep that begins after its
command. -/
def advanceSweep (s : State) : State :=
  s.modScn fun b =>
    { b with sweep := b.sweep + 1, watch := b.watch.map fun w => { w with started := true } }

/-- The end of one sweep and the beginning of the next, up to the blocks' sweep events; R5, R193: the READY
report carries the first RUNNING sweep. -/
def beginSweep (s : State) : State :=
  let s1 := takeOwedExpiries s
  let s2 := advanceSweep (countWarmup s1)
  if warmupEnds s1 then handReport (.ready s2.now) s2 else s2

/-- R2, R12, R199: the samples of a sweep, each an event of its own, in the order given. -/
def takeSamples (samples : List (Channel × Raw)) (s : State) : State :=
  samples.foldl (fun t x => linkChoose (convert x.1 x.2 t)) s

/-- R163: samples of this sweep, and the strikes, releases and pedal changes they raise, come before PBE's sweep
event in it. -/
def samplesFirst (s : State) : Bool := !(s.early.headD []).isEmpty

/-- R1, R163: the state that PBE's sweep event finds. Where samples come before it, TKR's and PRM's sweep events come
before the samples (log 3). -/
def beforePlayback (s : State) : State :=
  match s.early with
  | [] => beginSweep s
  | samples :: later =>
    let t := beginSweep { s with early := later }
    if samples.isEmpty then t else takeSamples samples (linkChoose (practiceSweep (recorderSweep t)))

/-- R1, R135, R178, R159: the start of a sweep, with the sweep events of PBE, TKR and PRM in that order, or PBE's
last where samples come before it (log 3). -/
def startSweep (s : State) : State :=
  let t := playbackSweep (beforePlayback s)
  if samplesFirst s then t else practiceSweep (recorderSweep t)

/-! ### What comes about in it -/

/-- R4: this sweep start is the end of the warm-up. -/
def warmupEndDue (s : State) : Bool := warmupEnds (takeOwedExpiries s)

/-- R135: a pulse falls due at this sweep start. -/
def pulseStarts (s : State) : Bool := pulseDue (beforePlayback s)

/-- R137: PBE performs a run at this sweep start. -/
def runStarts (s : State) : Bool := runDue (beforePlayback s)

/-- The state TKR's sweep event finds at this sweep start. -/
def beforeRecorder (s : State) : State := if samplesFirst s then beginSweep s else playbackSweep (beforePlayback s)

/-- R178: TKR appends a GAP at this sweep start. -/
def gapStarts (s : State) : Bool := gapDue (beforeRecorder s)

/-- The state PRM's sweep event finds at this sweep start. -/
def beforePractice (s : State) : State := recorderSweep (beforeRecorder s)

/-- R159: PRM's examination removes a stale strike at this sweep start. -/
def agedStarts (s : State) : Bool :=
  listening (beforePractice s) && (beforePractice s).prm.recent.any (stale (beforePractice s))

/-- R163: a deadline expires at this sweep start. -/
def deadlineStarts (s : State) : Bool :=
  listening (beforePractice s) && (beforePractice s).prm.expected.any (deadlineDue (beforePractice s))

/-- R167: the wait timer expires at this sweep start. -/
def waitTimerStarts (s : State) : Bool := listening (beforePractice s) && waitTimerDue (beforePractice s)

/-! ### The commands of this family -/

/-- SWEEP (R1). -/
def execSweep (s : State) : Host.Outcome State Fault Refusal := partEvent startSweep s

/-- WARMUP_END (R4). -/
def execWarmupEnd (s : State) : Host.Outcome State Fault Refusal := partEvent (onlyWhen warmupEndDue startSweep) s

/-- PULSE (R135). -/
def execPulse (s : State) : Host.Outcome State Fault Refusal := partEvent (onlyWhen pulseStarts startSweep) s

/-- RUN (R137). -/
def execRun (s : State) : Host.Outcome State Fault Refusal := partEvent (onlyWhen runStarts startSweep) s

/-- TAKE_GAP (R178). -/
def execTakeGap (s : State) : Host.Outcome State Fault Refusal := partEvent (onlyWhen gapStarts startSweep) s

/-- STALE_STRIKE_AGED (R159). -/
def execStaleStrikeAged (s : State) : Host.Outcome State Fault Refusal := partEvent (onlyWhen agedStarts startSweep) s

/-- DEADLINE_EXPIRY (R163). -/
def execDeadlineExpiry (s : State) : Host.Outcome State Fault Refusal :=
  partEvent (onlyWhen deadlineStarts startSweep) s

/-- WAIT_TIMER_EXPIRY (R167). -/
def execWaitTimerExpiry (s : State) : Host.Outcome State Fault Refusal :=
  partEvent (onlyWhen waitTimerStarts startSweep) s

end Sys2Proof.Machine
end

