-- ==== Sys2Proof/Machine/Accept.lean ====
section
/-! DEFINITION. Command acceptance (R189, R190): a command taken from the Action Link as one event, and the one
reply it earns. -/

namespace Sys2Proof.Machine

/-- What the owner of a command makes of it: the state after it, the reply code and the fields after the
code. -/
structure Answer where
  st : State
  code : ReplyCode
  fields : List Byte

/-- R190: an OK reply with its fields. -/
def answerOk (s : State) (fields : List Byte) : Answer := ⟨s, .ok, fields⟩

/-- R190: a refusal carries the code alone, and the command has no effect. -/
def answerRefused (code : ReplyCode) (s : State) : Answer := ⟨s, code, []⟩

/-- R189: the reply queue has room for one more. -/
def replyRoom (s : State) : Bool := s.lnk.replies.length < Config.replyQueueSize

/-- R189: the reply joins the reply queue at its tail. -/
def queueReply (kind : Byte) (a : Answer) : State :=
  a.st.modLnk fun l => { l with replies := l.replies ++ [⟨kind, a.code, a.fields⟩] }

/-- R189: command acceptance: dropped and counted while four replies wait, else taken by its owner and
answered. -/
def acceptCommand (kind : Byte) (owner : State → Answer) (s : State) : State :=
  if replyRoom s then queueReply kind (owner s)
  else s.modLnk fun l => { l with dropped := saturatingSucc l.dropped }

/-- The kinds of the command table (11 section 11.3). -/
def kindPing : Byte := 0x01
def kindTableWrite : Byte := 0x02
def kindTableRead : Byte := 0x03
def kindRail : Byte := 0x10
def kindScoreWrite : Byte := 0x20
def kindScoreRead : Byte := 0x21
def kindPlay : Byte := 0x22
def kindStop : Byte := 0x23
def kindPause : Byte := 0x24
def kindResume : Byte := 0x25
def kindLocate : Byte := 0x26
def kindArm : Byte := 0x30
def kindStopCapture : Byte := 0x31
def kindCaptureRead : Byte := 0x32
def kindCaptureClear : Byte := 0x33
def kindVoicePass : Byte := 0x40
def kindDampAll : Byte := 0x41
def kindWatch : Byte := 0x50
def kindStatus : Byte := 0x51
def kindClearFlags : Byte := 0x52
def kindReset : Byte := 0x5F

end Sys2Proof.Machine
end

