-- ==== Sys2Proof/Machine/Tables.lean ====
section
/-! DEFINITION. The six tables (11 section 11.4): TABLE WRITE with its checks and counts (R191 and the rule of
each table and PARAM entry), TABLE READ (R192); and the table commands. -/

namespace Sys2Proof.Machine

/-! ### The three counts of a TABLE WRITE -/

/-- R191: the state so far and the counts the reply will carry; `busy` when a busy owner refused a record. -/
structure WriteResult where
  st : State
  written : Nat
  clamped : Nat
  refused : Nat
  busy : Bool

/-- R191: a record taken, with the fields its clamp changed. -/
def WriteResult.taken (w : WriteResult) (s : State) (clamped : Nat) : WriteResult :=
  { w with st := s, written := w.written + 1, clamped := w.clamped + clamped }

/-- R191: a record refused for its order or span: its clamped fields are not counted. -/
def WriteResult.refuse (w : WriteResult) : WriteResult := { w with refused := w.refused + 1 }

/-- R191: a record refused by a busy owner. -/
def WriteResult.refuseBusy (w : WriteResult) : WriteResult := { w with refused := w.refused + 1, busy := true }

/-- R190, R191: the reply of a TABLE WRITE whose records have all been taken. -/
def WriteResult.answer (w : WriteResult) : Answer :=
  ⟨w.st, if w.busy then .busy else .ok, field2 w.written ++ field2 w.clamped ++ field2 w.refused⟩

/-- R191: the records are taken in frame order. -/
def takeRecords {α : Type} (takeOne : α → WriteResult → WriteResult) (records : List α) (s : State) : WriteResult :=
  records.foldl (fun w a => takeOne a w) ⟨s, 0, 0, 0, false⟩

/-- R191: a run of records is none or above the table's maximum. -/
def badRun {α : Type} (most : Nat) (records : List α) : Bool := records.isEmpty || most < records.length

/-! ### CAL (R18, R19) -/

/-- R18: the record with each field clamped to its range. -/
def clampedCal (a : CalArgs) : CalRecord where
  restRaw := clamp 0 4095 a.restRaw.toNat
  fullRaw := clamp 0 4095 a.fullRaw.toNat
  floor := clamp 0 4095 a.floor.toNat
  ceil := clamp 0 4095 a.ceil.toNat
  dmp := clamp 1 4095 a.dmp.toNat
  g1 := clamp 1 4095 a.g1.toNat
  rpt := clamp 1 4095 a.rpt.toNat
  g2 := clamp 1 4095 a.g2.toNat
  scale := clamp 1 4095 a.scale.toNat

/-- R18: how many fields the clamp changed. -/
def calClamps (a : CalArgs) : Nat :=
  clampCount 0 4095 a.restRaw.toNat + clampCount 0 4095 a.fullRaw.toNat + clampCount 0 4095 a.floor.toNat
    + clampCount 0 4095 a.ceil.toNat + clampCount 1 4095 a.dmp.toNat + clampCount 1 4095 a.g1.toNat
    + clampCount 1 4095 a.rpt.toNat + clampCount 1 4095 a.g2.toNat + clampCount 1 4095 a.scale.toNat

/-- R18: the check of a clamped record. -/
def calValid (c : CalRecord) : Bool :=
  c.dmp < c.g1 && c.g1 < c.rpt && c.rpt < c.g2 && c.restRaw != c.fullRaw

/-- R19: a record is placed in effect at once in INIT, REST, START_HELD and FAULTED, else held pending. -/
def placeCal (c : CalRecord) (r : KeyRecord) : KeyRecord :=
  if r.state.isLifted then { r with pendingCal := some c } else { r with cal := c }

/-- R18, R19: one CAL record. -/
def takeCal (a : CalArgs) (w : WriteResult) : WriteResult :=
  match keyOfNumber a.key.toNat with
  | none => w
  | some k =>
    if calValid (clampedCal a) then
      w.taken (setKeyRec k (placeCal (clampedCal a) (w.st.keyRec k)) w.st) (calClamps a)
    else w.refuse

/-- R191: a TABLE WRITE of CAL. -/
def ownCalWrite (records : List CalArgs) (s : State) : Answer :=
  if badRun 12 records then answerRefused .badLength s
  else if records.any fun a => (keyOfNumber a.key.toNat).isNone then answerRefused .badIndex s
  else (takeRecords takeCal records s).answer

/-! ### PCAL (R47, R84) -/

/-- R47, R84: the record with each field clamped to 0..4095. -/
def clampedPcal (a : PcalArgs) : PcalRecord where
  restRaw := clamp 0 4095 a.restRaw.toNat
  fullRaw := clamp 0 4095 a.fullRaw.toNat
  floor := clamp 0 4095 a.floor.toNat
  ceil := clamp 0 4095 a.ceil.toNat

def pcalClamps (a : PcalArgs) : Nat :=
  clampCount 0 4095 a.restRaw.toNat + clampCount 0 4095 a.fullRaw.toNat + clampCount 0 4095 a.floor.toNat
    + clampCount 0 4095 a.ceil.toNat

def pcalValid (c : PcalRecord) : Bool := c.restRaw != c.fullRaw

/-- R47: an accepted pedal record is in effect at once and empties the pedal's group. -/
def placePedalCal (p : Pedal) (c : PcalRecord) (s : State) : State :=
  emptyGroup p (setPedalRec p { s.pedalRec p with cal := c } s)

/-- R84: an accepted rail record is in effect at once and sets the drift count to 0. -/
def placeRailCal (c : PcalRecord) (s : State) : State := s.modRlc fun b => { b with cal := c, drift := 0 }

/-- R47, R84: one PCAL record. -/
def takePcal (a : PcalArgs) (w : WriteResult) : WriteResult :=
  let c := clampedPcal a
  match pedalOfCode a.record.toNat with
  | some p => if pcalValid c then w.taken (placePedalCal p c w.st) (pcalClamps a) else w.refuse
  | none =>
    if railInTransit w.st then w.refuseBusy
    else if pcalValid c then w.taken (placeRailCal c w.st) (pcalClamps a)
    else w.refuse

/-- R191: a TABLE WRITE of PCAL. -/
def ownPcalWrite (records : List PcalArgs) (s : State) : Answer :=
  if badRun 4 records then answerRefused .badLength s
  else if records.any fun a => 3 < a.record.toNat then answerRefused .badIndex s
  else (takeRecords takePcal records s).answer

/-! ### CURVE, LOUD, CLICK (R40, R113, R105) -/

/-- A run of values stored in a vector from an index on. -/
def storeRun {α : Type} {n : Nat} (v : Vector α n) (i : Nat) : List α → Vector α n
  | [] => v
  | x :: xs => storeRun (v.setIfInBounds i x) (i + 1) xs

/-- The sum of the clamps of a run. -/
def runClamps (lo hi : Nat) (values : List Nat) : Nat := (values.map (clampCount lo hi)).sum

/-- R40: the points of a run, clamped to 1..127, stored in a curve. -/
def storeCurve (curve first : Nat) (points : List Nat) (s : State) : State :=
  s.modKtr fun b =>
    { b with
      curves := b.curves.setIfInBounds curve
        (storeRun (b.curves[curve]?.getD defaultCurve) first (points.map (clamp 1 127))) }

/-- R40, R191: a TABLE WRITE of CURVE. -/
def ownCurveWrite (curve first : Byte) (points : List Byte) (s : State) : Answer :=
  let values := points.map (·.toNat)
  if badRun 33 points then answerRefused .badLength s
  else if 3 < curve.toNat ∨ 33 < first.toNat + points.length then answerRefused .badIndex s
  else
    (WriteResult.mk s 0 0 0 false).taken (storeCurve curve.toNat first.toNat values s) (runClamps 1 127 values) |>.answer

/-- R113: the gains of a run, clamped to 0..32768. -/
def storeLoud (first : Nat) (gains : List Nat) (s : State) : State :=
  s.modHpm fun h => { h with loud := storeRun h.loud first (gains.map (clamp 0 32768)) }

/-- R113, R191: a TABLE WRITE of LOUD. -/
def ownLoudWrite (first : Byte) (gains : List Half) (s : State) : Answer :=
  let values := gains.map (·.toNat)
  if badRun 32 gains then answerRefused .badLength s
  else if 32 < first.toNat + gains.length then answerRefused .badIndex s
  else (WriteResult.mk s 0 0 0 false).taken (storeLoud first.toNat values s) (runClamps 0 32768 values) |>.answer

/-- R105: the samples of a run stored in a sound. -/
def storeClick (sound : Sound) (first : Nat) (samples : List Half) (s : State) : State :=
  match sound with
  | .a => s.modHpm fun h => { h with clickA := storeRun h.clickA first samples }
  | .b => s.modHpm fun h => { h with clickB := storeRun h.clickB first samples }

/-- The sound of a selector byte. -/
def soundOfCode : Nat → Option Sound
  | 0 => some .a
  | 1 => some .b
  | _ => none

/-- R105, R191: a TABLE WRITE of CLICK, which counts no clamped fields; a sound outside A and B is a bad
index (DEDUCED, log 13). -/
def ownClickWrite (sound first : Byte) (samples : List Half) (s : State) : Answer :=
  if badRun 118 samples then answerRefused .badLength s
  else
    match soundOfCode sound.toNat with
    | none => answerRefused .badIndex s
    | some snd =>
      if 256 < first.toNat + samples.length then answerRefused .badIndex s
      else (WriteResult.mk s 0 0 0 false).taken (storeClick snd first.toNat samples s) 0 |>.answer

/-! ### PARAM -/

/-- A PARAM entry stored. -/
def storeParam (i v : Nat) (s : State) : State := s.modPar (paramSet i v)

/-- R191: an entry with no behaviour of its own is clamped to its range and stored. -/
def takePlainParam (i v : Nat) (w : WriteResult) : WriteResult :=
  w.taken (storeParam i (clamp (paramLo i) (paramHi i) v) w.st) (clampCount (paramLo i) (paramHi i) v)

/-- R57: after either threshold is stored, HOLD and the latch are tested at once. HOLD first is the model's choice, which
orders the NOTE-OFFs when one write ends both (DESIGN CHOICE, log 26). -/
def testThresholds (s : State) : State := testLatch (testHold s)

/-- R57: HOLD_ON, which may lower HOLD_OFF for one further clamped field. -/
def takeHoldOn (v : Nat) (w : WriteResult) : WriteResult :=
  let on := clamp 1 127 v
  let lowers := on ≤ w.st.par.holdOff
  let s := w.st.modPar fun p => { p with holdOn := on, holdOff := if lowers then on - 1 else p.holdOff }
  w.taken (testThresholds s) (clampCount 1 127 v + if lowers then 1 else 0)

/-- R57: HOLD_OFF, kept below HOLD_ON; one field is counted once (DEDUCED, log 22). -/
def takeHoldOff (v : Nat) (w : WriteResult) : WriteResult :=
  let off := min (clamp 0 126 v) (w.st.par.holdOn - 1)
  w.taken (testThresholds (w.st.modPar fun p => { p with holdOff := off })) (if off = v then 0 else 1)

/-- R49: PEDAL_ACCUM empties the group of every pedal. -/
def takePedalAccum (v : Nat) (w : WriteResult) : WriteResult :=
  w.taken (emptyGroups (storeParam 7 (clamp 0 7 v) w.st)) (clampCount 0 7 v)

/-- R170: PRACTICE_MODE. -/
def takePracticeMode (v : Nat) (w : WriteResult) : WriteResult :=
  let s := storeParam 24 (clamp 0 2 v) w.st
  w.taken (afterModeWrite (clamp 0 2 v != w.st.par.practiceMode) s) (clampCount 0 2 v)

/-- R170: PART_MASK. -/
def takePartMask (v : Nat) (w : WriteResult) : WriteResult :=
  let s := storeParam 25 (clamp 0 15 v) w.st
  w.taken (afterModeWrite (clamp 0 15 v != w.st.par.partMask) s) (clampCount 0 15 v)

/-- R120: the boundary moves: the code is stored, entries that join the score region are zero-filled and the
ring is emptied. -/
def moveBoundary (code : Nat) (s : State) : State :=
  let cleared := memClear s.mem (4 * regionSize s) (4 * ringBase code)
  emptyRing ((s.setMem cleared).modPar fun p => { p with takeSize := code })

/-- R120: TAKE_SIZE, refused BUSY unless TKR is IDLE and PBE is STOPPED. -/
def takeTakeSize (v : Nat) (w : WriteResult) : WriteResult :=
  if w.st.tkr.state = .idle ∧ w.st.pbe.state = .stopped then
    w.taken (moveBoundary (clamp 0 3 v) w.st) (clampCount 0 3 v)
  else w.refuseBusy

/-- R191: one PARAM entry, by the rule of its index. -/
def takeParam (a : ParamArgs) (w : WriteResult) : WriteResult :=
  let v := a.value.toNat
  match a.index.toNat with
  | 7 => takePedalAccum v w
  | 9 => takeHoldOn v w
  | 10 => takeHoldOff v w
  | 24 => takePracticeMode v w
  | 25 => takePartMask v w
  | 30 => takeTakeSize v w
  | i => takePlainParam i v w

/-- R191: a TABLE WRITE of PARAM. -/
def ownParamWrite (entries : List ParamArgs) (s : State) : Answer :=
  if badRun 79 entries then answerRefused .badLength s
  else if entries.any fun a => paramCount ≤ a.index.toNat then answerRefused .badIndex s
  else (takeRecords takeParam entries s).answer

/-! ### TABLE READ (R192) -/

/-- R21: the record CAL reads show, with its mark: PENDING 0, IN EFFECT 1 (log 11). -/
def calEntry (s : State) (n : Nat) : List Byte :=
  match keyOfNumber n with
  | none => []
  | some k =>
    let r := s.keyRec k
    let (mark, c) := match r.pendingCal with
      | some c => ((0 : Byte), c)
      | none => (1, r.cal)
    [byteOf n, mark] ++ field2 c.restRaw ++ field2 c.fullRaw ++ field2 c.floor ++ field2 c.ceil ++ field2 c.dmp
      ++ field2 c.g1 ++ field2 c.rpt ++ field2 c.g2 ++ field2 c.scale

/-- R47, R84: a PCAL record as it stands. -/
def pcalEntry (s : State) (n : Nat) : List Byte :=
  let c := match pedalOfCode n with
    | some p => (s.pedalRec p).cal
    | none => s.rlc.cal
  field2 c.restRaw ++ field2 c.fullRaw ++ field2 c.floor ++ field2 c.ceil

/-- The numbers first .. first + count - 1. -/
def numbersFrom (first count : Nat) : List Nat := (List.range count).map (first + ·)

/-- R192: a table without a selector: its greatest read, its least index, one past its last index, its
entries. -/
def readPlain (code first : Byte) (count : Half) (most lo past : Nat) (entry : Nat → List Byte) (s : State) : Answer :=
  let n := count.toNat
  if n = 0 ∨ most < n then answerRefused .badLength s
  else if first.toNat < lo ∨ past < first.toNat + n then answerRefused .badIndex s
  else answerOk s ([code, first] ++ halfBytes count ++ (numbersFrom first.toNat n).flatMap entry)

/-- R192: a table with a selector, whose values run 0 .. sels - 1. -/
def readSelected (code sel first : Byte) (count : Half) (most sels past : Nat) (entry : Nat → List Byte) (s : State) :
    Answer :=
  let n := count.toNat
  if n = 0 ∨ most < n then answerRefused .badLength s
  else if sels ≤ sel.toNat ∨ past < first.toNat + n then answerRefused .badIndex s
  else answerOk s ([code, sel, first] ++ halfBytes count ++ (numbersFrom first.toNat n).flatMap entry)

/-- R192: a point of a curve as a read shows it, in one byte: R201 does not name its width (DEDUCED, log 11). -/
def curveEntry (s : State) (curve i : Nat) : List Byte :=
  [byteOf (curvePoint (s.ktr.curves[curve]?.getD defaultCurve) i)]

/-- A CLICK sample as a read shows it. -/
def clickEntry (s : State) (sound i : Nat) : List Byte :=
  match soundOfCode sound with
  | some snd => halfBytes ((soundTable s.hpm snd)[i]?.getD 0)
  | none => []

/-- R192: TABLE READ; it changes nothing. -/
def ownTableRead (code sel first : Byte) (count : Half) (s : State) : Answer :=
  match code.toNat with
  | 0 => readPlain code first count 11 1 89 (calEntry s) s
  | 1 => readPlain code first count 4 0 4 (pcalEntry s) s
  | 2 => readSelected code sel first count 33 4 33 (curveEntry s sel.toNat) s
  | 3 => readPlain code first count 33 0 33 (fun i => field2 (paramGet s.par i)) s
  | 4 => readPlain code first count 32 0 32 (fun i => field2 (s.hpm.loud[i]?.getD 0)) s
  | 5 => readSelected code sel first count 117 2 256 (clickEntry s sel.toNat) s
  | _ => answerRefused .badTable s

/-! ### Payloads (R191, R192: BAD_TABLE, then BAD_LENGTH) -/

/-- Records read from a payload, or BAD_LENGTH when it is not a whole number of them. -/
def withRecords {α : Type} (records : Option (List α)) (own : List α → State → Answer) (s : State) : Answer :=
  match records with
  | some rs => own rs s
  | none => answerRefused .badLength s

/-- R191: a TABLE WRITE payload. A curve point stands in one byte, a width that R201 does not name (DEDUCED, log 11). -/
def ownTableWriteFrame (payload : List Byte) (s : State) : Answer :=
  match payload with
  | [] => answerRefused .badLength s
  | code :: rest =>
    match code.toNat, rest with
    | 0, rest => withRecords (parseCals rest) ownCalWrite s
    | 1, rest => withRecords (parsePcals rest) ownPcalWrite s
    | 2, curve :: first :: points => ownCurveWrite curve first points s
    | 3, rest => withRecords (parseParams rest) ownParamWrite s
    | 4, first :: gains => withRecords (parseHalves gains) (ownLoudWrite first) s
    | 5, sound :: first :: samples => withRecords (parseHalves samples) (ownClickWrite sound first) s
    | n, _ => answerRefused (if n ≤ 5 then .badLength else .badTable) s

/-- R192: a TABLE READ payload; one that does not fit its table's form is BAD_LENGTH (DEDUCED, log 13). -/
def ownTableReadFrame (payload : List Byte) (s : State) : Answer :=
  match payload with
  | [] => answerRefused .badLength s
  | code :: rest =>
    if 5 < code.toNat then answerRefused .badTable s
    else if code.toNat = 2 ∨ code.toNat = 5 then
      match rest with
      | [sel, first, hi, lo] => ownTableRead code sel first (half hi lo) s
      | _ => answerRefused .badLength s
    else
      match rest with
      | [first, hi, lo] => ownTableRead code 0 first (half hi lo) s
      | _ => answerRefused .badLength s

/-! ### The commands of this family -/

/-- TABLE_READ (R192). -/
def execTableRead (code sel first : Byte) (count : Half) (s : State) : Host.Outcome State Fault Refusal :=
  partEvent (acceptCommand kindTableRead (ownTableRead code sel first count)) s

/-- CAL_WRITE (R18, R191). -/
def execCalWrite (records : List CalArgs) (s : State) : Host.Outcome State Fault Refusal :=
  partEvent (acceptCommand kindTableWrite (ownCalWrite records)) s

/-- PCAL_WRITE (R47, R84, R191). -/
def execPcalWrite (records : List PcalArgs) (s : State) : Host.Outcome State Fault Refusal :=
  partEvent (acceptCommand kindTableWrite (ownPcalWrite records)) s

/-- CURVE_WRITE (R40, R191). -/
def execCurveWrite (curve first : Byte) (points : List Byte) (s : State) : Host.Outcome State Fault Refusal :=
  partEvent (acceptCommand kindTableWrite (ownCurveWrite curve first points)) s

/-- LOUD_WRITE (R113, R191). -/
def execLoudWrite (first : Byte) (gains : List Half) (s : State) : Host.Outcome State Fault Refusal :=
  partEvent (acceptCommand kindTableWrite (ownLoudWrite first gains)) s

/-- CLICK_WRITE (R105, R191). -/
def execClickWrite (sound first : Byte) (samples : List Half) (s : State) : Host.Outcome State Fault Refusal :=
  partEvent (acceptCommand kindTableWrite (ownClickWrite sound first samples)) s

/-- PARAM_WRITE (R191): a TABLE WRITE of PARAM with any run of entries, each by the rule of its index. -/
def execParamWrite (entries : List ParamArgs) (s : State) : Host.Outcome State Fault Refusal :=
  partEvent (acceptCommand kindTableWrite (ownParamWrite entries)) s

/-- WARMUP_WRITE (R6). -/
def execWarmupWrite (value : Half) (s : State) : Host.Outcome State Fault Refusal :=
  partEvent (acceptCommand kindTableWrite (ownParamWrite [⟨3, value⟩])) s

/-- PEDAL_ACCUM_WRITE (R49). -/
def execPedalAccumWrite (value : Half) (s : State) : Host.Outcome State Fault Refusal :=
  partEvent (acceptCommand kindTableWrite (ownParamWrite [⟨7, value⟩])) s

/-- HOLD_ON_WRITE (R57). -/
def execHoldOnWrite (value : Half) (s : State) : Host.Outcome State Fault Refusal :=
  partEvent (acceptCommand kindTableWrite (ownParamWrite [⟨9, value⟩])) s

/-- HOLD_OFF_WRITE (R57). -/
def execHoldOffWrite (value : Half) (s : State) : Host.Outcome State Fault Refusal :=
  partEvent (acceptCommand kindTableWrite (ownParamWrite [⟨10, value⟩])) s

/-- PRACTICE_MODE_WRITE (R170). -/
def execPracticeModeWrite (value : Half) (s : State) : Host.Outcome State Fault Refusal :=
  partEvent (acceptCommand kindTableWrite (ownParamWrite [⟨24, value⟩])) s

/-- PART_MASK_WRITE (R170). -/
def execPartMaskWrite (value : Half) (s : State) : Host.Outcome State Fault Refusal :=
  partEvent (acceptCommand kindTableWrite (ownParamWrite [⟨25, value⟩])) s

/-- TAKE_SIZE_WRITE (R120). -/
def execTakeSizeWrite (value : Half) (s : State) : Host.Outcome State Fault Refusal :=
  partEvent (acceptCommand kindTableWrite (ownParamWrite [⟨30, value⟩])) s

end Sys2Proof.Machine
end

