-- ==== Sys2Proof/Machine/PlayCommands.lean ====
section
/-! DEFINITION. The commands that reach PMEM and PBE: SCORE_WRITE and SCORE_READ (07, R128 to R131), PLAY, STOP,
PAUSE, RESUME and LOCATE (08, R149 to R154). -/

namespace Sys2Proof.Machine

/-! ### Score transfer -/

/-- R128, R131, R182: a run's length lies outside 1..56. -/
def badTransfer (n : Nat) : Bool := n = 0 || Config.runEntries < n

/-- R130, R175, R183: PBE is not STOPPED and plays from this source. -/
def playsFrom (s : State) (source : Source) : Bool := s.pbe.state != .stopped && s.pbe.source == source

/-- R128, R130: SCORE WRITE. -/
def ownScoreWrite (start : Half) (entries : List Entry) (s : State) : Answer :=
  if badTransfer entries.length then answerRefused .badLength s
  else if regionSize s < start.toNat + entries.length then answerRefused .badIndex s
  else if playsFrom s .score then answerRefused .busy s
  else answerOk (s.setMem (writeRun s.mem start.toNat entries)) (halfBytes start ++ field2 entries.length)

/-- R131: how many entries a SCORE READ returns. -/
def scoreReadCount (s : State) (start count : Nat) : Nat := min count (regionSize s - start)

/-- R131: SCORE READ; it changes nothing. -/
def ownScoreRead (start count : Half) (s : State) : Answer :=
  if badTransfer count.toNat then answerRefused .badLength s
  else if regionSize s ≤ start.toNat then answerRefused .badIndex s
  else
    let n := scoreReadCount s start.toNat count.toNat
    answerOk s (halfBytes start ++ field2 n ++ (readRun s.mem start.toNat n).flatMap entryBytes)

/-! ### PLAY (R150) -/

/-- R150: the source of a code. -/
def sourceOfCode : Nat → Option Source
  | 0 => some .score
  | 1 => some .take
  | _ => none

/-- R148: the take as it stands: its oldest index and count. -/
def presentWindow (s : State) : TakeWindow := ⟨s.tkr.oldest, s.tkr.count⟩

/-- R150: a take that cannot be played: TKR is not IDLE, or its ring is empty. -/
def takeUnready (s : State) : Bool := s.tkr.state != .idle || s.tkr.count == 0

/-- R150 steps 1 and 3: source, stack, flag, tempo, accumulator and beat counters. -/
def playItems (source : Source) (b : Pbe) : Pbe :=
  { b with source := source, stack := [], stackError := false, acc := 0, tempo := 120, beatPulse := 0, barPosition := 0 }

/-- R148, R150 step 4: for TAKE the take window is fixed. -/
def fixWindow (source : Source) (s : State) : State :=
  match source with
  | .score => s
  | .take => s.modPbe fun b => { b with window := some (presentWindow s) }

/-- R150 step 7, R154: for SCORE, TKR receives the score index of the cursor. -/
def tellRecorder (s : State) : State :=
  match s.pbe.source with
  | .score => playbackPlaced s.pbe.cursor s
  | .take => s

/-- R150: the steps of a PLAY that passes, its place found. -/
def playFrom (source : Source) (place : Nat) (s : State) : State :=
  let s1 := practicePlay (s.modPbe (playItems source))
  let s2 := placeCursor place (fixWindow source s1)
  let s3 := playReport .started (s2.modPbe fun b => { b with state := .running })
  afterPlacing (tellRecorder s3)

/-- R150: PLAY. -/
def ownPlay (source mark : Byte) (s : State) : Answer :=
  match sourceOfCode source.toNat with
  | none => answerRefused .badIndex s
  | some src =>
    if s.pbe.state != .stopped then answerRefused .busy s
    else if src == .take && takeUnready s then answerRefused .refusedState s
    else
      match placeOf s src (presentWindow s) mark.toNat with
      | none => answerRefused .badIndex s
      | some place => answerOk (playFrom src place s) []

/-! ### STOP, PAUSE, RESUME (R151 to R153) -/

/-- R151: STOP. -/
def ownStop (s : State) : Answer :=
  if s.pbe.state = .stopped then answerOk s [] else answerOk (stopSteps .command s) []

/-- R152: the steps of a PAUSE from RUNNING or WAITING, which it saves. -/
def pauseFrom (saved : SavedState) (s : State) : State :=
  let s1 := s.modPbe fun b => { b with state := .paused, saved := some saved }
  playReport .paused (practicePause (clearPlaybackLevels (clearPlayback s1)))

/-- R152: PAUSE. -/
def ownPause (s : State) : Answer :=
  match s.pbe.state with
  | .stopped => answerRefused .refusedState s
  | .paused => answerOk s []
  | .running => answerOk (pauseFrom .running s) []
  | .waiting => answerOk (pauseFrom .waiting s) []

/-- R153: the state that a saved state returns to. -/
def resumedState : Option SavedState → PlayState
  | some .waiting => .waiting
  | _ => .running

/-- R153, R168: the steps of a RESUME from PAUSED. -/
def resumeSteps (s : State) : State :=
  playReport .resumed
    (practiceResume (s.modPbe fun b => { b with state := resumedState b.saved, saved := none }))

/-- R153: RESUME. -/
def ownResume (s : State) : Answer :=
  match s.pbe.state with
  | .stopped => answerRefused .refusedState s
  | .running => answerOk s []
  | .waiting => answerOk s []
  | .paused => answerOk (resumeSteps s) []

/-! ### LOCATE (R154) -/

/-- R154: a state of WAITING becomes RUNNING, and so does a saved state of WAITING. -/
def leaveWaiting (b : Pbe) : Pbe :=
  { b with
    state := if b.state = .waiting then .running else b.state
    saved := b.saved.map fun _ => .running }

/-- R154: the steps of a LOCATE that passes, its place found. -/
def locateAt (place : Nat) (s : State) : State :=
  let s1 := emptyExpected (s.modPbe fun b => { b with stack := [] })
  let s2 := (placeCursor place s1).modPbe fun b => { leaveWaiting b with beatPulse := 0, barPosition := 0 }
  afterPlacing (tellRecorder (playReport .located s2))

/-- R154: LOCATE. -/
def ownLocate (mark : Byte) (s : State) : Answer :=
  if s.pbe.state = .stopped then answerRefused .refusedState s
  else
    match placeOf s s.pbe.source (windowOf s) mark.toNat with
    | none => answerRefused .badIndex s
    | some place => answerOk (locateAt place s) []

/-! ### The commands of this family -/

/-- SCORE_WRITE (R128). -/
def execScoreWrite (start : Half) (entries : List Entry) (s : State) : Host.Outcome State Fault Refusal :=
  partEvent (acceptCommand kindScoreWrite (ownScoreWrite start entries)) s

/-- SCORE_READ (R131). -/
def execScoreRead (start count : Half) (s : State) : Host.Outcome State Fault Refusal :=
  partEvent (acceptCommand kindScoreRead (ownScoreRead start count)) s

/-- PLAY (R150). -/
def execPlay (source mark : Byte) (s : State) : Host.Outcome State Fault Refusal :=
  partEvent (acceptCommand kindPlay (ownPlay source mark)) s

/-- STOP (R151). -/
def execStop (s : State) : Host.Outcome State Fault Refusal := partEvent (acceptCommand kindStop ownStop) s

/-- PAUSE (R152). -/
def execPause (s : State) : Host.Outcome State Fault Refusal := partEvent (acceptCommand kindPause ownPause) s

/-- RESUME (R153). -/
def execResume (s : State) : Host.Outcome State Fault Refusal := partEvent (acceptCommand kindResume ownResume) s

/-- LOCATE (R154). -/
def execLocate (mark : Byte) (s : State) : Host.Outcome State Fault Refusal :=
  partEvent (acceptCommand kindLocate (ownLocate mark)) s

end Sys2Proof.Machine
end

