-- ==== Sys2Proof/Machine/CaptureCommands.lean ====
section
/-! DEFINITION. TKR's commands of the Action Link (10, R175, R181 to R183): ARM, STOP_CAPTURE, CAPTURE_READ and
CAPTURE_CLEAR. -/

namespace Sys2Proof.Machine

/-- R175: the take in progress is ended, with mode NEW the ring is emptied, and the recorder is ARMED. -/
def armRecorder (new : Bool) (s : State) : State :=
  let t := endTake s
  (if new then emptyRing t else t).modTkr fun b => { b with state := .armed }

/-- R175: the recorder state and the count after an ARM. -/
def armAnswer (s : State) : Answer := answerOk s (takeStateCode s.tkr.state :: field2 s.tkr.count)

/-- R175: ARM; PBE's side is checked first. -/
def ownArm (mode : Byte) (s : State) : Answer :=
  if playsFrom s .take then answerRefused .busy s
  else if mode = 0 then armAnswer (armRecorder true s)
  else if mode = 1 then armAnswer (armRecorder false s)
  else answerRefused .badIndex s

/-- R181: STOP CAPTURE; in IDLE it changes nothing. -/
def ownStopCapture (s : State) : Answer :=
  answerOk (if s.tkr.state = .idle then s else endTake s) (field2 s.tkr.count)

/-- R182: how many entries a CAPTURE READ returns. -/
def captureReadCount (s : State) (offset count : Nat) : Nat := min count (s.tkr.count - offset)

/-- R182: the entries from an offset of the ring on. -/
def captureEntries (s : State) (offset n : Nat) : List Entry :=
  (numbersFrom offset n).map fun k => readEntry s.mem (ringEntryIndex s s.tkr.oldest k)

/-- R182: CAPTURE READ; it changes nothing. -/
def ownCaptureRead (offset count : Half) (s : State) : Answer :=
  if badTransfer count.toNat then answerRefused .badLength s
  else
    let n := captureReadCount s offset.toNat count.toNat
    answerOk s
      (takeStateCode s.tkr.state :: field2 s.tkr.count ++ field2 s.tkr.overwrites ++ halfBytes offset ++ field2 n
        ++ (captureEntries s offset.toNat n).flatMap entryBytes)

/-- R183: CAPTURE CLEAR. -/
def ownCaptureClear (s : State) : Answer :=
  if s.tkr.state != .idle || playsFrom s .take then answerRefused .busy s else answerOk (emptyRing s) []

/-- ARM (R175). -/
def execArm (mode : Byte) (s : State) : Host.Outcome State Fault Refusal :=
  partEvent (acceptCommand kindArm (ownArm mode)) s

/-- STOP_CAPTURE (R181). -/
def execStopCapture (s : State) : Host.Outcome State Fault Refusal :=
  partEvent (acceptCommand kindStopCapture ownStopCapture) s

/-- CAPTURE_READ (R182). -/
def execCaptureRead (offset count : Half) (s : State) : Host.Outcome State Fault Refusal :=
  partEvent (acceptCommand kindCaptureRead (ownCaptureRead offset count)) s

/-- CAPTURE_CLEAR (R183). -/
def execCaptureClear (s : State) : Host.Outcome State Fault Refusal :=
  partEvent (acceptCommand kindCaptureClear ownCaptureClear) s

end Sys2Proof.Machine
end

