-- ==== Sys2Proof/Machine/SystemCommands.lean ====
section
/-! DEFINITION. The remaining commands of the Action Link: PING, STATUS and CLEAR_FLAGS (11, R193 to R195), RAIL
(05, R90), VOICE_PASS and DAMP_ALL (04, R76, R81) and WATCH (01, R14); and the resets (R196 and the reset
rule of each chapter) with the release of RESET_N. -/

namespace Sys2Proof.Machine

/-! ### PING, STATUS, CLEAR FLAGS -/

/-- R193: PING. -/
def ownPing (s : State) : Answer :=
  answerOk s (scanStateCode s.scn.state :: Config.revisionCode :: sweepField s.now)

/-- R194: the fields of the STATUS reply, in order. -/
def statusFields (s : State) : List Byte :=
  [scanStateCode s.scn.state, railStateCode s.rlc.state]
    ++ [playStateCode s.pbe.state, savedStateCode s.pbe.saved, sourceCode s.pbe.source]
    ++ field2 s.pbe.cursor ++ field2 s.pbe.tempo ++ field2 s.pbe.stack.length ++ [boolCode s.pbe.stackError]
    ++ takeStateCode s.tkr.state :: field2 s.tkr.count
    ++ field2 s.prm.hits ++ field2 s.prm.misses ++ field2 s.prm.wrongs
    ++ field2 s.prm.expected.length ++ field2 s.prm.recent.length
    ++ boolCode s.hpm.limit :: field2 s.vdp.dropCount
    ++ field2 s.lnk.badFrames ++ field2 s.lnk.dropped
    ++ field2 s.lnk.overN ++ field2 s.lnk.overP ++ field2 s.lnk.overE

/-- R194: STATUS; it changes nothing. -/
def ownStatus (s : State) : Answer := answerOk s (statusFields s)

/-- R195: LNK's counts at 0. -/
def clearCounts (l : Lnk) : Lnk := { l with badFrames := 0, dropped := 0, overN := 0, overP := 0, overE := 0 }

/-- R195: CLEAR FLAGS at HPM, VDP, PBE and LNK. -/
def clearAllFlags (s : State) : State :=
  (((s.modHpm fun h => { h with limit := false }).modVdp fun v => { v with dropCount := 0 }).modPbe
    fun b => { b with stackError := false }).modLnk clearCounts

/-- R195: CLEAR FLAGS. -/
def ownClearFlags (s : State) : Answer := answerOk (clearAllFlags s) []

/-! ### RAIL, VOICE PASS, DAMP ALL, WATCH -/

/-- R90: the target of a code. -/
def targetOfCode : Nat → Option RailTarget
  | 1 => some .inward
  | 2 => some .outward
  | _ => none

/-- R90: RAIL, answered with the rail state after it. -/
def ownRail (target : Byte) (s : State) : Answer :=
  match targetOfCode target.toNat with
  | none => answerRefused .badIndex s
  | some t =>
    if s.rlc.faulted then answerRefused .refusedState s
    else if s.rlc.state = .unsettled then answerRefused .busy s
    else answerOk (railRequest t s) [railStateCode (railRequest t s).rlc.state]

/-- R76: VOICE PASS. -/
def ownVoicePass (bytes : List Byte) (s : State) : Answer :=
  if bytes.isEmpty || 32 < bytes.length then answerRefused .badLength s
  else if s.vdp.queue.length < Config.voiceNoteLimit then answerOk (voiceEnqueue (.pass bytes) s) []
  else answerRefused .queueFull s

/-- R81: DAMP ALL. -/
def ownDampAll (s : State) : Answer := answerOk (allDamp s) []

/-- R14: a watch of a channel begins, any active one closed first. -/
def openWatch (c : Channel) (count : Nat) (s : State) : State :=
  (closeWatch s).modScn fun b => { b with watch := some ⟨c, min Config.watchMax count, none, [], false⟩ }

/-- R14: WATCH. -/
def ownWatch (channel : Byte) (count : Half) (s : State) : Answer :=
  if count = 0 then answerOk (closeWatch s) []
  else
    match channelOfNumber channel.toNat with
    | none => answerRefused .badIndex s
    | some c => answerOk (openWatch c count.toNat s) []

/-! ### The resets -/

/-- The reset of every block from the power-on values, keeping what runs through a power-on reset: the level on
the HOLD_IN pin and the surroundings' waiting commands and samples (log 3, 7, 9). -/
def powerOnFrom (s : State) : State :=
  { State.powerOn with vdp := { Vdp.initial with holdIn := s.vdp.holdIn }, pending := s.pending, early := s.early }

/-- R196, R17, R46, R60, R83, R100, R117, R132, R156, R172, R184, R200: DEVICE RESET: the power-on values in
every block; the audio clocks run on with the sample being sent, the frames in flight on both links complete,
and the HOLD_IN pin keeps its level. -/
def deviceResetFrom (s : State) : State :=
  { State.powerOn with
    resetHeld := s.resetHeld
    vdp := { Vdp.initial with inFlight := s.vdp.inFlight, holdIn := s.vdp.holdIn }
    hpm := { Hpm.initial with clocks := s.hpm.clocks, outLeft := s.hpm.outLeft, outRight := s.hpm.outRight }
    lnk := { Lnk.initial with tx := s.lnk.tx }
    pending := s.pending
    early := s.early }

/-- R83, R79, R196: DEVICE RESET; an idle voice transmitter starts ALL DAMP at once. -/
def deviceReset (s : State) : State := voiceChoose (deviceResetFrom s)

/-- R156: PBE's items after RESET PRACTICE. -/
def resetPlayback (s : State) : State := (stopSteps .reset s).modPbe fun _ => Pbe.initial

/-- R172: PRM's items after RESET PRACTICE. -/
def resetMonitor (s : State) : State :=
  s.modPrm fun b => { b with recent := [], hits := 0, misses := 0, wrongs := 0 }

/-- R196, R156, R172, R184: RESET PRACTICE. -/
def ownResetPractice (s : State) : Answer := answerOk (endTake (resetMonitor (resetPlayback s))) []

/-- R196, R81: RESET VOICES. -/
def ownResetVoices (s : State) : Answer := answerOk ((allDamp s).modVdp fun v => { v with dropCount := 0 }) []

/-- R101, R117: the clocks start at the release of RESET_N, and the idle voice transmitter makes its choice
(R83); a RESET_N that is not asserted cannot be released (log 6). -/
def releaseReset (s : State) : State :=
  if s.resetHeld then
    voiceChoose ({ s with resetHeld := false }.modHpm fun h => { h with clocks := true })
  else s

/-! ### The commands of this family -/

/-- POWER_ON_RESET: RESET_N is asserted, and every block takes its power-on values (R17, R46, R60, R83, R100,
R117, R132, R156, R172, R184, R200). -/
def execPowerOnReset (s : State) : Host.Outcome State Fault Refusal := .next (powerOnFrom s)

/-- RESET_N_RELEASE (R101). -/
def execResetNRelease (s : State) : Host.Outcome State Fault Refusal := .next (releaseReset s)

/-- DEVICE_RESET (R196): taken at once, whatever the reply queue holds, and not answered. -/
def execDeviceReset (s : State) : Host.Outcome State Fault Refusal := partEvent deviceReset s

/-- RESET_PRACTICE (R196). -/
def execResetPractice (s : State) : Host.Outcome State Fault Refusal :=
  partEvent (acceptCommand kindReset ownResetPractice) s

/-- RESET_VOICES (R196). -/
def execResetVoices (s : State) : Host.Outcome State Fault Refusal :=
  partEvent (acceptCommand kindReset ownResetVoices) s

/-- PING (R193). -/
def execPing (s : State) : Host.Outcome State Fault Refusal := partEvent (acceptCommand kindPing ownPing) s

/-- STATUS (R194). -/
def execStatus (s : State) : Host.Outcome State Fault Refusal := partEvent (acceptCommand kindStatus ownStatus) s

/-- CLEAR_FLAGS (R195). -/
def execClearFlags (s : State) : Host.Outcome State Fault Refusal :=
  partEvent (acceptCommand kindClearFlags ownClearFlags) s

/-- RAIL (R90 to R93). -/
def execRail (target : Byte) (s : State) : Host.Outcome State Fault Refusal :=
  partEvent (acceptCommand kindRail (ownRail target)) s

/-- VOICE_PASS (R76). -/
def execVoicePass (bytes : List Byte) (s : State) : Host.Outcome State Fault Refusal :=
  partEvent (acceptCommand kindVoicePass (ownVoicePass bytes)) s

/-- DAMP_ALL (R81). -/
def execDampAll (s : State) : Host.Outcome State Fault Refusal := partEvent (acceptCommand kindDampAll ownDampAll) s

/-- WATCH (R14). -/
def execWatch (channel : Byte) (count : Half) (s : State) : Host.Outcome State Fault Refusal :=
  partEvent (acceptCommand kindWatch (ownWatch channel count)) s

end Sys2Proof.Machine
end

