-- ==== Sys2Proof/Machine/Link.lean ====
section
/-! DEFINITION. LNK's receiver (11, R187, R188) and the acceptance of the command frames it finds (R189, R196);
and the commands BYTE_RECEIVED and LINK_FRAME_COMPLETION. -/

namespace Sys2Proof.Machine

/-! ### The command table (11 section 11.3) -/

/-- R187: the kinds of the command table. -/
def commandKinds : List Byte :=
  [kindPing, kindTableWrite, kindTableRead, kindRail, kindScoreWrite, kindScoreRead, kindPlay, kindStop, kindPause,
    kindResume, kindLocate, kindArm, kindStopCapture, kindCaptureRead, kindCaptureClear, kindVoicePass, kindDampAll,
    kindWatch, kindStatus, kindClearFlags, kindReset]

/-- R189: a payload that fits the form of a command without arguments. -/
def formNone (own : State → Answer) (payload : List Byte) (s : State) : Answer :=
  match payload with
  | [] => own s
  | _ => answerRefused .badLength s

/-- R189: the form of one argument of one byte. -/
def formByte (own : Byte → State → Answer) (payload : List Byte) (s : State) : Answer :=
  match payload with
  | [a] => own a s
  | _ => answerRefused .badLength s

/-- R189: the form of two arguments of one byte each. -/
def formTwoBytes (own : Byte → Byte → State → Answer) (payload : List Byte) (s : State) : Answer :=
  match payload with
  | [a, b] => own a b s
  | _ => answerRefused .badLength s

/-- R189: the form of two arguments of two bytes each. -/
def formTwoHalves (own : Half → Half → State → Answer) (payload : List Byte) (s : State) : Answer :=
  match payload with
  | [a, b, c, d] => own (half a b) (half c d) s
  | _ => answerRefused .badLength s

/-- R189: the form of WATCH: a channel and a count. -/
def formByteHalf (own : Byte → Half → State → Answer) (payload : List Byte) (s : State) : Answer :=
  match payload with
  | [a, b, c] => own a (half b c) s
  | _ => answerRefused .badLength s

/-- R128, R189: the form of SCORE WRITE: a start index and a whole number of entries. -/
def formScoreWrite (payload : List Byte) (s : State) : Answer :=
  match payload with
  | hi :: lo :: rest => withRecords (parseEntries rest) (ownScoreWrite (half hi lo)) s
  | _ => answerRefused .badLength s

/-- R196: RESET with one scope byte; scope DEVICE does not come here (`takeCommand`). -/
def ownReset (scope : Byte) (s : State) : Answer :=
  if scope = 1 then ownResetPractice s
  else if scope = 2 then ownResetVoices s
  else answerRefused .badIndex s

/-- R189: the owner of a command frame, its payload fitted to the form of the command table. -/
def ownerOf (kind : Byte) (payload : List Byte) : State → Answer :=
  match kind with
  | 0x01 => formNone ownPing payload
  | 0x02 => ownTableWriteFrame payload
  | 0x03 => ownTableReadFrame payload
  | 0x10 => formByte ownRail payload
  | 0x20 => formScoreWrite payload
  | 0x21 => formTwoHalves ownScoreRead payload
  | 0x22 => formTwoBytes ownPlay payload
  | 0x23 => formNone ownStop payload
  | 0x24 => formNone ownPause payload
  | 0x25 => formNone ownResume payload
  | 0x26 => formByte ownLocate payload
  | 0x30 => formByte ownArm payload
  | 0x31 => formNone ownStopCapture payload
  | 0x32 => formTwoHalves ownCaptureRead payload
  | 0x33 => formNone ownCaptureClear payload
  | 0x40 => ownVoicePass payload
  | 0x41 => formNone ownDampAll payload
  | 0x50 => formByteHalf ownWatch payload
  | 0x51 => formNone ownStatus payload
  | 0x52 => formNone ownClearFlags payload
  | _ => formByte ownReset payload

/-- R189, R196: the acceptance of a command frame. A RESET of scope DEVICE is taken at once. -/
def takeCommand (kind : Byte) (payload : List Byte) (s : State) : State :=
  if kind = kindReset ∧ payload = [0] then deviceReset s else acceptCommand kind (ownerOf kind payload) s

/-! ### The receiver -/

/-- R187: the CRC byte of a frame: a frame with a good CRC and a kind of the command table is a command, any
other is dropped. -/
def checkFrame (kind : Byte) (payload : List Byte) (crc : Byte) (s : State) : State :=
  if crc = linkCrc kind payload ∧ commandKinds.contains kind then takeCommand kind payload (receiverDone s)
  else dropFrame s

/-- R187: a good byte by the receiver's state. -/
def takeByte (b : Byte) (s : State) : State :=
  match s.lnk.rx with
  | .hunt => if b = Config.startByte then receiverTo .kind s else s
  | .kind => receiverTo (.length b) s
  | .length k =>
    if Config.maxPayload < b.toNat then dropFrame s
    else if b = 0 then receiverTo (.check k []) s
    else receiverTo (.body k b.toNat []) s
  | .body k len got =>
    let payload := got ++ [b]
    if len ≤ payload.length then receiverTo (.check k payload) s else receiverTo (.body k len payload) s
  | .check k payload => checkFrame k payload b s

/-- R188: a byte with a framing error: discarded in HUNT, else the frame is abandoned. -/
def takeBadByte (s : State) : State :=
  match s.lnk.rx with
  | .hunt => s
  | _ => dropFrame s

/-- R187, R188: a byte from ALRX. -/
def receiveByte (b : Byte) (framingError : Bool) (s : State) : State :=
  if framingError then takeBadByte s else takeByte b s

/-- R199: the completion of the frame on ALTX; the choice follows in `partEvent`. An IDLE transmitter has
nothing to complete. -/
def linkComplete (s : State) : State := s.modLnk fun l => { l with tx := none }

/-- R185, R199, R200: ALTX: the bit times of the frame being sent, and high when none is, RESET_N asserted or not. -/
def altxLevels (s : State) : List Bool := lineLevels (s.lnk.tx.map linkFrameBytes)

/-- BYTE_RECEIVED (R187, R188). -/
def execByteReceived (b : Byte) (framingError : Bool) (s : State) : Host.Outcome State Fault Refusal :=
  partEvent (receiveByte b framingError) s

/-- LINK_FRAME_COMPLETION (R199). -/
def execLinkFrameCompletion (s : State) : Host.Outcome State Fault Refusal := partEvent linkComplete s

end Sys2Proof.Machine
end

