-- ==== Sys2Proof/Machine/Dispatch.lean ====
section
/-! DEFINITION. The effect of every command on everything but the queue: one arm per command, each a call of the
command's meaning. -/

namespace Sys2Proof.Machine

def exec (i : Instr) (s : State) : Host.Outcome State Fault Refusal :=
  match i with
  | .powerOnReset => Sys2Proof.Machine.execPowerOnReset s
  | .deviceReset => Sys2Proof.Machine.execDeviceReset s
  | .resetPractice => Sys2Proof.Machine.execResetPractice s
  | .resetVoices => Sys2Proof.Machine.execResetVoices s
  | .ping => Sys2Proof.Machine.execPing s
  | .tableRead code selector first count => Sys2Proof.Machine.execTableRead code selector first count s
  | .calWrite records => Sys2Proof.Machine.execCalWrite records s
  | .pcalWrite records => Sys2Proof.Machine.execPcalWrite records s
  | .curveWrite curve first points => Sys2Proof.Machine.execCurveWrite curve first points s
  | .loudWrite first gains => Sys2Proof.Machine.execLoudWrite first gains s
  | .clickWrite sound first samples => Sys2Proof.Machine.execClickWrite sound first samples s
  | .paramWrite entries => Sys2Proof.Machine.execParamWrite entries s
  | .warmupWrite value => Sys2Proof.Machine.execWarmupWrite value s
  | .pedalAccumWrite value => Sys2Proof.Machine.execPedalAccumWrite value s
  | .holdOnWrite value => Sys2Proof.Machine.execHoldOnWrite value s
  | .holdOffWrite value => Sys2Proof.Machine.execHoldOffWrite value s
  | .practiceModeWrite value => Sys2Proof.Machine.execPracticeModeWrite value s
  | .partMaskWrite value => Sys2Proof.Machine.execPartMaskWrite value s
  | .takeSizeWrite value => Sys2Proof.Machine.execTakeSizeWrite value s
  | .rail target => Sys2Proof.Machine.execRail target s
  | .scoreWrite start entries => Sys2Proof.Machine.execScoreWrite start entries s
  | .scoreRead start count => Sys2Proof.Machine.execScoreRead start count s
  | .play source mark => Sys2Proof.Machine.execPlay source mark s
  | .stop => Sys2Proof.Machine.execStop s
  | .pause => Sys2Proof.Machine.execPause s
  | .resume => Sys2Proof.Machine.execResume s
  | .locate mark => Sys2Proof.Machine.execLocate mark s
  | .arm mode => Sys2Proof.Machine.execArm mode s
  | .stopCapture => Sys2Proof.Machine.execStopCapture s
  | .captureRead offset count => Sys2Proof.Machine.execCaptureRead offset count s
  | .captureClear => Sys2Proof.Machine.execCaptureClear s
  | .voicePass bytes => Sys2Proof.Machine.execVoicePass bytes s
  | .dampAll => Sys2Proof.Machine.execDampAll s
  | .watch channel count => Sys2Proof.Machine.execWatch channel count s
  | .status => Sys2Proof.Machine.execStatus s
  | .clearFlags => Sys2Proof.Machine.execClearFlags s
  | .sweep => Sys2Proof.Machine.execSweep s
  | .conversion channel raw => Sys2Proof.Machine.execConversion channel raw s
  | .warmupEnd => Sys2Proof.Machine.execWarmupEnd s
  | .channelFault channel raw => Sys2Proof.Machine.execChannelFault channel raw s
  | .channelRecovery channel raw => Sys2Proof.Machine.execChannelRecovery channel raw s
  | .gateExpiry key => Sys2Proof.Machine.execGateExpiry key s
  | .strikeAgeExpiry => Sys2Proof.Machine.execStrikeAgeExpiry s
  | .pedalGroupComplete pedal raw => Sys2Proof.Machine.execPedalGroupComplete pedal raw s
  | .railWaitExpiry => Sys2Proof.Machine.execRailWaitExpiry s
  | .railMoveExpiry => Sys2Proof.Machine.execRailMoveExpiry s
  | .railDriftHalt raw => Sys2Proof.Machine.execRailDriftHalt raw s
  | .outputSamplePeriod frame => Sys2Proof.Machine.execOutputSamplePeriod frame s
  | .jackAdoption frame => Sys2Proof.Machine.execJackAdoption frame s
  | .clickEnd frame => Sys2Proof.Machine.execClickEnd frame s
  | .pulse => Sys2Proof.Machine.execPulse s
  | .run => Sys2Proof.Machine.execRun s
  | .deadlineExpiry => Sys2Proof.Machine.execDeadlineExpiry s
  | .waitTimerExpiry => Sys2Proof.Machine.execWaitTimerExpiry s
  | .staleStrikeAged => Sys2Proof.Machine.execStaleStrikeAged s
  | .takeGap => Sys2Proof.Machine.execTakeGap s
  | .voiceFrameCompletion => Sys2Proof.Machine.execVoiceFrameCompletion s
  | .holdInChange high => Sys2Proof.Machine.execHoldInChange high s
  | .byteReceived byte framingError => Sys2Proof.Machine.execByteReceived byte framingError s
  | .interByteTimeout => Sys2Proof.Machine.execInterByteTimeout s
  | .linkFrameCompletion => Sys2Proof.Machine.execLinkFrameCompletion s
  | .resetNRelease => Sys2Proof.Machine.execResetNRelease s

end Sys2Proof.Machine
end

