-- ==== Sys2Proof/Safety.lean ====
section
/-! DEFINITION. What the part keeps at every step (the invariants of the statements), when a command is taken, and
the words the statements use for an answer. -/

namespace Sys2Proof.Machine

/-! ### When a command is taken -/

/-- RESET_N is released: the part runs (log 6). -/
abbrev State.Runs (s : State) : Prop := s.resetHeld = false

/-- R189: the part runs and the reply queue has room, so an Action Link command is taken. -/
abbrev State.Takes (s : State) : Prop := s.resetHeld = false ∧ s.lnk.replies.length < 4

/-- R189, R190: t with one more reply at the tail of the reply queue. -/
def replied (kind : Byte) (code : ReplyCode) (fields : List Byte) (t : State) : State :=
  t.modLnk fun l => { l with replies := l.replies ++ [⟨kind, code, fields⟩] }

/-- R191: the reply of a TABLE WRITE with its three counts. -/
def repliedCounts (code : ReplyCode) (written clamped refused : Nat) (t : State) : State :=
  replied 0x02 code (field2 written ++ field2 clamped ++ field2 refused) t

/-- 1 for a field outside its range, which its clamp changes, else 0 (R191). -/
def outside (lo hi n : Nat) : Nat := if lo ≤ n ∧ n ≤ hi then 0 else 1

/-- One record of a TABLE WRITE taken on its own. -/
def takenAlone {α : Type} (takeOne : α → WriteResult → WriteResult) (a : α) (s : State) : WriteResult :=
  takeOne a ⟨s, 0, 0, 0, false⟩

/-- R191: the records of a TABLE WRITE taken in turn: each is taken in the state its forerunner left, the three counts
add up, and the reply is BUSY if a busy owner refused one of them. -/
def takenInTurn {α : Type} (one : α → State → WriteResult) : List α → State → WriteResult
  | [], s => ⟨s, 0, 0, 0, false⟩
  | a :: rest, s =>
    let first := one a s
    let later := takenInTurn one rest first.st
    ⟨later.st, first.written + later.written, first.clamped + later.clamped, first.refused + later.refused,
      first.busy || later.busy⟩

/-- R190, R191: the reply that a TABLE WRITE earns. -/
def repliedResult (w : WriteResult) : State :=
  repliedCounts (if w.busy then .busy else .ok) w.written w.clamped w.refused w.st

/-- R189: the commands of the Action Link that earn one reply; a RESET of scope DEVICE is not among them. -/
def isAnswered : Instr → Bool
  | .resetPractice | .resetVoices | .ping | .tableRead .. | .calWrite _ | .pcalWrite _ | .curveWrite .. => true
  | .loudWrite .. | .clickWrite .. | .paramWrite _ | .warmupWrite _ | .pedalAccumWrite _ | .holdOnWrite _ => true
  | .holdOffWrite _ | .practiceModeWrite _ | .partMaskWrite _ | .takeSizeWrite _ | .rail _ | .scoreWrite .. => true
  | .scoreRead .. | .play .. | .stop | .pause | .resume | .locate _ | .arm _ | .stopCapture => true
  | .captureRead .. | .captureClear | .voicePass _ | .dampAll | .watch .. | .status | .clearFlags => true
  | .powerOnReset | .deviceReset | .sweep | .conversion .. | .warmupEnd | .channelFault .. => false
  | .channelRecovery .. | .gateExpiry _ | .strikeAgeExpiry | .pedalGroupComplete .. | .railWaitExpiry => false
  | .railMoveExpiry | .railDriftHalt _ | .outputSamplePeriod _ | .jackAdoption _ | .clickEnd _ | .pulse => false
  | .run | .deadlineExpiry | .waitTimerExpiry | .staleStrikeAged | .takeGap | .voiceFrameCompletion => false
  | .holdInChange _ | .byteReceived .. | .interByteTimeout | .linkFrameCompletion | .resetNRelease => false

/-! ### Places (R125, R149) -/

/-- R119: the score region size of a state, from its TAKE_SIZE code. -/
def scoreSize (s : State) : Nat := 16384 - 1024 * 2 ^ s.par.takeSize

/-- R125: index i of the score region holds the MARK of this number, and no lower index does. -/
def MarkAt (s : State) (mark i : Nat) : Prop :=
  i < scoreSize s ∧ (scoreAt s i).kind = 6 ∧ (scoreAt s i).a = mark ∧
    ∀ j < i, ¬ ((scoreAt s j).kind = 6 ∧ (scoreAt s j).a = mark)

/-- R148: the PMEM entry at offset k of a take whose oldest index is given, read as a take entry. -/
def windowEntry (s : State) (oldest k : Nat) : TakeEntry :=
  takeEntry (readEntry s.mem (scoreSize s + (oldest + k) % (1024 * 2 ^ s.par.takeSize)))

/-- R149: offset k of a take window is a SYNC entry that carries this score index, and no lower offset is. -/
def SyncAt (s : State) (w : TakeWindow) (index k : Nat) : Prop :=
  k < w.count ∧ (windowEntry s w.oldest k).kind = 5 ∧ (windowEntry s w.oldest k).syncIndex = index ∧
    ∀ j < k, ¬ ((windowEntry s w.oldest j).kind = 5 ∧ (windowEntry s w.oldest j).syncIndex = index)

/-- R149: the cursor that a mark names in a source. -/
def Placed (s : State) (source : Source) (w : TakeWindow) (mark place : Nat) : Prop :=
  match source with
  | .score => mark = 0 ∧ place = 0 ∨ mark ≠ 0 ∧ ∃ i, MarkAt s mark i ∧ place = i + 1
  | .take => mark = 0 ∧ place = 0 ∨ mark ≠ 0 ∧ ∃ i k, MarkAt s mark i ∧ SyncAt s w (i + 1) k ∧ place = k + 1

/-- R89: keys quiet. -/
def Quiet (s : State) : Prop :=
  s.ktr.gatedCount = 0 ∧ ∀ last, s.ktr.lastStrike = some last → s.par.settle ≤ elapsed s.now last

/-! ### Invariants -/

/-- PMEM is in its canonical form. -/
abbrev KeepsMemory (s : State) : Prop := Memory.wf s.mem = true

/-- R191: every PARAM entry lies in its range. -/
def KeepsParams (s : State) : Prop := ∀ i < paramCount, paramLo i ≤ paramGet s.par i ∧ paramGet s.par i ≤ paramHi i

/-- R57: HOLD_OFF stays below HOLD_ON. -/
abbrev KeepsThresholds (s : State) : Prop := s.par.holdOff < s.par.holdOn

/-- R74, R189, R197: no queue holds more than its capacity. -/
abbrev KeepsQueues (s : State) : Prop :=
  s.vdp.queue.length ≤ 32 ∧ s.lnk.replies.length ≤ 4 ∧ s.lnk.classN.length ≤ 64 ∧ s.lnk.classP.length ≤ 32 ∧
    s.lnk.classE.length ≤ 16

/-- A NOTE-ON or PASS frame. -/
def isNoteOrPass : VoiceFrame → Bool
  | .noteOn .. | .pass _ => true
  | .noteOff .. | .pedal .. | .allDamp => false

/-- R74, R75: at most 24 queued frames are NOTE-ON or PASS frames; a pedal has at most one frame, queued or remembered;
and nothing is owed or remembered while the queue has room. -/
def KeepsVoiceLimits (s : State) : Prop :=
  s.vdp.queue.countP isNoteOrPass ≤ 24 ∧
    (∀ p, s.vdp.queue.countP (isPedalFrame p) + (s.vdp.remembered.get p).toList.length ≤ 1) ∧
    (s.vdp.queue.length < 32 →
      (∀ p, s.vdp.remembered.get p = none) ∧ ∀ k, (s.sound k).offPending = false)

/-- R173: the count and the oldest index lie within the ring, and the write index follows from them. -/
def KeepsRing (s : State) : Prop :=
  s.tkr.count ≤ 1024 * 2 ^ s.par.takeSize ∧ s.tkr.oldest < 1024 * 2 ^ s.par.takeSize ∧
    s.tkr.writeIndex = (s.tkr.oldest + s.tkr.count) % (1024 * 2 ^ s.par.takeSize)

/-- R55: each effective level is the greater of the player and the playback level. -/
def KeepsLevels (s : State) : Prop :=
  ∀ p, (s.pedalRec p).effective = max (s.pedalRec p).player (s.pedalRec p).playback

/-- R86: the motor drive is the one of the rail state. -/
abbrev KeepsDrive (s : State) : Prop := s.rlc.drive = driveOf s.rlc.state

/-- R45: the GATED count is the number of keys in GATED. -/
abbrev KeepsGated (s : State) : Prop := s.ktr.gatedCount = (allKeys.map fun k => gatedOne (s.keyRec k)).sum

/-- R65: a key that sounds and is not held is owed its NOTE-OFF. -/
def KeepsOwed (s : State) : Prop :=
  ∀ k, (s.sound k).sounding = true → held s k = false → (s.sound k).offPending = true

/-- R133, R135, R144, R146: A, the tempo and the stack stay in their ranges, a set stack-error flag means STOPPED,
and between events no group is open. The PARAM ranges, which bound the gain of A, are part of it. -/
def KeepsPlayback (s : State) : Prop :=
  KeepsParams s ∧ s.pbe.acc < 500000 ∧ (20 ≤ s.pbe.tempo ∧ s.pbe.tempo ≤ 300) ∧ s.pbe.stack.length ≤ 8 ∧
    (s.pbe.stackError = true → s.pbe.state = .stopped) ∧ s.prm.groupKeys = []

/-- R133: the countdown, the beat pulse count and the bar position stay in their ranges; a saved state is present in
PAUSED and nowhere else; and while PBE is not STOPPED the cursor names an entry of its source. -/
def KeepsPlaces (s : State) : Prop :=
  (s.pbe.source = .score → s.pbe.countdown ≤ 1024) ∧ s.pbe.countdown ≤ 4096 ∧ s.pbe.beatPulse < 96 ∧
    s.pbe.barPosition < 16 ∧ (s.pbe.saved ≠ none ↔ s.pbe.state = .paused) ∧
    (s.pbe.state ≠ .stopped →
      match s.pbe.source with
      | .score => s.pbe.cursor < scoreSize s
      | .take => ∃ w, s.pbe.window = some w ∧ s.pbe.cursor < w.count)

/-- R157: PBE is in a state, or is PAUSED with that state saved. -/
def PlaysIn (s : State) (st : PlayState) (saved : SavedState) : Prop :=
  s.pbe.state = st ∨ s.pbe.state = .paused ∧ s.pbe.saved = some saved

/-- R157, R158, R163, R164, R167, R168: the lists of PRM stay within 10 and 8 entries, no key is expected twice or both
expected and recent; nothing is expected in STOPPED or OFF; in WAIT mode no entry has a deadline, an entry is awaited
exactly while PBE waits, and the wait timer runs in no other time; and the pause sweep is present while PBE is PAUSED. -/
def KeepsPractice (s : State) : Prop :=
  s.prm.groupKeys = [] ∧ s.prm.expected.length ≤ 10 ∧ (s.prm.expected.map (·.key)).Nodup ∧ s.prm.recent.length ≤ 8 ∧
    (∀ e ∈ s.prm.expected, ∀ r ∈ s.prm.recent, e.key ≠ r.key) ∧
    (s.pbe.state = .stopped ∨ s.par.practiceMode = 0 → s.prm.expected = []) ∧
    (s.par.practiceMode = 2 → ∀ e ∈ s.prm.expected, e.deadline = none) ∧
    (PlaysIn s .waiting .waiting → s.par.practiceMode = 2 ∧ s.prm.expected ≠ []) ∧
    (s.par.practiceMode = 2 → PlaysIn s .running .running → s.prm.expected = []) ∧
    (s.prm.waitTimer ≠ none → PlaysIn s .waiting .waiting) ∧
    (s.pbe.saved ≠ none ↔ s.pbe.state = .paused) ∧ (s.prm.pauseSweep ≠ none ↔ s.pbe.state = .paused)

end Sys2Proof.Machine
end

