-- ==== Sys2Proof/Certificates/Slice0/Obligations.lean ====
section
/-! DEFINITION. The statements about the part. `linkChoose` in a conclusion is the choice an idle Action Link
transmitter makes at the end of the event (R199, log 4); LinkTransmitterChooses says what it is. -/

open Sys2Proof Sys2Proof.Machine

/-! ### The machine as a whole -/

/-- A step takes the command at the front of the queue and runs it on the state with the queue's rest; on an
empty queue the block idles (log 9). -/
def Obligations.StepTakesTheFrontCommand : Prop :=
  (∀ (c : Instr) (rest : List Instr) (s : State), s.pending = c :: rest →
    step s = exec c { s with pending := rest }) ∧
  ∀ s : State, s.pending = [] → step s = .next s

/-- Every command answers a next state, and no command touches the queue. -/
def Obligations.EveryCommandAnswersNext : Prop :=
  ∀ (c : Instr) (s : State), ∃ t, exec c s = .next t ∧ t.pending = s.pending

/-- While RESET_N is asserted nothing but POWER_ON_RESET, RESET_N_RELEASE and the level of the HOLD_IN pin has an
effect (DEDUCED, log 6, 7). R189: with four replies waiting, a command of the Action Link has no effect but on the
dropped commands count, which stays at 65,535 once there. -/
def Obligations.UntakenCommandsHaveNoEffect : Prop :=
  ((∀ (c : Instr) (s : State), s.resetHeld = true → c ≠ .powerOnReset → c ≠ .resetNRelease →
     (∀ high, c ≠ .holdInChange high) → exec c s = .next s) ∧
   ∀ (high : Bool) (s : State), s.resetHeld = true →
     exec (.holdInChange high) s = .next { s with vdp := { s.vdp with holdIn := high } }) ∧
  ∀ (c : Instr) (s : State), isAnswered c = true → s.Runs → 4 ≤ s.lnk.replies.length →
    exec c s = .next (linkChoose { s with lnk := { s.lnk with dropped := min 65535 (s.lnk.dropped + 1) } })

/-! ### Resets -/

/-- The reset tables of every chapter, as POWER_ON_RESET leaves the part: R17, R46, R60, R83, R100, R117 with the CLICK
table's default sounds of R106, R132, R156, R172, R184, R200. R101: the audio clocks and HDOUT are low while RESET_N is
asserted; R199, R200: ALTX is high. -/
def Obligations.ResetTables : Prop :=
  State.powerOn.scn = ⟨.warmup, 0, 0, 0xF, Vector.replicate 92 ⟨0, .ok, 0, 0⟩, none⟩ ∧
  (∀ k, State.powerOn.keyRec k =
    ⟨.init, 0, 0, none, none, ⟨3600, 600, 64, 4032, 600, 1400, 2600, 3300, 768⟩, none⟩) ∧
  (∀ (c : Fin 4) (i : Fin 33), State.powerOn.ktr.curves[c][i] = max 1 (min 127 (4 * i.val))) ∧
  State.powerOn.ktr.lastStrike = none ∧ State.powerOn.ktr.strikeAge = none ∧ State.powerOn.ktr.gatedCount = 0 ∧
  (∀ p, State.powerOn.pedalRec p = ⟨⟨400, 3600, 64, 4032⟩, 0, 0, 0, 0, 0⟩) ∧
  State.powerOn.ptr.hold = false ∧ State.powerOn.ptr.latch = none ∧
  (∀ k, State.powerOn.sound k = ⟨false, false, false, 1, .player, false⟩) ∧
  State.powerOn.vdp.queue = [.pedal .damp 0, .pedal .soft 0, .pedal .sost 0] ∧ State.powerOn.vdp.urgent = true ∧
  State.powerOn.vdp.inFlight = none ∧ State.powerOn.vdp.remembered = ⟨none, none, none⟩ ∧
  State.powerOn.vdp.dropCount = 0 ∧ State.powerOn.vdp.dropWaiting = false ∧
  State.powerOn.rlc = ⟨.unsettled, 0, false, none, none, none, 0, .off, ⟨300, 3700, 64, 4032⟩⟩ ∧
  State.powerOn.hpm.gain = 0 ∧ State.powerOn.hpm.limit = false ∧ State.powerOn.hpm.click = none ∧
  State.powerOn.hpm.jack = .none ∧ State.powerOn.hpm.jackCount = 0 ∧ State.powerOn.hpm.outLeft = 0 ∧
  State.powerOn.hpm.outRight = 0 ∧ (∀ k : Fin 32, State.powerOn.hpm.loud[k] = 32768 * k.val / 31) ∧
  (∀ k : Fin 256, (State.powerOn.hpm.clickA[k]).toInt =
    if k.val / 6 % 2 = 0 then ((24000 * (256 - k.val) / 256 : Nat) : Int) else -((24000 * (256 - k.val) / 256 : Nat) : Int)) ∧
  (∀ k : Fin 256, (State.powerOn.hpm.clickB[k]).toInt =
    if k.val / 8 % 2 = 0 then ((12000 * (256 - k.val) / 256 : Nat) : Int) else -((12000 * (256 - k.val) / 256 : Nat) : Int)) ∧
  State.powerOn.hpm.clocks = false ∧ audioOutput State.powerOn = List.replicate 64 (false, false) ∧
  altxLevels State.powerOn = [true] ∧
  (∀ a, memRead State.powerOn.mem a = 0) ∧
  State.powerOn.pbe = ⟨.stopped, none, .score, 0, 0, 0, 120, 0, 0, [], false, none⟩ ∧
  State.powerOn.prm = ⟨[], [], [], none, none, 0, 0, 0⟩ ∧ State.powerOn.tkr = ⟨.idle, 0, 0, 0, none, none, 0⟩ ∧
  State.powerOn.lnk = ⟨.hunt, none, 0, 0, [], [], [], [], 0, 0, 0, false, false, false, none⟩ ∧
  (List.range 33).map (paramGet State.powerOn.par) =
    [24, 2400, 800, 400, 8, 64, 0, 3, 2, 64, 48, 16000, 12000, 3800, 300, 200, 0, 16, 32768, 16384, 32, 100, 1, 4, 0,
      1, 1600, 1600, 0, 40, 2, 0, 7]

/-- POWER_ON_RESET leaves the reset tables in every block, whatever the state before it; the level on the HOLD_IN
pin and the waiting commands and samples are the surroundings' own (DESIGN CHOICE, log 3, 7, 9). R101, R117, R83: RESET_N_RELEASE starts the audio
clocks and ALL DAMP; the state after both is State.reset (log 6). -/
def Obligations.ResetInputResetsAndReleases : Prop :=
  (∀ s : State, exec .powerOnReset s =
    .next { State.powerOn with
      vdp := { State.powerOn.vdp with holdIn := s.vdp.holdIn }, pending := s.pending, early := s.early }) ∧
  exec .resetNRelease State.powerOn = .next State.reset ∧
  (∀ s : State, s.resetHeld = true → s.vdp.inFlight = none → s.vdp.urgent = true →
    exec .resetNRelease s =
      .next { s with
        resetHeld := false
        vdp := { s.vdp with urgent := false, inFlight := some .allDamp }
        hpm := { s.hpm with clocks := true } }) ∧
  ∀ s : State, s.Runs → exec .resetNRelease s = .next s

/-- R196, R83, R117, R200: DEVICE_RESET leaves the reset tables, with the frames in flight on both links, the
audio clocks and the sample being sent kept; an idle voice transmitter starts ALL DAMP. That the level on the HOLD_IN pin
and the waiting commands and samples run through it is the model's choice (DESIGN CHOICE, log 3, 7, 9). -/
def Obligations.DeviceResetLeavesTheTables : Prop :=
  ∀ s : State, s.Runs → exec .deviceReset s =
    .next { State.powerOn with
      resetHeld := false
      vdp :=
        match s.vdp.inFlight with
        | some f => { State.powerOn.vdp with inFlight := some f, holdIn := s.vdp.holdIn }
        | none => { State.powerOn.vdp with urgent := false, inFlight := some .allDamp, holdIn := s.vdp.holdIn }
      hpm :=
        { State.powerOn.hpm with clocks := s.hpm.clocks, outLeft := s.hpm.outLeft, outRight := s.hpm.outRight }
      lnk := { State.powerOn.lnk with tx := s.lnk.tx }
      pending := s.pending
      early := s.early }

/-- R196, R156, R172, R184: RESET_PRACTICE. -/
def Obligations.ResetPracticeClearsPractice : Prop :=
  ∀ s : State, s.Takes → ∃ t, exec .resetPractice s = .next (linkChoose (replied 0x5F .ok [] t)) ∧
    t.pbe = ⟨.stopped, none, .score, 0, 0, 0, 120, 0, 0, [], false, none⟩ ∧
    t.prm.expected = [] ∧ t.prm.recent = [] ∧ t.prm.waitTimer = none ∧ t.prm.hits = 0 ∧ t.prm.misses = 0 ∧
    t.prm.wrongs = 0 ∧ t.tkr = { s.tkr with state := .idle, reference := none, armedSync := none } ∧
    (∀ k, (t.sound k).playbackHolder = false) ∧ (∀ p, (t.pedalRec p).playback = 0) ∧
    t.par = s.par ∧ t.mem = s.mem ∧ t.scn = s.scn ∧ t.ktr = s.ktr ∧ t.rlc = s.rlc ∧ t.hpm = s.hpm ∧
    t.lnk.replies = s.lnk.replies

/-- R80, R81, R196: DAMP_ALL and RESET_VOICES make the ALL DAMP handling; RESET_VOICES also sets the VOICE DROP
count to 0. Nothing outside VDP changes but the reply. -/
def Obligations.AllDampHandling : Prop :=
  ∀ s : State, s.Takes → ∃ v : Vdp,
    exec .dampAll s = .next (linkChoose (replied 0x41 .ok [] { s with vdp := v })) ∧
    exec .resetVoices s = .next (linkChoose (replied 0x5F .ok [] { s with vdp := { v with dropCount := 0 } })) ∧
    (∀ k : Key, v.table[k] =
      { s.sound k with sounding := false, playerHolder := false, playbackHolder := false, offPending := false }) ∧
    v.queue = [.pedal .damp (s.pedalRec .damp).effective, .pedal .soft (s.pedalRec .soft).effective,
      .pedal .sost (s.pedalRec .sost).effective] ∧
    v.remembered = ⟨none, none, none⟩ ∧ v.dropCount = s.vdp.dropCount ∧ v.dropWaiting = s.vdp.dropWaiting ∧
    v.holdIn = s.vdp.holdIn ∧
    (match s.vdp.inFlight with
    | some f => v.inFlight = some f ∧ v.urgent = true
    | none => v.inFlight = some .allDamp ∧ v.urgent = false)

/-! ### PING, STATUS, CLEAR FLAGS, TABLE READ -/

/-- R193: PING is answered with the ready flag, the revision code and the sweep count. R194: STATUS is answered with
its fields in order. Neither changes anything else. That an absent saved state is carried as 0xFF and a present one with
its code as a playback state is the model's choice (DESIGN CHOICE, log 10), and so are the two bytes of the stack depth
(DEDUCED, log 11). -/
def Obligations.PingAndStatusShowTheState : Prop :=
  (∀ s : State, s.Takes → exec .ping s =
     .next (linkChoose (replied 0x01 .ok
       ([if s.scn.state = .warmup then 0 else 1, 0x21] ++ field4 s.scn.sweep.toNat) s))) ∧
  ∀ s : State, s.Takes → exec .status s =
    .next (linkChoose (replied 0x51 .ok
      ([scanStateCode s.scn.state, railStateCode s.rlc.state, playStateCode s.pbe.state, savedStateCode s.pbe.saved,
          sourceCode s.pbe.source]
        ++ field2 s.pbe.cursor ++ field2 s.pbe.tempo ++ field2 s.pbe.stack.length ++ [boolCode s.pbe.stackError]
        ++ [takeStateCode s.tkr.state] ++ field2 s.tkr.count
        ++ field2 s.prm.hits ++ field2 s.prm.misses ++ field2 s.prm.wrongs ++ field2 s.prm.expected.length
        ++ field2 s.prm.recent.length ++ [boolCode s.hpm.limit] ++ field2 s.vdp.dropCount ++ field2 s.lnk.badFrames
        ++ field2 s.lnk.dropped ++ field2 s.lnk.overN ++ field2 s.lnk.overP ++ field2 s.lnk.overE) s))

/-- R195: CLEAR_FLAGS clears LIMIT, the stack-error flag and the counts, and nothing else. -/
def Obligations.ClearFlagsClears : Prop :=
  ∀ s : State, s.Takes → exec .clearFlags s =
    .next (linkChoose (replied 0x52 .ok []
      { s with
        hpm := { s.hpm with limit := false }
        vdp := { s.vdp with dropCount := 0 }
        pbe := { s.pbe with stackError := false }
        lnk := { s.lnk with badFrames := 0, dropped := 0, overN := 0, overP := 0, overE := 0 } }))

/-- R192: TABLE_READ changes nothing but the reply; a code outside 0..5 is BAD_TABLE, a count of 0 or above the table's
greatest read BAD_LENGTH, and a selector or run outside the table BAD_INDEX (R40, R105 and log 13 for the sound). A read
of a run inside a table carries its entries in index order: for CAL (R21) the key, the mark PENDING or IN EFFECT and the
pending record or the one in effect; for PCAL, CURVE, PARAM, LOUD and CLICK the values as they stand. That only CAL
entries repeat their index is the model's reading (DEDUCED, log 12), and so are the mark's codes and the one byte of a
curve point (DEDUCED, log 11). -/
def Obligations.TableReadShowsTables : Prop :=
  (∀ (code sel first : Byte) (count : Half) (s : State), s.Takes → ∃ reply fields,
    exec (.tableRead code sel first count) s = .next (linkChoose (replied 0x03 reply fields s))) ∧
  (∀ (code sel first : Byte) (count : Half) (s : State), s.Takes → 5 < code.toNat →
    exec (.tableRead code sel first count) s = .next (linkChoose (replied 0x03 .badTable [] s))) ∧
  (∀ (sel first : Byte) (count : Half) (s : State), s.Takes → 1 ≤ count.toNat → count.toNat ≤ 33 →
    first.toNat + count.toNat ≤ 33 →
    exec (.tableRead 3 sel first count) s =
      .next (linkChoose (replied 0x03 .ok
        ([3, first] ++ field2 count.toNat ++
          (List.range count.toNat).flatMap fun i => field2 (paramGet s.par (first.toNat + i))) s))) ∧
  (∀ (code sel first : Byte) (count : Half) (most lo past sels : Nat) (s : State), s.Takes →
    (code.toNat, most, lo, past, sels) ∈ [(0, 11, 1, 89, 256), (1, 4, 0, 4, 256), (2, 33, 0, 33, 4), (3, 33, 0, 33, 256),
      (4, 32, 0, 32, 256), (5, 117, 0, 256, 2)] →
    (count = 0 ∨ most < count.toNat →
      exec (.tableRead code sel first count) s = .next (linkChoose (replied 0x03 .badLength [] s))) ∧
    (1 ≤ count.toNat → count.toNat ≤ most →
      first.toNat < lo ∨ past < first.toNat + count.toNat ∨ sels ≤ sel.toNat →
      exec (.tableRead code sel first count) s = .next (linkChoose (replied 0x03 .badIndex [] s)))) ∧
  ∀ (sel first : Byte) (count : Half) (entry : Nat → List Byte) (s : State), s.Takes → 1 ≤ count.toNat →
    ((∀ k : Key, entry (keyNumber k) =
        [byteOf (keyNumber k), if (s.keyRec k).pendingCal = none then 1 else 0] ++
          (let c := (s.keyRec k).pendingCal.getD (s.keyRec k).cal
          [c.restRaw, c.fullRaw, c.floor, c.ceil, c.dmp, c.g1, c.rpt, c.g2, c.scale].flatMap field2)) →
      count.toNat ≤ 11 → 1 ≤ first.toNat → first.toNat + count.toNat ≤ 89 →
      exec (.tableRead 0 sel first count) s = .next (linkChoose (replied 0x03 .ok
        ([0, first] ++ field2 count.toNat ++ (List.range count.toNat).flatMap fun i => entry (first.toNat + i)) s))) ∧
    ((∀ i < 4, entry i =
        (let c := match pedalOfCode i with | some p => (s.pedalRec p).cal | none => s.rlc.cal
        [c.restRaw, c.fullRaw, c.floor, c.ceil].flatMap field2)) →
      first.toNat + count.toNat ≤ 4 →
      exec (.tableRead 1 sel first count) s = .next (linkChoose (replied 0x03 .ok
        ([1, first] ++ field2 count.toNat ++ (List.range count.toNat).flatMap fun i => entry (first.toNat + i)) s))) ∧
    (∀ curve : Fin 4, sel.toNat = curve.val → (∀ i : Fin 33, entry i.val = [byteOf s.ktr.curves[curve][i]]) →
      first.toNat + count.toNat ≤ 33 →
      exec (.tableRead 2 sel first count) s = .next (linkChoose (replied 0x03 .ok
        ([2, sel, first] ++ field2 count.toNat ++ (List.range count.toNat).flatMap fun i => entry (first.toNat + i)) s))) ∧
    ((∀ i : Fin 32, entry i.val = field2 s.hpm.loud[i]) → first.toNat + count.toNat ≤ 32 →
      exec (.tableRead 4 sel first count) s = .next (linkChoose (replied 0x03 .ok
        ([4, first] ++ field2 count.toNat ++ (List.range count.toNat).flatMap fun i => entry (first.toNat + i)) s))) ∧
    ((∀ i : Fin 256, entry i.val = field2 (if sel = 0 then s.hpm.clickA[i] else s.hpm.clickB[i]).toNat) →
      sel.toNat ≤ 1 → count.toNat ≤ 117 → first.toNat + count.toNat ≤ 256 →
      exec (.tableRead 5 sel first count) s = .next (linkChoose (replied 0x03 .ok
        ([5, sel, first] ++ field2 count.toNat ++ (List.range count.toNat).flatMap fun i => entry (first.toNat + i)) s)))

/-! ### TABLE WRITE -/

/-- R191, R6: a PARAM entry without a rule of its own is clamped to its range and stored, WARMUP by its own command
too; nothing else changes. A write of an entry with a rule of its own is the command of that rule (R49, R57, R120, R170),
and a run of entries of any indices is taken in turn, each in the state its forerunner left, with the counts added up and
the reply BUSY if one was refused BUSY. No entry or more than 79 is BAD_LENGTH, an index outside 0..32 BAD_INDEX, and such
a write writes nothing. -/
def Obligations.PlainParamWritesStore : Prop :=
  (∀ (i : Byte) (v : Half) (s : State), s.Takes → i.toNat < 33 → i.toNat ∉ [7, 9, 10, 24, 25, 30] →
    exec (.paramWrite [⟨i, v⟩]) s =
      .next (linkChoose (repliedCounts .ok 1
        (if paramLo i.toNat ≤ v.toNat ∧ v.toNat ≤ paramHi i.toNat then 0 else 1) 0
        { s with par := paramSet i.toNat (max (paramLo i.toNat) (min (paramHi i.toNat) v.toNat)) s.par }))) ∧
  (∀ (v : Half) (s : State), s.Takes → exec (.warmupWrite v) s =
    .next (linkChoose (repliedCounts .ok 1 (if v.toNat ≤ 4095 then 0 else 1) 0
      { s with par := { s.par with warmup := min 4095 v.toNat } }))) ∧
  (∀ (es : List ParamArgs) (s : State), s.Takes → es = [] ∨ 79 < es.length →
    exec (.paramWrite es) s = .next (linkChoose (replied 0x02 .badLength [] s))) ∧
  (∀ (es : List ParamArgs) (s : State), s.Takes → es ≠ [] → es.length ≤ 79 → (∃ a ∈ es, 33 ≤ a.index.toNat) →
    exec (.paramWrite es) s = .next (linkChoose (replied 0x02 .badIndex [] s))) ∧
  (∀ (es : List ParamArgs) (s : State), s.Takes → es ≠ [] → es.length ≤ 79 → (∀ a ∈ es, a.index.toNat < 33) →
    exec (.paramWrite es) s = .next (linkChoose (repliedResult (takenInTurn (takenAlone takeParam) es s)))) ∧
  ∀ (v : Half) (s : State),
    exec (.paramWrite [⟨3, v⟩]) s = exec (.warmupWrite v) s ∧ exec (.paramWrite [⟨7, v⟩]) s = exec (.pedalAccumWrite v) s ∧
    exec (.paramWrite [⟨9, v⟩]) s = exec (.holdOnWrite v) s ∧ exec (.paramWrite [⟨10, v⟩]) s = exec (.holdOffWrite v) s ∧
    exec (.paramWrite [⟨24, v⟩]) s = exec (.practiceModeWrite v) s ∧
    exec (.paramWrite [⟨25, v⟩]) s = exec (.partMaskWrite v) s ∧ exec (.paramWrite [⟨30, v⟩]) s = exec (.takeSizeWrite v) s

/-- R49: PEDAL_ACCUM_WRITE is clamped to 0..7 and empties the group of every pedal; player levels stay. -/
def Obligations.PedalAccumWriteEmptiesGroups : Prop :=
  ∀ (v : Half) (s : State), s.Takes → exec (.pedalAccumWrite v) s =
    .next (linkChoose (repliedCounts .ok 1 (if v.toNat ≤ 7 then 0 else 1) 0
      { s with
        par := { s.par with pedalAccum := min 7 v.toNat }
        ptr := { s.ptr with pedals :=
          ⟨{ s.ptr.pedals.soft with sum := 0, count := 0 }, { s.ptr.pedals.sost with sum := 0, count := 0 },
            { s.ptr.pedals.damp with sum := 0, count := 0 }⟩ } }))

/-- R57: HOLD_ON_WRITE is clamped to 1..127 and lowers HOLD_OFF below it, one further clamped field; HOLD_OFF_WRITE is
clamped to 0..126 and kept below HOLD_ON; HOLD and the latch are tested at once against the new thresholds, and that
is all that changes. R56, R58, R59, R73: what the two tests do: HOLD becomes active when the effective damper level is
HOLD_ON or more and inactive below HOLD_OFF, which evaluates every sounding key in ascending order; the latch becomes
active at the effective sostenuto level in the same way, its set then the keys with a player or a playback holder, and
its end evaluates the keys of its set. That one HOLD_OFF field counts one clamp even where both limits change it is the
model's choice (DEDUCED, log 22), and so is the test of HOLD before the latch (DESIGN CHOICE, log 26). -/
def Obligations.HoldWritesTestAtOnce : Prop :=
  (∀ (v : Half) (s : State), s.Takes → ∃ t,
    exec (.holdOnWrite v) s =
      .next (linkChoose (repliedCounts .ok 1
        ((if 1 ≤ v.toNat ∧ v.toNat ≤ 127 then 0 else 1)
          + if max 1 (min 127 v.toNat) ≤ s.par.holdOff then 1 else 0) 0 t)) ∧
    t.par = { s.par with
      holdOn := max 1 (min 127 v.toNat)
      holdOff := if max 1 (min 127 v.toNat) ≤ s.par.holdOff then max 1 (min 127 v.toNat) - 1 else s.par.holdOff } ∧
    (t.ptr.hold =
      if s.ptr.hold then decide (t.par.holdOff ≤ s.ptr.pedals.damp.effective)
      else decide (t.par.holdOn ≤ s.ptr.pedals.damp.effective)) ∧
    (t.ptr.latch.isSome =
      if s.ptr.latch.isSome then decide (t.par.holdOff ≤ s.ptr.pedals.sost.effective)
      else decide (t.par.holdOn ≤ s.ptr.pedals.sost.effective)) ∧
    t.ptr.pedals = s.ptr.pedals ∧ t.scn = s.scn ∧ t.ktr = s.ktr ∧ t.rlc = s.rlc ∧ t.hpm = s.hpm ∧ t.mem = s.mem ∧
    t.pbe = s.pbe ∧ t.prm = s.prm ∧ t.tkr = s.tkr ∧ t.lnk = s.lnk ∧
    t = testLatch (testHold { s with par := t.par })) ∧
  (∀ (v : Half) (s : State), s.Takes → ∃ t,
    exec (.holdOffWrite v) s =
      .next (linkChoose (repliedCounts .ok 1
        (if min (min 126 v.toNat) (s.par.holdOn - 1) = v.toNat then 0 else 1) 0 t)) ∧
    t.par = { s.par with holdOff := min (min 126 v.toNat) (s.par.holdOn - 1) } ∧
    (t.ptr.hold =
      if s.ptr.hold then decide (t.par.holdOff ≤ s.ptr.pedals.damp.effective)
      else decide (t.par.holdOn ≤ s.ptr.pedals.damp.effective)) ∧
    (t.ptr.latch.isSome =
      if s.ptr.latch.isSome then decide (t.par.holdOff ≤ s.ptr.pedals.sost.effective)
      else decide (t.par.holdOn ≤ s.ptr.pedals.sost.effective)) ∧
    t.ptr.pedals = s.ptr.pedals ∧ t.scn = s.scn ∧ t.ktr = s.ktr ∧ t.rlc = s.rlc ∧ t.hpm = s.hpm ∧ t.mem = s.mem ∧
    t.pbe = s.pbe ∧ t.prm = s.prm ∧ t.tkr = s.tkr ∧ t.lnk = s.lnk ∧
    t = testLatch (testHold { s with par := t.par })) ∧
  (∀ s : State,
    (s.ptr.hold = false → s.par.holdOn ≤ s.ptr.pedals.damp.effective →
      testHold s = { s with ptr := { s.ptr with hold := true } }) ∧
    (s.ptr.hold = true → s.ptr.pedals.damp.effective < s.par.holdOff →
      testHold s = releaseEvals (allKeys.filter fun k => (s.sound k).sounding)
        { s with ptr := { s.ptr with hold := false } }) ∧
    (s.ptr.hold = false ∧ s.ptr.pedals.damp.effective < s.par.holdOn ∨
        s.ptr.hold = true ∧ s.par.holdOff ≤ s.ptr.pedals.damp.effective → testHold s = s)) ∧
  ∀ s : State,
    (s.ptr.latch = none → s.par.holdOn ≤ s.ptr.pedals.sost.effective →
      testLatch s = { s with ptr := { s.ptr with
        latch := some (allKeys.filter fun k => (s.sound k).playerHolder || (s.sound k).playbackHolder) } }) ∧
    (∀ ks, s.ptr.latch = some ks → s.ptr.pedals.sost.effective < s.par.holdOff →
      testLatch s = releaseEvals ks { s with ptr := { s.ptr with latch := none } }) ∧
    (s.ptr.latch = none ∧ s.ptr.pedals.sost.effective < s.par.holdOn ∨
        s.ptr.latch ≠ none ∧ s.par.holdOff ≤ s.ptr.pedals.sost.effective → testLatch s = s)

/-- R170: PRACTICE_MODE_WRITE and PART_MASK_WRITE store the clamped value; a changed value while PBE is not
STOPPED empties the expectation list, stops the wait timer, empties the recent list when the mode becomes OFF,
and releases a wait; an unchanged value, or any value in STOPPED, changes nothing more. -/
def Obligations.ModeWritesReleaseTheWait : Prop :=
  ∀ (v : Half) (s : State), s.Takes →
    (∀ (c : Instr) (p : Params) (limit old : Nat),
      (c = .practiceModeWrite v ∧ limit = 2 ∧ old = s.par.practiceMode ∧
          p = { s.par with practiceMode := min 2 v.toNat }) ∨
        (c = .partMaskWrite v ∧ limit = 15 ∧ old = s.par.partMask ∧ p = { s.par with partMask := min 15 v.toNat }) →
      (s.pbe.state = .stopped ∨ min limit v.toNat = old →
        exec c s =
          .next (linkChoose (repliedCounts .ok 1 (if v.toNat ≤ limit then 0 else 1) 0 { s with par := p }))) ∧
      (s.pbe.state ≠ .stopped → min limit v.toNat ≠ old → ∃ t,
        exec c s = .next (linkChoose (repliedCounts .ok 1 (if v.toNat ≤ limit then 0 else 1) 0 t)) ∧
        t.par = p ∧
        t.prm = { s.prm with
          expected := []
          waitTimer := none
          recent := if p.practiceMode = 0 then [] else s.prm.recent } ∧
        t.pbe = { s.pbe with
          state := if s.pbe.state = .waiting then .running else s.pbe.state
          saved := if s.pbe.state = .paused ∧ s.pbe.saved = some .waiting then some .running else s.pbe.saved } ∧
        t.lnk.replies = s.lnk.replies ∧ t.scn = s.scn ∧ t.ktr = s.ktr ∧ t.ptr = s.ptr ∧ t.rlc = s.rlc ∧
        t.vdp = s.vdp ∧ t.hpm = s.hpm ∧ t.mem = s.mem ∧ t.tkr = s.tkr))

/-- R119, R120: TAKE_SIZE_WRITE moves the boundary when TKR is IDLE and PBE STOPPED: entries that join the score
region are zero-filled, every other byte of PMEM stays, and the ring is emptied; else it is refused BUSY. -/
def Obligations.TakeSizeWriteMovesTheBoundary : Prop :=
  ∀ (v : Half) (s : State), s.Takes →
    (s.tkr.state = .idle → s.pbe.state = .stopped → ∃ m : Memory,
      exec (.takeSizeWrite v) s =
        .next (linkChoose (repliedCounts .ok 1 (if v.toNat ≤ 3 then 0 else 1) 0
          { s with
            par := { s.par with takeSize := min 3 v.toNat }
            mem := m
            tkr := { s.tkr with count := 0, oldest := 0, writeIndex := 0, overwrites := 0 } })) ∧
      ∀ a, memRead m a =
        if 4 * (16384 - 1024 * 2 ^ s.par.takeSize) ≤ a ∧ a < 4 * (16384 - 1024 * 2 ^ min 3 v.toNat) then 0
        else memRead s.mem a) ∧
    (s.tkr.state ≠ .idle ∨ s.pbe.state ≠ .stopped →
      exec (.takeSizeWrite v) s = .next (linkChoose (repliedCounts .busy 0 0 1 s)))

/-- R18, R19: one CAL record: clamped, checked, and placed in effect at once or held pending by the key's state; a
record that fails the check is refused, its clamps not counted. R47, R84: one PCAL record: a pedal record is in effect
at once and empties the pedal's group; a rail record is in effect at once and sets the drift count to 0, but is refused
BUSY while the rail moves; a zero span is refused. R191: each field that its clamp changes counts one; a run of records
is taken in turn; no record or more than 12 (CAL) or 4 (PCAL) is BAD_LENGTH, a key outside 1..88 or a record number above 3
BAD_INDEX, and such a write writes nothing. -/
def Obligations.CalibrationWritesPlaceTheRecord : Prop :=
  (∀ (a : CalArgs) (k : Key) (c : CalRecord) (s : State), s.Takes → a.key.toNat = k.val + 1 →
     c = ⟨min 4095 a.restRaw.toNat, min 4095 a.fullRaw.toNat, min 4095 a.floor.toNat, min 4095 a.ceil.toNat,
       max 1 (min 4095 a.dmp.toNat), max 1 (min 4095 a.g1.toNat), max 1 (min 4095 a.rpt.toNat),
       max 1 (min 4095 a.g2.toNat), max 1 (min 4095 a.scale.toNat)⟩ →
     (c.dmp < c.g1 → c.g1 < c.rpt → c.rpt < c.g2 → c.restRaw ≠ c.fullRaw →
       exec (.calWrite [a]) s =
         .next (linkChoose (repliedCounts .ok 1
           (([a.restRaw, a.fullRaw, a.floor, a.ceil].map fun f => outside 0 4095 f.toNat).sum
             + ([a.dmp, a.g1, a.rpt, a.g2, a.scale].map fun f => outside 1 4095 f.toNat).sum) 0
           (setKeyRec k
             (if (s.keyRec k).state ∈ [.lifted, .gated, .creep, .struck, .rearm] then
               { s.keyRec k with pendingCal := some c }
             else { s.keyRec k with cal := c }) s)))) ∧
     (¬ (c.dmp < c.g1 ∧ c.g1 < c.rpt ∧ c.rpt < c.g2 ∧ c.restRaw ≠ c.fullRaw) →
       exec (.calWrite [a]) s = .next (linkChoose (repliedCounts .ok 0 0 1 s)))) ∧
  (∀ (a : PcalArgs) (c : PcalRecord) (clamped : Nat) (s : State), s.Takes →
    clamped = ([a.restRaw, a.fullRaw, a.floor, a.ceil].map fun f => outside 0 4095 f.toNat).sum →
    c = ⟨min 4095 a.restRaw.toNat, min 4095 a.fullRaw.toNat, min 4095 a.floor.toNat, min 4095 a.ceil.toNat⟩ →
    (∀ p : Pedal, a.record.toNat = pedalCode p → c.restRaw ≠ c.fullRaw →
      exec (.pcalWrite [a]) s =
        .next (linkChoose (repliedCounts .ok 1 clamped 0
          (setPedalRec p { s.pedalRec p with cal := c, sum := 0, count := 0 } s)))) ∧
    (a.record = 3 → s.rlc.state ∉ [.engaging, .disengaging] → c.restRaw ≠ c.fullRaw →
      exec (.pcalWrite [a]) s =
        .next (linkChoose (repliedCounts .ok 1 clamped 0 { s with rlc := { s.rlc with cal := c, drift := 0 } }))) ∧
    (a.record = 3 → s.rlc.state ∈ [.engaging, .disengaging] →
      exec (.pcalWrite [a]) s = .next (linkChoose (repliedCounts .busy 0 0 1 s))) ∧
    (a.record.toNat ≤ 3 → c.restRaw = c.fullRaw → (a.record = 3 → s.rlc.state ∉ [.engaging, .disengaging]) →
      exec (.pcalWrite [a]) s = .next (linkChoose (repliedCounts .ok 0 0 1 s)))) ∧
  (∀ (records : List CalArgs) (s : State), s.Takes →
    (records = [] ∨ 12 < records.length →
      exec (.calWrite records) s = .next (linkChoose (replied 0x02 .badLength [] s))) ∧
    (records ≠ [] → records.length ≤ 12 → (∃ a ∈ records, a.key = 0 ∨ 88 < a.key.toNat) →
      exec (.calWrite records) s = .next (linkChoose (replied 0x02 .badIndex [] s))) ∧
    (records ≠ [] → records.length ≤ 12 → (∀ a ∈ records, a.key ≠ 0 ∧ a.key.toNat ≤ 88) →
      exec (.calWrite records) s = .next (linkChoose (repliedResult (takenInTurn (takenAlone takeCal) records s))))) ∧
  ∀ (records : List PcalArgs) (s : State), s.Takes →
    (records = [] ∨ 4 < records.length →
      exec (.pcalWrite records) s = .next (linkChoose (replied 0x02 .badLength [] s))) ∧
    (records ≠ [] → records.length ≤ 4 → (∃ a ∈ records, 3 < a.record.toNat) →
      exec (.pcalWrite records) s = .next (linkChoose (replied 0x02 .badIndex [] s))) ∧
    (records ≠ [] → records.length ≤ 4 → (∀ a ∈ records, a.record.toNat ≤ 3) →
      exec (.pcalWrite records) s = .next (linkChoose (repliedResult (takenInTurn (takenAlone takePcal) records s))))

/-- R40, R105, R113: CURVE_WRITE stores its run of points, each clamped to 1..127, LOUD_WRITE its run of gains, each
clamped to 0..32768, and CLICK_WRITE its run of samples as carried, with no clamped field; every other entry of the
table stays. R191: an empty run, or one above the table's greatest, is BAD_LENGTH; a run that would reach past the last
index, or a curve outside 0..3, is BAD_INDEX, and so is a sound outside 0..1 (DEDUCED, log 13); nothing is written then. -/
def Obligations.TableRunsAreStored : Prop :=
  (∀ (curve first : Byte) (points : List Byte) (s : State), s.Takes → curve.toNat ≤ 3 → points ≠ [] →
     first.toNat + points.length ≤ 33 → ∃ curves,
     exec (.curveWrite curve first points) s =
       .next (linkChoose (repliedCounts .ok 1
         (points.countP fun p => p.toNat < 1 || 127 < p.toNat) 0 { s with ktr := { s.ktr with curves := curves } })) ∧
     ∀ (c : Fin 4) (i : Fin 33), curves[c][i] =
       if c.val = curve.toNat ∧ first.toNat ≤ i.val ∧ i.val < first.toNat + points.length then
         max 1 (min 127 (points[i.val - first.toNat]?.getD 0).toNat)
       else s.ktr.curves[c][i]) ∧
  (∀ (first : Byte) (gains : List Half) (s : State), s.Takes → gains ≠ [] → first.toNat + gains.length ≤ 32 →
    ∃ loud,
      exec (.loudWrite first gains) s =
        .next (linkChoose (repliedCounts .ok 1 (gains.countP fun g => 32768 < g.toNat) 0
          { s with hpm := { s.hpm with loud := loud } })) ∧
      ∀ i : Fin 32, loud[i] =
        if first.toNat ≤ i.val ∧ i.val < first.toNat + gains.length then
          min 32768 (gains[i.val - first.toNat]?.getD 0).toNat
        else s.hpm.loud[i]) ∧
  (∀ (sound first : Byte) (samples : List Half) (s : State), s.Takes → sound.toNat ≤ 1 → samples ≠ [] →
    samples.length ≤ 118 → first.toNat + samples.length ≤ 256 → ∃ table,
      exec (.clickWrite sound first samples) s =
        .next (linkChoose (repliedCounts .ok 1 0 0
          { s with hpm :=
            if sound = 0 then { s.hpm with clickA := table } else { s.hpm with clickB := table } })) ∧
      ∀ i : Fin 256, table[i] =
        if first.toNat ≤ i.val ∧ i.val < first.toNat + samples.length then samples[i.val - first.toNat]?.getD 0
        else if sound = 0 then s.hpm.clickA[i] else s.hpm.clickB[i]) ∧
  (∀ (curve first : Byte) (points : List Byte) (s : State), s.Takes →
    (points = [] ∨ 33 < points.length →
      exec (.curveWrite curve first points) s = .next (linkChoose (replied 0x02 .badLength [] s))) ∧
    (points ≠ [] → points.length ≤ 33 → 3 < curve.toNat ∨ 33 < first.toNat + points.length →
      exec (.curveWrite curve first points) s = .next (linkChoose (replied 0x02 .badIndex [] s)))) ∧
  (∀ (first : Byte) (gains : List Half) (s : State), s.Takes →
    (gains = [] ∨ 32 < gains.length →
      exec (.loudWrite first gains) s = .next (linkChoose (replied 0x02 .badLength [] s))) ∧
    (gains ≠ [] → gains.length ≤ 32 → 32 < first.toNat + gains.length →
      exec (.loudWrite first gains) s = .next (linkChoose (replied 0x02 .badIndex [] s)))) ∧
  ∀ (sound first : Byte) (samples : List Half) (s : State), s.Takes →
    (samples = [] ∨ 118 < samples.length →
      exec (.clickWrite sound first samples) s = .next (linkChoose (replied 0x02 .badLength [] s))) ∧
    (samples ≠ [] → samples.length ≤ 118 → 1 < sound.toNat ∨ 256 < first.toNat + samples.length →
      exec (.clickWrite sound first samples) s = .next (linkChoose (replied 0x02 .badIndex [] s)))

/-! ### RAIL -/

/-- R90: the three checks of RAIL, in order; a refused request changes nothing. R92, R93: a request the other way
cancels a wait or reverses a move at once; a request the same way, in a wait, a move or the rest state it asks for,
has no effect. -/
def Obligations.RailChecksAndTurnsBack : Prop :=
  (∀ (target : Byte) (s : State), s.Takes →
     (target ≠ 1 → target ≠ 2 → exec (.rail target) s = .next (linkChoose (replied 0x10 .badIndex [] s))) ∧
     (target = 1 ∨ target = 2 → s.rlc.faulted = true →
       exec (.rail target) s = .next (linkChoose (replied 0x10 .refusedState [] s))) ∧
     (target = 1 ∨ target = 2 → s.rlc.faulted = false → s.rlc.state = .unsettled →
       exec (.rail target) s = .next (linkChoose (replied 0x10 .busy [] s)))) ∧
  (∀ (target : Byte) (s : State), s.Takes → s.rlc.faulted = false →
    (target = 1 ∧ s.rlc.state ∈ [.engaged, .waitToEngage, .engaging] ∨
      target = 2 ∧ s.rlc.state ∈ [.disengaged, .waitToDisengage, .disengaging]) →
    exec (.rail target) s = .next (linkChoose (replied 0x10 .ok [railStateCode s.rlc.state] s))) ∧
  (∀ (target : Byte) (way : RailTarget) (o : WaitOrigin) (back : RailState) (s : State), s.Takes →
    s.rlc.faulted = false → s.rlc.waitOrigin = some o →
    (o = .engaged ∧ back = .engaged ∨ o = .disengaged ∧ back = .disengaged ∨ o = .halted ∧ back = .halted) →
    (target = 1 ∧ s.rlc.state = .waitToDisengage ∧ way = .outward ∨
      target = 2 ∧ s.rlc.state = .waitToEngage ∧ way = .inward) →
    exec (.rail target) s =
      .next (linkChoose (replied 0x10 .ok [railStateCode back]
        (handReport (.rail back .cancelled .none (some way) s.rlc.position s.now)
          { s with rlc := { s.rlc with
            state := back, drive := .off, drift := 0, waitOrigin := none, waitTimer := none } })))) ∧
  ∀ (target : Byte) (way : RailTarget) (s : State), s.Takes → s.rlc.faulted = false →
    (target = 1 ∧ s.rlc.state = .disengaging ∧ way = .inward ∨
      target = 2 ∧ s.rlc.state = .engaging ∧ way = .outward) →
    exec (.rail target) s =
      .next (linkChoose (replied 0x10 .ok [if way = .inward then 5 else 6]
        (handReport
          (.rail (if way = .inward then .engaging else .disengaging) .reversed .none (some way) s.rlc.position s.now)
          { s with rlc := { s.rlc with
            state := if way = .inward then .engaging else .disengaging
            drive := if way = .inward then .inward else .outward
            moveTimer := some (s.now + BitVec.ofNat 32 s.par.railTimeout) } })))

/-- R91, R86, R99: a request from a rest state toward the other end, or either way from HALTED: with the keys quiet
a move starts, else a wait. -/
def Obligations.RailRequestFromRest : Prop :=
  ∀ (target : Byte) (way : RailTarget) (origin : WaitOrigin) (s : State), s.Takes → s.rlc.faulted = false →
    (target = 1 ∧ way = .inward ∧
        (s.rlc.state = .disengaged ∧ origin = .disengaged ∨ s.rlc.state = .halted ∧ origin = .halted) ∨
      target = 2 ∧ way = .outward ∧
        (s.rlc.state = .engaged ∧ origin = .engaged ∨ s.rlc.state = .halted ∧ origin = .halted)) →
    (Quiet s → exec (.rail target) s =
      .next (linkChoose (replied 0x10 .ok [if way = .inward then 5 else 6]
        (handReport
          (.rail (if way = .inward then .engaging else .disengaging) .moving .none (some way) s.rlc.position s.now)
          { s with rlc := { s.rlc with
            state := if way = .inward then .engaging else .disengaging
            drive := if way = .inward then .inward else .outward
            drift := 0
            waitOrigin := none
            waitTimer := none
            moveTimer := some (s.now + BitVec.ofNat 32 s.par.railTimeout) } })))) ∧
    (¬ Quiet s → exec (.rail target) s =
      .next (linkChoose (replied 0x10 .ok [if way = .inward then 3 else 4]
        (handReport
          (.rail (if way = .inward then .waitToEngage else .waitToDisengage) .waiting .none (some way) s.rlc.position
            s.now)
          { s with rlc := { s.rlc with
            state := if way = .inward then .waitToEngage else .waitToDisengage
            drive := .off
            drift := 0
            waitOrigin := some origin
            waitTimer := if s.par.railWait = 0 then none else some (s.now + BitVec.ofNat 32 s.par.railWait) } }))))

/-! ### Score and playback -/

/-- R128, R129, R130: SCORE_WRITE stores every entry of its run and no other byte; the checks are made in the order
BAD_LENGTH, BAD_INDEX, BUSY, and a refused write stores nothing. -/
def Obligations.ScoreWriteStoresTheRun : Prop :=
  ∀ (start : Half) (es : List Entry) (s : State), s.Takes →
    (1 ≤ es.length → es.length ≤ 56 → start.toNat + es.length ≤ scoreSize s →
      ¬ (s.pbe.state ≠ .stopped ∧ s.pbe.source = .score) → ∃ m : Memory,
        exec (.scoreWrite start es) s =
          .next (linkChoose (replied 0x20 .ok (field2 start.toNat ++ field2 es.length) { s with mem := m })) ∧
        (KeepsMemory s → ∀ (i : Nat) (h : i < es.length), readEntry m (start.toNat + i) = es[i]) ∧
        ∀ a, a < 4 * start.toNat ∨ 4 * (start.toNat + es.length) ≤ a → memRead m a = memRead s.mem a) ∧
    (es = [] ∨ 56 < es.length →
      exec (.scoreWrite start es) s = .next (linkChoose (replied 0x20 .badLength [] s))) ∧
    (1 ≤ es.length → es.length ≤ 56 → scoreSize s < start.toNat + es.length →
      exec (.scoreWrite start es) s = .next (linkChoose (replied 0x20 .badIndex [] s))) ∧
    (1 ≤ es.length → es.length ≤ 56 → start.toNat + es.length ≤ scoreSize s → s.pbe.state ≠ .stopped →
      s.pbe.source = .score → exec (.scoreWrite start es) s = .next (linkChoose (replied 0x20 .busy [] s)))

/-- R131, R182: SCORE_READ is answered with the entries from the start index, shortened at the end of the region, and
CAPTURE_READ with the entries of the ring from the offset, oldest first; neither changes anything else. -/
def Obligations.ReadsShowTheScoreAndTheRing : Prop :=
  (∀ (start count : Half) (s : State), s.Takes →
     (count = 0 ∨ 56 < count.toNat →
       exec (.scoreRead start count) s = .next (linkChoose (replied 0x21 .badLength [] s))) ∧
     (1 ≤ count.toNat → count.toNat ≤ 56 → scoreSize s ≤ start.toNat →
       exec (.scoreRead start count) s = .next (linkChoose (replied 0x21 .badIndex [] s))) ∧
     (1 ≤ count.toNat → count.toNat ≤ 56 → start.toNat < scoreSize s →
       exec (.scoreRead start count) s =
         .next (linkChoose (replied 0x21 .ok
           (field2 start.toNat ++ field2 (min count.toNat (scoreSize s - start.toNat))
             ++ (List.range (min count.toNat (scoreSize s - start.toNat))).flatMap fun i =>
               entryBytes (readEntry s.mem (start.toNat + i))) s)))) ∧
  ∀ (offset count : Half) (s : State), s.Takes →
    (count = 0 ∨ 56 < count.toNat →
      exec (.captureRead offset count) s = .next (linkChoose (replied 0x32 .badLength [] s))) ∧
    (1 ≤ count.toNat → count.toNat ≤ 56 →
      exec (.captureRead offset count) s =
        .next (linkChoose (replied 0x32 .ok
          ([takeStateCode s.tkr.state] ++ field2 s.tkr.count ++ field2 s.tkr.overwrites ++ field2 offset.toNat
            ++ field2 (min count.toNat (s.tkr.count - offset.toNat))
            ++ (List.range (min count.toNat (s.tkr.count - offset.toNat))).flatMap fun i =>
              entryBytes (readEntry s.mem
                (scoreSize s + (s.tkr.oldest + (offset.toNat + i)) % (1024 * 2 ^ s.par.takeSize)))) s)))

/-- R150: the checks of PLAY, in order; a refused PLAY changes nothing. -/
def Obligations.PlayChecks : Prop :=
  ∀ (source mark : Byte) (s : State), s.Takes →
    (1 < source.toNat → exec (.play source mark) s = .next (linkChoose (replied 0x22 .badIndex [] s))) ∧
    (source.toNat ≤ 1 → s.pbe.state ≠ .stopped →
      exec (.play source mark) s = .next (linkChoose (replied 0x22 .busy [] s))) ∧
    (source = 1 → s.pbe.state = .stopped → s.tkr.state ≠ .idle ∨ s.tkr.count = 0 →
      exec (.play source mark) s = .next (linkChoose (replied 0x22 .refusedState [] s))) ∧
    (source = 0 → s.pbe.state = .stopped → (∀ place, ¬ Placed s .score ⟨s.tkr.oldest, s.tkr.count⟩ mark.toNat place) →
      exec (.play source mark) s = .next (linkChoose (replied 0x22 .badIndex [] s))) ∧
    (source = 1 → s.pbe.state = .stopped → s.tkr.state = .idle → s.tkr.count ≠ 0 →
      (∀ place, ¬ Placed s .take ⟨s.tkr.oldest, s.tkr.count⟩ mark.toNat place) →
      exec (.play source mark) s = .next (linkChoose (replied 0x22 .badIndex [] s)))

/-- R150, R148, R149, R179: PLAY of a score at a place inside the region, and of a take, whose window it fixes. A place
at the end of the material faults RANGE (R138) or ends the take within the same event, and PBE is STOPPED there. -/
def Obligations.PlayStarts : Prop :=
  (∀ (mark : Byte) (place : Nat) (s : State), s.Takes → s.pbe.state = .stopped →
     Placed s .score ⟨s.tkr.oldest, s.tkr.count⟩ mark.toNat place →
     (place < scoreSize s → exec (.play 0 mark) s =
       .next (linkChoose (replied 0x22 .ok []
         (playbackPlaced place
           (handReport (.play .running none .score place .started none s.now)
             { s with
               pbe := { s.pbe with
                 state := .running, source := .score, stack := [], stackError := false, acc := 0, tempo := 120,
                 beatPulse := 0, barPosition := 0, cursor := place, countdown := (scoreAt s place).delta + 1 }
               prm := { s.prm with expected := [], recent := [], hits := 0, misses := 0, wrongs := 0 } }))))) ∧
     (scoreSize s ≤ place → ∃ t, exec (.play 0 mark) s = .next (linkChoose (replied 0x22 .ok [] t)) ∧
       t.pbe.state = .stopped ∧ t.pbe.cursor = place ∧ t.pbe.source = .score)) ∧
  ∀ (mark : Byte) (place : Nat) (s : State), s.Takes → s.pbe.state = .stopped → s.tkr.state = .idle →
    s.tkr.count ≠ 0 → Placed s .take ⟨s.tkr.oldest, s.tkr.count⟩ mark.toNat place →
    (place < s.tkr.count → exec (.play 1 mark) s =
      .next (linkChoose (replied 0x22 .ok []
        (handReport (.play .running none .take place .started none s.now)
          { s with
            pbe := { s.pbe with
              state := .running, source := .take, stack := [], stackError := false, acc := 0, tempo := 120,
              beatPulse := 0, barPosition := 0, cursor := place, window := some ⟨s.tkr.oldest, s.tkr.count⟩,
              countdown := (windowEntry s s.tkr.oldest place).delta + 1 }
            prm := { s.prm with expected := [], recent := [], hits := 0, misses := 0, wrongs := 0 } })))) ∧
    (s.tkr.count ≤ place → ∃ t, exec (.play 1 mark) s = .next (linkChoose (replied 0x22 .ok [] t)) ∧
      t.pbe.state = .stopped ∧ t.pbe.cursor = place ∧ t.pbe.source = .take)

/-- R134, R151: STOP makes the stop steps; in STOPPED it changes nothing. -/
def Obligations.StopMakesTheStopSteps : Prop :=
  ∀ s : State, s.Takes →
    (s.pbe.state = .stopped → exec .stop s = .next (linkChoose (replied 0x23 .ok [] s))) ∧
    (s.pbe.state ≠ .stopped → ∃ t, exec .stop s = .next (linkChoose (replied 0x23 .ok [] t)) ∧
      t.pbe = { s.pbe with state := .stopped, saved := none, stack := [], countdown := 0 } ∧
      t.prm = { s.prm with expected := [], waitTimer := none, pauseSweep := none } ∧
      (∀ k, (t.sound k).playbackHolder = false) ∧ (∀ p, (t.pedalRec p).playback = 0) ∧
      (∀ k, (t.sound k).playerHolder = (s.sound k).playerHolder) ∧ t.lnk.replies = s.lnk.replies ∧ t.par = s.par ∧
      t.scn = s.scn ∧ t.ktr = s.ktr ∧ t.rlc = s.rlc ∧ t.hpm = s.hpm ∧ t.mem = s.mem ∧ t.tkr = s.tkr)

/-- R152, R153, R168: PAUSE saves the state, clears the playback holders and levels and suspends PRM; RESUME returns to
the saved state, with every sweep that PRM holds advanced by the length of the pause. -/
def Obligations.PauseAndResume : Prop :=
  (∀ s : State, s.Takes →
    (s.pbe.state = .stopped → exec .pause s = .next (linkChoose (replied 0x24 .refusedState [] s))) ∧
    (s.pbe.state = .paused → exec .pause s = .next (linkChoose (replied 0x24 .ok [] s))) ∧
    ∀ saved, s.pbe.state = .running ∧ saved = .running ∨ s.pbe.state = .waiting ∧ saved = .waiting →
      ∃ t, exec .pause s = .next (linkChoose (replied 0x24 .ok [] t)) ∧
        t.pbe = { s.pbe with state := .paused, saved := some saved } ∧
        t.prm = { s.prm with pauseSweep := some s.now } ∧
        (∀ k, (t.sound k).playbackHolder = false) ∧ (∀ p, (t.pedalRec p).playback = 0) ∧
        t.lnk.replies = s.lnk.replies ∧ t.par = s.par ∧ t.scn = s.scn ∧ t.ktr = s.ktr ∧ t.rlc = s.rlc ∧
        t.hpm = s.hpm ∧ t.mem = s.mem ∧ t.tkr = s.tkr) ∧
  ∀ s : State, s.Takes →
    (s.pbe.state = .stopped → exec .resume s = .next (linkChoose (replied 0x25 .refusedState [] s))) ∧
    (s.pbe.state = .running ∨ s.pbe.state = .waiting → exec .resume s = .next (linkChoose (replied 0x25 .ok [] s))) ∧
    ∀ (back : PlayState) (since : Sweep), s.pbe.state = .paused → s.prm.pauseSweep = some since →
      s.pbe.saved = some .running ∧ back = .running ∨ s.pbe.saved = some .waiting ∧ back = .waiting →
      exec .resume s =
        .next (linkChoose (replied 0x25 .ok []
          (handReport (.play back none s.pbe.source s.pbe.cursor .resumed none s.now)
            { s with
              pbe := { s.pbe with state := back, saved := none }
              prm := { s.prm with
                expected := s.prm.expected.map fun e =>
                  { e with noteSweep := e.noteSweep + (s.now - since),
                           deadline := e.deadline.map (· + (s.now - since)) }
                recent := s.prm.recent.map fun e => { e with sweep := e.sweep + (s.now - since) }
                waitTimer := s.prm.waitTimer.map (· + (s.now - since))
                pauseSweep := none } })))

/-- R154, R149: LOCATE is refused in STOPPED and for a missing mark; else it places the cursor, empties the stack and
the expectation list, restarts the bar and leaves a wait. A place at the end of the material stops playback. -/
def Obligations.LocatePlacesTheCursor : Prop :=
  ∀ (mark : Byte) (w : TakeWindow) (s : State), s.Takes →
    (s.pbe.source = .score ∧ w = ⟨0, 0⟩ ∨ s.pbe.source = .take ∧ s.pbe.window = some w) →
    (s.pbe.state = .stopped → exec (.locate mark) s = .next (linkChoose (replied 0x26 .refusedState [] s))) ∧
    (s.pbe.state ≠ .stopped → (∀ place, ¬ Placed s s.pbe.source w mark.toNat place) →
      exec (.locate mark) s = .next (linkChoose (replied 0x26 .badIndex [] s))) ∧
    (s.pbe.state ≠ .stopped → ∀ place, Placed s s.pbe.source w mark.toNat place → ∃ t,
      exec (.locate mark) s = .next (linkChoose (replied 0x26 .ok [] t)) ∧
      t.pbe.source = s.pbe.source ∧ t.pbe.cursor = place ∧ t.pbe.stack = [] ∧ t.pbe.acc = s.pbe.acc ∧
      t.pbe.tempo = s.pbe.tempo ∧ t.pbe.beatPulse = 0 ∧ t.pbe.barPosition = 0 ∧ t.prm.expected = [] ∧
      t.prm.waitTimer = none ∧ t.prm.recent = s.prm.recent ∧ t.lnk.replies = s.lnk.replies ∧ t.par = s.par ∧
      t.scn = s.scn ∧ t.ktr = s.ktr ∧ t.rlc = s.rlc ∧ t.hpm = s.hpm ∧
      (s.pbe.source = .score ∧ place < scoreSize s →
        t.pbe.countdown = (scoreAt s place).delta + 1 ∧ t.vdp.table = s.vdp.table ∧ t.ptr = s.ptr ∧
        t.pbe.state = (if s.pbe.state = .waiting then .running else s.pbe.state) ∧
        t.pbe.saved = s.pbe.saved.map fun _ => .running) ∧
      (s.pbe.source = .take ∧ place < w.count →
        t.pbe.countdown = (windowEntry s w.oldest place).delta + 1 ∧ t.vdp.table = s.vdp.table ∧ t.ptr = s.ptr ∧
        t.pbe.state = (if s.pbe.state = .waiting then .running else s.pbe.state) ∧
        t.pbe.saved = s.pbe.saved.map fun _ => .running) ∧
      (s.pbe.source = .score ∧ scoreSize s ≤ place ∨ s.pbe.source = .take ∧ w.count ≤ place →
        t.pbe.state = .stopped))

/-! ### The take recorder -/

/-- R175, R181, R183: ARM, STOP_CAPTURE and CAPTURE_CLEAR. -/
def Obligations.ArmStopAndClearCapture : Prop :=
  (∀ (mode : Byte) (s : State), s.Takes →
    (s.pbe.state ≠ .stopped → s.pbe.source = .take →
      exec (.arm mode) s = .next (linkChoose (replied 0x30 .busy [] s))) ∧
    (¬ (s.pbe.state ≠ .stopped ∧ s.pbe.source = .take) →
      (1 < mode.toNat → exec (.arm mode) s = .next (linkChoose (replied 0x30 .badIndex [] s))) ∧
      (mode = 0 → exec (.arm mode) s =
        .next (linkChoose (replied 0x30 .ok ([1] ++ field2 0)
          { s with tkr := ⟨.armed, 0, 0, 0, none, none, 0⟩ }))) ∧
      (mode = 1 → exec (.arm mode) s =
        .next (linkChoose (replied 0x30 .ok ([1] ++ field2 s.tkr.count)
          { s with tkr := { s.tkr with state := .armed, reference := none, armedSync := none } }))))) ∧
  (∀ s : State, s.Takes →
    (s.tkr.state = .idle → exec .stopCapture s = .next (linkChoose (replied 0x31 .ok (field2 s.tkr.count) s))) ∧
    (s.tkr.state ≠ .idle → exec .stopCapture s =
      .next (linkChoose (replied 0x31 .ok (field2 s.tkr.count)
        { s with tkr := { s.tkr with state := .idle, reference := none, armedSync := none } })))) ∧
  ∀ s : State, s.Takes →
    (s.tkr.state ≠ .idle ∨ s.pbe.state ≠ .stopped ∧ s.pbe.source = .take →
      exec .captureClear s = .next (linkChoose (replied 0x33 .busy [] s))) ∧
    (s.tkr.state = .idle → ¬ (s.pbe.state ≠ .stopped ∧ s.pbe.source = .take) →
      exec .captureClear s =
        .next (linkChoose (replied 0x33 .ok []
          { s with tkr := { s.tkr with count := 0, oldest := 0, writeIndex := 0, overwrites := 0 } })))

/-- R178, R180: TAKE_GAP at the start of the sweep that makes the reference 4095 sweeps old: a GAP entry with delta
4095 is written at the write index and the reference becomes the new sweep; in RING mode a full ring loses its
oldest entry; in ONE-SHOT mode the entry that fills the ring makes the recorder FULL, and a ring already full takes none
and makes it FULL too. That TAKE_GAP is the whole sweep start where a GAP is due, and nothing where none is, is the
model's choice (DESIGN CHOICE, log 1). -/
def Obligations.TakeGapIsAppended : Prop :=
  (∀ (r : Sweep) (s : State), s.Runs → s.early = [] → KeepsMemory s → s.tkr.state = .recording →
    s.tkr.reference = some r → elapsed (s.now + 1) r = 4095 → s.par.takeMode = 0 → s.tkr.count ≤ 1024 * 2 ^ s.par.takeSize → ∃ t,
    exec .takeGap s = .next (linkChoose t) ∧ t.scn.sweep = s.scn.sweep + 1 ∧
    readEntry t.mem (scoreSize s + s.tkr.writeIndex) = ⟨0xFF, 0xF8, 0, 0⟩ ∧
    (∀ i, i ≠ scoreSize s + s.tkr.writeIndex → readEntry t.mem i = readEntry s.mem i) ∧
    t.tkr = { s.tkr with
      writeIndex := (s.tkr.writeIndex + 1) % (1024 * 2 ^ s.par.takeSize)
      reference := some (s.now + 1)
      count := min (1024 * 2 ^ s.par.takeSize) (s.tkr.count + 1)
      oldest :=
        if s.tkr.count < 1024 * 2 ^ s.par.takeSize then s.tkr.oldest
        else (s.tkr.oldest + 1) % (1024 * 2 ^ s.par.takeSize)
      overwrites :=
        if s.tkr.count < 1024 * 2 ^ s.par.takeSize then s.tkr.overwrites else min 65535 (s.tkr.overwrites + 1) }) ∧
  (∀ (r : Sweep) (s : State), s.Runs → s.early = [] → KeepsMemory s → s.tkr.state = .recording →
    s.tkr.reference = some r → elapsed (s.now + 1) r = 4095 → s.par.takeMode = 1 → ∃ t,
    exec .takeGap s = .next (linkChoose t) ∧ t.scn.sweep = s.scn.sweep + 1 ∧
    (s.tkr.count + 1 = 1024 * 2 ^ s.par.takeSize →
      readEntry t.mem (scoreSize s + s.tkr.writeIndex) = ⟨0xFF, 0xF8, 0, 0⟩ ∧
      t.tkr = { s.tkr with
        state := .full, reference := none, count := s.tkr.count + 1
        writeIndex := (s.tkr.writeIndex + 1) % (1024 * 2 ^ s.par.takeSize) }) ∧
    (1024 * 2 ^ s.par.takeSize ≤ s.tkr.count →
      t.mem = s.mem ∧ t.tkr = { s.tkr with state := .full, reference := none })) ∧
  ∀ s : State, s.Runs → s.early = [] → (∀ r, s.tkr.reference = some r → elapsed (s.now + 1) r ≠ 4095) →
    exec .takeGap s = .next (linkChoose s)

/-- R66, R98: a player strike is voiced but with the rail out of the way of the hammers and LAYER 0. R173, R174, R176, R177,
R180: a player event starts an ARMED take with delta 0, behind the armed SYNC if there is one, is appended in RECORDING
with its delta from the reference sweep, and is lost in IDLE and FULL; every other entry of PMEM stays. A full ring loses
its oldest entry in RING mode; in ONE-SHOT mode the entry that fills it makes the recorder FULL with a CAPTURE FULL
report, and a ring already full takes no entry and does the same. R179: a playback start or locate appends a SYNC entry
of its score index in RECORDING, is remembered in ARMED and ignored in IDLE and FULL. -/
def Obligations.StrikesAreVoicedAndPlayerEventsRecorded : Prop :=
  (∀ (k : Key) (level : Nat) (s : State),
    (s.rlc.state ∈ [.disengaged, .waitToEngage] → s.par.layer ≠ 1 → voiceStrike k level s = s) ∧
    (s.rlc.state ∉ [.disengaged, .waitToEngage] ∨ s.par.layer = 1 →
      voiceStrike k level s = noteOn k level .player s)) ∧
  ∀ (kind first second delta : Nat) (s : State), kind < 8 → first < 128 → second < 128 →
    (s.tkr.state = .idle ∨ s.tkr.state = .full → playerEvent kind first second s = s) ∧
    (KeepsMemory s →
      s.tkr.count + 1 < 1024 * 2 ^ s.par.takeSize ∨ s.tkr.count < 1024 * 2 ^ s.par.takeSize ∧ s.par.takeMode = 0 →
      delta < 4096 →
      (s.tkr.state = .recording ∧ (∃ r, s.tkr.reference = some r ∧ elapsed s.now r = delta) ∨
        s.tkr.state = .armed ∧ s.tkr.armedSync = none ∧ delta = 0) → ∃ m : Memory,
      playerEvent kind first second s =
        { s with
          mem := m
          tkr := { s.tkr with
            state := .recording, reference := some s.now, count := s.tkr.count + 1
            writeIndex := (s.tkr.writeIndex + 1) % (1024 * 2 ^ s.par.takeSize) } } ∧
      takeEntry (readEntry m (scoreSize s + s.tkr.writeIndex)) = ⟨delta, kind, first, second⟩ ∧
      ∀ i, i ≠ scoreSize s + s.tkr.writeIndex → readEntry m i = readEntry s.mem i) ∧
    (KeepsMemory s → s.tkr.state = .recording → (∃ r, s.tkr.reference = some r ∧ elapsed s.now r = delta) →
      delta < 4096 →
      (1024 * 2 ^ s.par.takeSize ≤ s.tkr.count → s.par.takeMode = 0 → ∃ m : Memory,
        playerEvent kind first second s =
          { s with
            mem := m
            tkr := { s.tkr with
              reference := some s.now
              writeIndex := (s.tkr.writeIndex + 1) % (1024 * 2 ^ s.par.takeSize)
              oldest := (s.tkr.oldest + 1) % (1024 * 2 ^ s.par.takeSize)
              overwrites := min 65535 (s.tkr.overwrites + 1) } } ∧
        takeEntry (readEntry m (scoreSize s + s.tkr.writeIndex)) = ⟨delta, kind, first, second⟩ ∧
        ∀ i, i ≠ scoreSize s + s.tkr.writeIndex → readEntry m i = readEntry s.mem i) ∧
      (s.tkr.count + 1 = 1024 * 2 ^ s.par.takeSize → s.par.takeMode = 1 → ∃ m : Memory,
        playerEvent kind first second s =
          handReport (.captureFull (s.tkr.count + 1) (1024 * 2 ^ s.par.takeSize) s.now)
            { s with
              mem := m
              tkr := { s.tkr with
                state := .full, reference := none, count := s.tkr.count + 1
                writeIndex := (s.tkr.writeIndex + 1) % (1024 * 2 ^ s.par.takeSize) } } ∧
        takeEntry (readEntry m (scoreSize s + s.tkr.writeIndex)) = ⟨delta, kind, first, second⟩ ∧
        ∀ i, i ≠ scoreSize s + s.tkr.writeIndex → readEntry m i = readEntry s.mem i) ∧
      (1024 * 2 ^ s.par.takeSize ≤ s.tkr.count → s.par.takeMode = 1 →
        playerEvent kind first second s =
          handReport (.captureFull s.tkr.count (1024 * 2 ^ s.par.takeSize) s.now)
            { s with tkr := { s.tkr with state := .full, reference := none } })) ∧
    (∀ index, s.tkr.state = .armed → s.tkr.armedSync = some index →
      playerEvent kind first second s = playerEvent kind first second (playbackPlaced index
        { s with tkr := { s.tkr with state := .recording, reference := some s.now, armedSync := none } })) ∧
    ∀ index,
      (s.tkr.state = .idle ∨ s.tkr.state = .full → playbackPlaced index s = s) ∧
      (s.tkr.state = .armed → playbackPlaced index s = { s with tkr := { s.tkr with armedSync := some index } }) ∧
      (s.tkr.state = .recording → playbackPlaced index s = playerEvent 5 (index / 128) (index % 128) s) ∧
      TakeEntry.syncIndex ⟨delta, 5, index / 128, index % 128⟩ = index

/-! ### VDP -/

/-- R76: VOICE_PASS joins the voice queue below 24 frames and changes no record; it is refused otherwise. R62: the held
condition. R67, R68: the enqueue rule of a NOTE-ON for a key that is held: below 24 queued frames the frame joins
the queue and the record becomes sounding with its level and source; at 24 or more it is dropped, counted and, while
no VOICE DROP report waits, reported. R65, R73: the release evaluation of a key, and of several in the order given: a
sounding key that nothing holds gets its NOTE-OFF, or joins the off-pending set before a full queue. R55, R54: an effective
level is the greater of the two levels of its pedal, and a change goes to VDP and then to the test of HOLD or the latch.
R72: at VDP it replaces the level of an unsent frame of its kind in place, else joins the queue, else is remembered. -/
def Obligations.EnqueueRules : Prop :=
  (∀ (bytes : List Byte) (s : State), s.Takes →
     (1 ≤ bytes.length → bytes.length ≤ 32 → s.vdp.queue.length < 24 →
       exec (.voicePass bytes) s =
         .next (linkChoose (replied 0x40 .ok []
           (voiceChoose { s with vdp := { s.vdp with queue := s.vdp.queue ++ [.pass bytes] } })))) ∧
     (bytes = [] ∨ 32 < bytes.length →
       exec (.voicePass bytes) s = .next (linkChoose (replied 0x40 .badLength [] s))) ∧
     (1 ≤ bytes.length → bytes.length ≤ 32 → 24 ≤ s.vdp.queue.length →
       exec (.voicePass bytes) s = .next (linkChoose (replied 0x40 .queueFull [] s)))) ∧
  (∀ (k : Key) (s : State), held s k = true ↔
    (s.sound k).playerHolder = true ∨ (s.sound k).playbackHolder = true ∨ s.ptr.hold = true ∨
      ∃ ks, s.ptr.latch = some ks ∧ k ∈ ks) ∧
  (∀ (k : Key) (level : Nat) (src : NoteSource) (s : State), held s k = true →
    (s.vdp.queue.length < 24 → s.vdp.inFlight ≠ none →
      noteOn k level src s = setSound k
        { s.sound k with
          sounding := true, lastLevel := level, offPending := false
          lastSource := if src = .player then .player else .playback }
        { s with vdp := { s.vdp with queue := s.vdp.queue ++ [.noteOn k level src] } }) ∧
    (24 ≤ s.vdp.queue.length → s.vdp.dropWaiting = true →
      noteOn k level src s = setSound k { s.sound k with offPending := false }
        { s with vdp := { s.vdp with dropCount := min 65535 (s.vdp.dropCount + 1) } }) ∧
    (24 ≤ s.vdp.queue.length → s.vdp.dropWaiting = false → s.par.reportEnable.testBit 2 = true →
      s.lnk.classE.length < 16 →
      noteOn k level src s = setSound k { s.sound k with offPending := false }
        { s with
          vdp := { s.vdp with dropCount := min 65535 (s.vdp.dropCount + 1), dropWaiting := true }
          lnk := { s.lnk with classE :=
            s.lnk.classE ++ [.voiceDrop k level src (min 65535 (s.vdp.dropCount + 1)) s.now] } })) ∧
  (∀ (k : Key) (ks : List Key) (s : State),
    ((s.sound k).sounding = false ∨ held s k = true ∨ (s.sound k).offPending = true → releaseEval k s = s) ∧
    ((s.sound k).sounding = true → held s k = false → (s.sound k).offPending = false →
      (s.vdp.queue.length < 32 →
        releaseEval k s = voiceChoose (setSound k { s.sound k with sounding := false }
          { s with vdp := { s.vdp with queue :=
            s.vdp.queue ++ [.noteOff k (s.sound k).lastLevel (s.sound k).lastSource] } })) ∧
      (32 ≤ s.vdp.queue.length → releaseEval k s = setSound k { s.sound k with offPending := true } s)) ∧
    releaseEvals [] s = s ∧ releaseEvals (k :: ks) s = releaseEvals ks (releaseEval k s)) ∧
  (∀ (p : Pedal) (level : Nat) (s : State),
    playbackLevel p level s = recomputeEffective p (setPedalRec p { s.pedalRec p with playback := level } s) ∧
    (level = max (s.pedalRec p).player (s.pedalRec p).playback →
      (level = (s.pedalRec p).effective → recomputeEffective p s = s) ∧
      (level ≠ (s.pedalRec p).effective →
        recomputeEffective p s =
          (match p with | .soft => id | .sost => testLatch | .damp => testHold)
            (voicePedal p level (setPedalRec p { s.pedalRec p with effective := level } s))))) ∧
  ∀ (p : Pedal) (level : Nat) (s : State),
    (∀ (before after : List VoiceFrame) (old : Nat), s.vdp.queue = before ++ .pedal p old :: after →
      (∀ l, .pedal p l ∉ before) → (∀ l, .pedal p l ∉ after) →
      voicePedal p level s = { s with vdp := { s.vdp with queue := before ++ .pedal p level :: after } }) ∧
    ((∀ l, .pedal p l ∉ s.vdp.queue) →
      (s.vdp.queue.length < 32 →
        voicePedal p level s = voiceChoose { s with vdp := { s.vdp with queue := s.vdp.queue ++ [.pedal p level] } }) ∧
      (32 ≤ s.vdp.queue.length →
        voicePedal p level s = { s with vdp := { s.vdp with remembered :=
          match p with
          | .soft => { s.vdp.remembered with soft := some level }
          | .sost => { s.vdp.remembered with sost := some level }
          | .damp => { s.vdp.remembered with damp := some level } } }))

/-- R75, R77, R78, R79: VOICE_FRAME_COMPLETION and HOLD_IN_CHANGE, and the choice an idle voice transmitter makes:
ALL DAMP from the urgent slot whatever HOLD_IN shows, else the head frame unless HOLD_IN is asserted, and the refill
of the place it frees: an owed NOTE-OFF of the lowest key, else a remembered pedal change. -/
def Obligations.VoiceTransmitterChooses : Prop :=
  (∀ s : State, s.Runs →
    (s.vdp.inFlight ≠ none →
      exec .voiceFrameCompletion s = .next (linkChoose (voiceChoose { s with vdp := { s.vdp with inFlight := none } }))) ∧
    (s.vdp.inFlight = none → exec .voiceFrameCompletion s = .next (linkChoose s)) ∧
    exec (.holdInChange false) s = .next (linkChoose (voiceChoose { s with vdp := { s.vdp with holdIn := false } })) ∧
    (s.vdp.inFlight ≠ none ∨ s.vdp.urgent = false →
      exec (.holdInChange true) s = .next (linkChoose { s with vdp := { s.vdp with holdIn := true } }))) ∧
  (∀ s : State, s.vdp.inFlight ≠ none → voiceChoose s = s) ∧
  (∀ s : State, s.vdp.inFlight = none → s.vdp.urgent = true →
    voiceChoose s = { s with vdp := { s.vdp with urgent := false, inFlight := some .allDamp } }) ∧
  (∀ s : State, s.vdp.inFlight = none → s.vdp.urgent = false → s.vdp.holdIn = true ∨ s.vdp.queue = [] →
    voiceChoose s = s) ∧
  ∀ (f : VoiceFrame) (rest : List VoiceFrame) (s : State), s.vdp.inFlight = none → s.vdp.urgent = false →
    s.vdp.holdIn = false → s.vdp.queue = f :: rest →
    ((∀ k, (s.sound k).offPending = false) → s.vdp.remembered = ⟨none, none, none⟩ →
      voiceChoose s = { s with vdp := { s.vdp with inFlight := some f, queue := rest } }) ∧
    ((∀ k, (s.sound k).offPending = false) → ∀ level, s.vdp.remembered.damp = some level →
      voiceChoose s = { s with vdp := { s.vdp with
        inFlight := some f, queue := rest ++ [.pedal .damp level]
        remembered := { s.vdp.remembered with damp := none } } }) ∧
    (∀ k : Key, (∀ j < k, (s.sound j).offPending = false) → (s.sound k).offPending = true →
      (s.sound k).sounding = true → held s k = false →
      voiceChoose s = setSound k { s.sound k with offPending := false, sounding := false }
        { s with vdp := { s.vdp with
          inFlight := some f, queue := rest ++ [.noteOff k (s.sound k).lastLevel (s.sound k).lastSource] } })

/-! ### WATCH -/

/-- R14, R16: WATCH closes an active watch, its samples sent as a final report, and with a count of 1 or more opens
one on the channel; a channel outside 1..92 leaves the watch as it was. R15: a conversion of the watched channel in a sweep
of the watch appends its sample, whatever the state of scanner and channel; at the last sweep the buffer goes out as a
final report and the watch ends, and else at 100 samples it goes out and is emptied. A conversion of another channel, or
before the first sweep of the watch, gathers nothing. In RUNNING the sample is then judged as without a watch. -/
def Obligations.WatchOpensAndCloses : Prop :=
  (∀ (channel : Byte) (s : State), s.Takes → s.scn.watch = none →
    exec (.watch channel 0) s = .next (linkChoose (replied 0x50 .ok [] s))) ∧
  (∀ (channel : Byte) (w : Watch) (s : State), s.Takes → s.scn.watch = some w →
    exec (.watch channel 0) s =
      .next (linkChoose (replied 0x50 .ok []
        (handReport (.watch w.channel (w.first.getD s.now) w.buffer true)
          { s with scn := { s.scn with watch := none } })))) ∧
  (∀ (channel : Byte) (count : Half) (s : State), s.Takes → count ≠ 0 → channel = 0 ∨ 92 < channel.toNat →
    exec (.watch channel count) s = .next (linkChoose (replied 0x50 .badIndex [] s))) ∧
  (∀ (channel : Byte) (count : Half) (c : Channel) (s : State), s.Takes → count ≠ 0 →
    channel.toNat = channelNumber c → s.scn.watch = none →
    exec (.watch channel count) s =
      .next (linkChoose (replied 0x50 .ok []
        { s with scn := { s.scn with watch := some ⟨c, min 4000 count.toNat, none, [], false⟩ } }))) ∧
  (∀ (channel : Byte) (count : Half) (c : Channel) (w : Watch) (s : State), s.Takes → count ≠ 0 →
    channel.toNat = channelNumber c → s.scn.watch = some w →
    exec (.watch channel count) s =
      .next (linkChoose (replied 0x50 .ok []
        (handReport (.watch w.channel (w.first.getD s.now) w.buffer true)
          { s with scn := { s.scn with watch := some ⟨c, min 4000 count.toNat, none, [], false⟩ } })))) ∧
  ∀ (c : Channel) (r : Raw) (g u s : State), s.Runs → u = setChannel c { s.channel c with lastRaw := r } s →
    (g = u ∧ (∀ w, s.scn.watch = some w → w.channel ≠ c ∨ w.started = false) ∨
      ∃ (w : Watch) (first : Sweep), s.scn.watch = some w ∧ w.channel = c ∧ w.started = true ∧
        (w.buffer = [] ∧ first = s.now ∨ w.buffer ≠ [] ∧ w.first = some first) ∧
        (1 < w.remaining ∧ w.buffer.length + 1 < 100 ∧
            g = { u with scn :=
              { u.scn with watch := some ⟨c, w.remaining - 1, some first, w.buffer ++ [r], true⟩ } } ∨
          1 < w.remaining ∧ 100 ≤ w.buffer.length + 1 ∧
            g = handReport (.watch c first (w.buffer ++ [r]) false)
              { u with scn := { u.scn with watch := some ⟨c, w.remaining - 1, none, [], true⟩ } } ∨
          w.remaining ≤ 1 ∧
            g = handReport (.watch c first (w.buffer ++ [r]) true) { u with scn := { u.scn with watch := none } })) →
    (s.scn.state = .warmup → exec (.conversion c r) s = .next (linkChoose g)) ∧
    (s.scn.state = .running → (s.channel c).health = .ok →
      exec (.conversion c r) s = .next (linkChoose (judgeOk c r g)) ∧ (judgeOk c r g).scn.watch = g.scn.watch) ∧
    (s.scn.state = .running → (s.channel c).health = .faulted →
      exec (.conversion c r) s = .next (linkChoose (judgeFaulted c r g)) ∧
        (judgeFaulted c r g).scn.watch = g.scn.watch)

/-! ### Timer expiries -/

/-- R30, R44, R94, R95, R188: a timer's expiry in its sweep: GATE_EXPIRY, STRIKE_AGE_EXPIRY, RAIL_WAIT_EXPIRY,
RAIL_MOVE_EXPIRY and INTER_BYTE_TIMEOUT. A timer row sent while its timer is not at its expiry changes nothing
(DESIGN CHOICE, log 2). -/
def Obligations.TimerExpiries : Prop :=
  ((∀ (k : Key) (g : Gate) (s : State), s.Runs → (s.keyRec k).state = .gated → (s.keyRec k).gate = some g →
     g.expiry = s.now →
     exec (.gateExpiry k) s =
       .next (linkChoose (setKeyRec k { s.keyRec k with state := .creep, gate := none }
         { s with ktr := { s.ktr with gatedCount := s.ktr.gatedCount - 1 } }))) ∧
   (∀ s : State, s.Runs → s.ktr.strikeAge = some s.now →
     exec .strikeAgeExpiry s =
       .next (linkChoose { s with ktr := { s.ktr with lastStrike := none, strikeAge := none } })) ∧
   (∀ (o : WaitOrigin) (back : RailState) (way : RailTarget) (s : State), s.Runs → s.rlc.waitTimer = some s.now →
     s.rlc.waitOrigin = some o →
     (o = .engaged ∧ back = .engaged ∨ o = .disengaged ∧ back = .disengaged ∨ o = .halted ∧ back = .halted) →
     (s.rlc.state = .waitToEngage ∧ way = .inward ∨ s.rlc.state = .waitToDisengage ∧ way = .outward) →
     exec .railWaitExpiry s =
       .next (linkChoose (handReport (.rail back .notQuiet .none (some way) s.rlc.position s.now)
         { s with rlc := { s.rlc with
           state := back, drive := .off, drift := 0, waitOrigin := none, waitTimer := none } }))) ∧
   (∀ (way : RailTarget) (s : State), s.Runs → s.rlc.moveTimer = some s.now →
     (s.rlc.state = .engaging ∧ way = .inward ∨ s.rlc.state = .disengaging ∧ way = .outward) →
     exec .railMoveExpiry s =
       .next (linkChoose (handReport (.railTimeout s.rlc.state s.rlc.position s.now)
         (handReport (.rail .halted .halted .timeout (some way) s.rlc.position s.now)
           { s with rlc := { s.rlc with
             state := .halted, drive := .off, waitOrigin := none, waitTimer := none, moveTimer := none } })))) ∧
   ∀ s : State, s.Runs → s.lnk.rxTimer = some s.now →
     exec .interByteTimeout s =
       .next (linkChoose { s with lnk := { s.lnk with
         rx := .hunt, rxTimer := none, badFrames := min 65535 (s.lnk.badFrames + 1) } })) ∧
  (∀ (k : Key) (s : State), s.Runs →
    (s.keyRec k).state ≠ .gated ∨ (∀ g, (s.keyRec k).gate = some g → g.expiry ≠ s.now) →
    exec (.gateExpiry k) s = .next (linkChoose s)) ∧
  (∀ s : State, s.Runs → s.ktr.strikeAge ≠ some s.now → exec .strikeAgeExpiry s = .next (linkChoose s)) ∧
  (∀ s : State, s.Runs → s.rlc.waitTimer ≠ some s.now → exec .railWaitExpiry s = .next (linkChoose s)) ∧
  (∀ s : State, s.Runs → s.rlc.moveTimer ≠ some s.now → exec .railMoveExpiry s = .next (linkChoose s)) ∧
  ∀ s : State, s.Runs → s.lnk.rxTimer ≠ some s.now → exec .interByteTimeout s = .next (linkChoose s)

/-! ### The start of a sweep -/

/-- R1, R4, R5: SWEEP advances the sweep count by one, modulo 2^32, and touches no PARAM entry; WARMUP_END, where the
warm-up count reaches WARMUP at the end of the sweep, makes SCN RUNNING with every channel OK and both counts 0, and hands
the READY report of the first RUNNING sweep (R193); it does nothing elsewhere (DESIGN CHOICE, log 1). A sweep that does not
end the warm-up counts one more of it. A sweep with nothing due changes the sweep count alone. R135, R178, R159: SWEEP takes
the sweep events of PBE, TKR and PRM; that PBE's comes first, or last behind the samples named for it (R163), is the model's
choice (DESIGN CHOICE, log 3). R30, R44, R94, R95, R188: an expiry due in the ending sweep and not yet taken is taken at its
end (DESIGN CHOICE, log 2). R14: a watch gathers from the first sweep that begins after its command. -/
def Obligations.SweepAdvancesAndEndsWarmup : Prop :=
  (∀ s : State, s.Runs → ∃ t, exec .sweep s = .next (linkChoose t) ∧ t.scn.sweep = s.scn.sweep + 1 ∧
    t.par = s.par ∧ t.scn.leds = s.scn.leds ∧ t.resetHeld = false) ∧
  (∀ s : State, s.Runs → s.early = [] → s.scn.state = .warmup → s.par.warmup ≤ s.scn.warmupCount + 1 → ∃ t,
    exec .sweep s = .next (linkChoose t) ∧ exec .warmupEnd s = .next (linkChoose t) ∧
    t.scn.state = .running ∧ t.scn.sweep = s.scn.sweep + 1 ∧
    ∀ c, t.channel c = { s.channel c with health := .ok, persistence := 0, recovery := 0 }) ∧
  (∀ s : State, s.Runs → s.scn.state = .running ∨ s.scn.warmupCount + 1 < s.par.warmup →
    exec .warmupEnd s = .next (linkChoose s)) ∧
  (∀ s : State, s.Runs → s.early = [] → s.scn.state = .running → s.scn.watch = none →
    (∀ k, (s.keyRec k).state ≠ .gated) →
    s.ktr.strikeAge ≠ some s.now → s.rlc.waitTimer ≠ some s.now → s.rlc.moveTimer ≠ some s.now →
    s.lnk.rxTimer ≠ some s.now → s.pbe.state ≠ .running → s.tkr.state ≠ .recording → s.par.practiceMode = 0 →
    exec .sweep s = .next (linkChoose { s with scn := { s.scn with sweep := s.scn.sweep + 1 } })) ∧
  (∀ (w : Option Watch) (s : State), s.Runs → w = s.scn.watch.map (fun v => { v with started := true }) →
    (∀ k, (s.keyRec k).state ≠ .gated) → s.ktr.strikeAge ≠ some s.now → s.rlc.waitTimer ≠ some s.now →
    s.rlc.moveTimer ≠ some s.now → s.lnk.rxTimer ≠ some s.now →
    (s.scn.state = .running →
      beginSweep s = { s with scn := { s.scn with sweep := s.scn.sweep + 1, watch := w } }) ∧
    (s.scn.state = .warmup → s.scn.warmupCount + 1 < s.par.warmup →
      beginSweep s = { s with scn := { s.scn with
        warmupCount := s.scn.warmupCount + 1, sweep := s.scn.sweep + 1, watch := w } }) ∧
    (s.scn.state = .warmup → s.par.warmup ≤ s.scn.warmupCount + 1 →
      beginSweep s = handReport (.ready (s.scn.sweep + 1))
        { s with scn := { s.scn with
          state := .running, warmupCount := s.scn.warmupCount + 1, sweep := s.scn.sweep + 1, watch := w
          channels := s.scn.channels.map fun r => { r with health := .ok, persistence := 0, recovery := 0 } } })) ∧
  (∀ s : State, s.Runs → s.early = [] → ∃ t,
    exec .sweep s = .next (linkChoose t) ∧ t = practiceSweep (recorderSweep (playbackSweep (beginSweep s))) ∧
    (∀ (k : Key) (g : Gate), (s.keyRec k).state = .gated → (s.keyRec k).gate = some g → g.expiry = s.now →
      t.keyRec k = { s.keyRec k with state := .creep, gate := none }) ∧
    (s.ktr.strikeAge = some s.now → t.ktr.lastStrike = none ∧ t.ktr.strikeAge = none) ∧
    (s.rlc.moveTimer = some s.now → s.rlc.state = .engaging ∨ s.rlc.state = .disengaging → t.rlc.state = .halted) ∧
    (∀ o, s.rlc.waitTimer = some s.now → s.rlc.moveTimer = none → s.rlc.waitOrigin = some o →
      t.rlc.state = originState o) ∧
    (s.lnk.rxTimer = some s.now → t.lnk.rx = .hunt ∧ t.lnk.badFrames = min 65535 (s.lnk.badFrames + 1))) ∧
  (∀ (x : Channel × Raw) (xs : List (Channel × Raw)) (later : List (List (Channel × Raw))) (s : State), s.Runs →
    s.early = (x :: xs) :: later →
    exec .sweep s = .next (linkChoose (playbackSweep (takeSamples (x :: xs)
      (linkChoose (practiceSweep (recorderSweep (beginSweep { s with early := later })))))))) ∧
  ∀ (c : Channel) (r : Raw) (rest : List (Channel × Raw)) (s t : State), s.Runs →
    exec (.conversion c r) s = .next t → takeSamples ((c, r) :: rest) s = takeSamples rest t ∧ takeSamples [] s = s

/-- R135, R141: a sweep in which A reaches 500,000 with source SCORE is a pulse: A loses 500,000, and the beat pulse
count and the bar position are tested and advanced; PULSE names such a sweep and SWEEP takes it the same. With the
countdown above 1 no entry is performed. R107: with METRO_MODE 2 a pulse at beat pulse count 0 is a BEAT, which sets the
mixer's click to sound A at bar position 0 and to sound B elsewhere, at index 0, whatever plays; other pulses start no
click. That PULSE is the whole sweep start where a pulse is due, and nothing where none is, is the model's choice (DESIGN
CHOICE, log 1). -/
def Obligations.PulseMovesTheClock : Prop :=
  (∀ s : State, s.Runs → s.early = [] → s.pbe.state = .running → s.pbe.source = .score →
    500000 ≤ s.pbe.acc + s.pbe.tempo * s.par.tempoScale → ∃ t,
    exec .pulse s = .next (linkChoose t) ∧ exec .sweep s = .next (linkChoose t) ∧
    t.pbe.acc = s.pbe.acc + s.pbe.tempo * s.par.tempoScale - 500000 ∧
    t.pbe.beatPulse = (if 96 ≤ s.pbe.beatPulse + 1 then 0 else s.pbe.beatPulse + 1) ∧
    t.pbe.barPosition =
      (if s.pbe.beatPulse = 0 then
        (if s.par.beatsPerBar ≤ s.pbe.barPosition + 1 then 0 else s.pbe.barPosition + 1)
      else s.pbe.barPosition) ∧
    (1 < s.pbe.countdown →
      t.pbe.countdown = s.pbe.countdown - 1 ∧ t.pbe.cursor = s.pbe.cursor ∧ t.pbe.state = .running ∧
      t.hpm =
        if s.par.metroMode = 2 ∧ s.pbe.beatPulse = 0 then
          { s.hpm with click := some ⟨if s.pbe.barPosition = 0 then .a else .b, 0⟩ }
        else s.hpm)) ∧
  (∀ s : State, s.Runs → s.early = [] → s.pbe.state = .running → s.pbe.source = .score →
    s.pbe.acc + s.pbe.tempo * s.par.tempoScale < 500000 → ∃ t,
    exec .sweep s = .next (linkChoose t) ∧ exec .pulse s = .next (linkChoose s) ∧
    t.pbe = { s.pbe with acc := s.pbe.acc + s.pbe.tempo * s.par.tempoScale }) ∧
  ∀ s : State, s.Runs → s.early = [] → s.pbe.state ≠ .running ∨ s.pbe.source = .take → exec .pulse s = .next (linkChoose s)

/-- R137 to R140, R148: RUN, a sweep whose unit leaves the countdown at 0, performs the entry at the cursor: an END
stops playback, a TEMPO sets the tempo, a NOTE_ON is voiced, an unknown kind faults, and the cursor moves on to an entry
whose delta is not 0; in a take the last entry ends it. The group key set is empty between events (KeepsPlayback). Then,
entry by entry: what each kind of a score and of a take does (R107, R123, R124, R139, R140, R148), the step of the cursor
(R138), and the run of at most 64 places, in which a navigation entry and its carry take two, and which goes on while PBE
runs and the countdown is 0; R146, R165: at its end a group that was handed is closed if PBE still runs, and PBE waits for
the keys of the list. That RUN is the whole sweep start where a run comes about, and nothing elsewhere, is the model's
choice (DESIGN CHOICE, log 1), and so is the place of the cursor behind the last entry of the material (DEDUCED, log 14)
and the fields of a MARK's report (DEDUCED, log 19). -/
def Obligations.RunPerformsTheEntry : Prop :=
  (∀ (e : ScoreEntry) (s : State), s.Runs → s.early = [] → s.prm.groupKeys = [] → s.pbe.state = .running →
    s.pbe.source = .score → s.pbe.countdown ≤ 1 →
    500000 ≤ s.pbe.acc + s.pbe.tempo * s.par.tempoScale → e = scoreAt s s.pbe.cursor → ∃ t,
    exec .run s = .next (linkChoose t) ∧ exec .sweep s = .next (linkChoose t) ∧
    (e.kind = 0 → t.pbe.state = .stopped ∧ t.pbe.cursor = s.pbe.cursor ∧ t.pbe.countdown = 0) ∧
    (13 ≤ e.kind → t.pbe.state = .stopped ∧ t.pbe.cursor = s.pbe.cursor ∧ t.pbe.countdown = 0) ∧
    (e.kind = 5 → s.pbe.cursor + 1 < scoreSize s → (scoreAt s (s.pbe.cursor + 1)).delta ≠ 0 →
      t.pbe.tempo = max 20 (min 300 (e.a * 256 + e.b)) ∧ t.pbe.cursor = s.pbe.cursor + 1 ∧
      t.pbe.countdown = (scoreAt s (s.pbe.cursor + 1)).delta ∧ t.pbe.state = .running) ∧
    (∀ k : Key, e.kind = 1 → e.a = keyNumber k → s.par.practiceMode = 0 → s.vdp.inFlight ≠ none →
      s.vdp.queue.length < 24 → s.pbe.cursor + 1 < scoreSize s → (scoreAt s (s.pbe.cursor + 1)).delta ≠ 0 →
      t.sound k = { s.sound k with
        playbackHolder := true, sounding := true, lastLevel := max 1 (min 127 e.b), lastSource := .playback
        offPending := false } ∧
      t.vdp.queue = s.vdp.queue ++ [.noteOn k (max 1 (min 127 e.b)) .playback] ∧
      t.pbe.cursor = s.pbe.cursor + 1 ∧ t.pbe.state = .running) ∧
    (e.kind = 7 → s.pbe.cursor + 1 < scoreSize s → (scoreAt s (s.pbe.cursor + 1)).delta ≠ 0 →
      t.pbe.tempo = s.pbe.tempo ∧ t.pbe.cursor = s.pbe.cursor + 1 ∧
      t.pbe.countdown = (scoreAt s (s.pbe.cursor + 1)).delta ∧ t.pbe.state = .running) ∧
    (e.kind = 7 → s.pbe.cursor + 1 = scoreSize s → t.pbe.state = .stopped ∧ t.pbe.cursor = scoreSize s)) ∧
  (∀ (w : TakeWindow) (s : State), s.Runs → s.early = [] → s.prm.groupKeys = [] → s.pbe.state = .running →
    s.pbe.source = .take → s.pbe.countdown ≤ 1 →
    s.pbe.window = some w → (windowEntry s w.oldest s.pbe.cursor).kind = 4 → ∃ t,
    exec .run s = .next (linkChoose t) ∧ exec .sweep s = .next (linkChoose t) ∧
    (s.pbe.cursor + 1 < w.count → (windowEntry s w.oldest (s.pbe.cursor + 1)).delta ≠ 0 →
      t.pbe = { s.pbe with
        cursor := s.pbe.cursor + 1, countdown := (windowEntry s w.oldest (s.pbe.cursor + 1)).delta }) ∧
    (w.count ≤ s.pbe.cursor + 1 → t.pbe.state = .stopped ∧ t.pbe.cursor = s.pbe.cursor + 1)) ∧
  (∀ s : State, s.Runs → s.early = [] → s.pbe.state ≠ .running ∨ 1 < s.pbe.countdown →
    exec .run s = .next (linkChoose s)) ∧
  (∀ s : State, s.Runs → s.early = [] → s.pbe.state = .running → s.pbe.countdown ≤ 1 →
    s.pbe.source = .take ∨ 500000 ≤ s.pbe.acc + s.pbe.tempo * s.par.tempoScale → ∃ u : State,
    exec .run s = .next (linkChoose (practiceSweep (recorderSweep (performRun u)))) ∧
    exec .sweep s = .next (linkChoose (practiceSweep (recorderSweep (performRun u)))) ∧
    u.pbe = { s.pbe with countdown := 0, acc := u.pbe.acc, beatPulse := u.pbe.beatPulse, barPosition := u.pbe.barPosition } ∧
    u.par = s.par ∧ u.ptr = s.ptr ∧ u.vdp = s.vdp ∧ u.mem = s.mem ∧ u.prm = s.prm ∧ u.tkr = s.tkr ∧
    u.scn.sweep = s.scn.sweep + 1) ∧
  (∀ (e : ScoreEntry) (i : Nat) (s : State),
    (e.kind = 0 → performScore e i s = stopSteps .ended s) ∧
    (∀ k : Key, e.a = keyNumber k →
      (e.kind = 1 → s.par.practiceMode = 0 ∨ s.par.partMask.testBit e.part = false →
        performScore e i s = noteOn k (max 1 (min 127 e.b)) .playback
          (setSound k { s.sound k with playbackHolder := true } s)) ∧
      (e.kind = 1 → s.par.practiceMode = 1 ∨ s.par.practiceMode = 2 → s.par.partMask.testBit e.part = true →
        performScore e i s = expectedNote k i s) ∧
      (e.kind = 2 → (s.sound k).playbackHolder = true →
        performScore e i s = releaseEval k (setSound k { s.sound k with playbackHolder := false } s)) ∧
      (e.kind = 2 → (s.sound k).playbackHolder = false → performScore e i s = s)) ∧
    (e.kind = 1 ∨ e.kind = 2 → e.a = 0 ∨ 88 < e.a → performScore e i s = s) ∧
    (∀ p : Pedal, e.kind = 3 → e.a = pedalCode p → performScore e i s = playbackLevel p (min 127 e.b) s) ∧
    (e.kind = 3 → 2 < e.a → performScore e i s = s) ∧
    (e.kind = 4 → s.par.metroMode = 1 →
      performScore e i s = { s with hpm := { s.hpm with click := some ⟨if e.a = 1 then .a else .b, 0⟩ } }) ∧
    (e.kind = 4 → s.par.metroMode ≠ 1 → performScore e i s = s) ∧
    (e.kind = 5 → performScore e i s =
      { s with pbe := { s.pbe with tempo := max 20 (min 300 (e.a * 256 + e.b)) } }) ∧
    (e.kind = 6 → e.a ≠ 0 → performScore e i s =
      handReport (.play s.pbe.state none s.pbe.source i .mark (some e.a) s.now) s) ∧
    (e.kind = 6 ∧ e.a = 0 ∨ e.kind = 7 → performScore e i s = s) ∧
    (13 ≤ e.kind → performScore e i s = scoreFault .kind i s)) ∧
  (∀ (e : TakeEntry) (i : Nat) (s : State),
    (e.kind = 1 ∨ e.kind = 2 ∨ e.kind = 3 →
      performTake e i s = performScore ⟨e.delta, e.kind, 0, e.first, e.second⟩ i s) ∧
    (e.kind ≠ 1 → e.kind ≠ 2 → e.kind ≠ 3 → performTake e i s = s)) ∧
  (∀ (e : ScoreEntry) (n : Nat) (s t : State), e = scoreAt s s.pbe.cursor →
    (s.pbe.source = .score → performRun s = endGroup (scoreRun 64 s)) ∧ scoreRun 0 s = s ∧
    (e.kind < 8 ∨ 12 < e.kind →
      (t = performScore e s.pbe.cursor s → t.pbe.state ≠ .running → scoreRun (n + 1) s = t) ∧
      (∀ next, t = performScore e s.pbe.cursor s → t.pbe.state = .running → next = t.pbe.cursor + 1 →
        (scoreSize t ≤ next → scoreRun (n + 1) s =
          scoreFault .range next { t with pbe := { t.pbe with cursor := next } }) ∧
        (next < scoreSize t → (scoreAt t next).delta ≠ 0 → scoreRun (n + 1) s =
          { t with pbe := { t.pbe with cursor := next, countdown := (scoreAt t next).delta } }) ∧
        (next < scoreSize t → (scoreAt t next).delta = 0 → scoreRun (n + 1) s =
          scoreRun n { t with pbe := { t.pbe with cursor := next, countdown := 0 } }))) ∧
    (8 ≤ e.kind → e.kind ≤ 12 → t = performNavigation e s.pbe.cursor s → scoreRun 1 s = s ∧
      (t.pbe.state = .running → t.pbe.countdown = 0 → scoreRun (n + 2) s = scoreRun n t) ∧
      (t.pbe.state ≠ .running ∨ t.pbe.countdown ≠ 0 → scoreRun (n + 2) s = t))) ∧
  (∀ (w : TakeWindow) (n i : Nat) (s t : State), s.pbe.window = some w → i = s.pbe.cursor →
    t = performTake (windowEntry s w.oldest i) i s → t.pbe.window = some w → t.par = s.par →
    (s.pbe.source = .take → performRun s = endGroup (takeRun 64 s)) ∧ takeRun 0 s = s ∧
    (w.count ≤ i + 1 → takeRun (n + 1) s = stopSteps .takeEnd { t with pbe := { t.pbe with cursor := i + 1 } }) ∧
    (i + 1 < w.count → t.pbe.state = .running →
      ((windowEntry t w.oldest (i + 1)).delta ≠ 0 → takeRun (n + 1) s =
        { t with pbe := { t.pbe with cursor := i + 1, countdown := (windowEntry t w.oldest (i + 1)).delta } }) ∧
      ((windowEntry t w.oldest (i + 1)).delta = 0 → takeRun (n + 1) s =
        takeRun n { t with pbe := { t.pbe with cursor := i + 1, countdown := 0 } }))) ∧
  ∀ s : State,
    (s.prm.groupKeys = [] ∨ s.pbe.state ≠ .running ∨ s.par.practiceMode ≠ 2 ∨ s.prm.expected = [] →
      endGroup s = { s with prm := { s.prm with groupKeys := [] } }) ∧
    (s.prm.groupKeys ≠ [] → s.pbe.state = .running → s.par.practiceMode = 2 → s.prm.expected ≠ [] →
      endGroup s =
        handReport (.play .waiting none s.pbe.source s.pbe.cursor .waiting none s.now)
          { s with
            pbe := { s.pbe with state := .waiting }
            prm := { s.prm with
              groupKeys := []
              waitTimer :=
                if s.par.waitTimeout = 0 then none else some (s.now + BitVec.ofNat 32 s.par.waitTimeout) } })

/-- R142 to R145: a navigation entry at index i: the checks of its carry at i + 1, whose faults carry index i; the carry
performed as its own kind; and, if playback still runs, what the entry does in the score region. A carry that stops
playback leaves the navigation without effect. -/
def Obligations.NavigationMovesTheCursor : Prop :=
  (∀ (e c : ScoreEntry) (i : Nat) (s : State), c = scoreAt s (i + 1) →
    (scoreSize s ≤ i + 1 → performNavigation e i s = scoreFault .range i s) ∧
    (i + 1 < scoreSize s →
      (c.kind = 0 ∨ 8 ≤ c.kind ∧ c.kind ≤ 12 → performNavigation e i s = scoreFault .carry i s) ∧
      (1 ≤ c.kind → c.kind ≤ 7 ∨ 13 ≤ c.kind →
        ((performScore c (i + 1) s).pbe.state = .running →
          performNavigation e i s = navigate e i (performScore c (i + 1) s)) ∧
        ((performScore c (i + 1) s).pbe.state ≠ .running → performNavigation e i s = performScore c (i + 1) s)))) ∧
  (∀ (cause : ScoreCause) (index : Nat) (s : State),
    scoreFault cause index s = stopSteps .fault
      (handReport (.scoreFault cause index s.pbe.stack.length s.now)
        { s with pbe := { s.pbe with
          stackError := if cause = .depth ∨ cause = .nesting then true else s.pbe.stackError } })) ∧
  ∀ (e : ScoreEntry) (i : Nat) (s : State), s.pbe.state = .running →
    (e.kind = 8 → 0 ≤ (i : Int) + 2 + e.signed → (i : Int) + 2 + e.signed < scoreSize s → ∃ target : Nat,
      (target : Int) = i + 2 + e.signed ∧
      navigate e i s = { s with pbe := { s.pbe with cursor := target, countdown := (scoreAt s target).delta } }) ∧
    (e.kind = 9 → e.a * 256 + e.b < scoreSize s → s.pbe.stack.length < 8 →
      navigate e i s = { s with pbe := { s.pbe with
        stack := .call (i + 2) :: s.pbe.stack, cursor := e.a * 256 + e.b
        countdown := (scoreAt s (e.a * 256 + e.b)).delta } }) ∧
    (∀ (back : Nat) (rest : List NavRecord), e.kind = 10 → s.pbe.stack = .call back :: rest → back < scoreSize s →
      navigate e i s = { s with pbe := { s.pbe with
        stack := rest, cursor := back, countdown := (scoreAt s back).delta } }) ∧
    (e.kind = 11 → i + 2 < scoreSize s → s.pbe.stack.length < 8 →
      navigate e i s = { s with pbe := { s.pbe with
        stack := .loop (i + 2) (max 1 e.a) :: s.pbe.stack, cursor := i + 2
        countdown := (scoreAt s (i + 2)).delta } }) ∧
    (∀ (start passes : Nat) (rest : List NavRecord), e.kind = 12 → s.pbe.stack = .loop start passes :: rest →
      (1 < passes → start < scoreSize s →
        navigate e i s = { s with pbe := { s.pbe with
          stack := .loop start (passes - 1) :: rest, cursor := start, countdown := (scoreAt s start).delta } }) ∧
      (passes = 1 → i + 2 < scoreSize s →
        navigate e i s = { s with pbe := { s.pbe with
          stack := rest, cursor := i + 2, countdown := (scoreAt s (i + 2)).delta } })) ∧
    ((e.kind = 9 ∧ e.a * 256 + e.b < scoreSize s ∨ e.kind = 11) → 8 ≤ s.pbe.stack.length →
      navigate e i s = scoreFault .depth i s) ∧
    ((e.kind = 10 ∧ ¬ (∃ back rest, s.pbe.stack = .call back :: rest) ∨
      e.kind = 12 ∧ ¬ (∃ start passes rest, s.pbe.stack = .loop start passes :: rest)) →
      navigate e i s = scoreFault .nesting i s) ∧
    ((e.kind = 8 ∧ ¬ (0 ≤ (i : Int) + 2 + e.signed ∧ (i : Int) + 2 + e.signed < scoreSize s) ∨
      e.kind = 9 ∧ scoreSize s ≤ e.a * 256 + e.b) →
      navigate e i s = scoreFault .range i s)

/-- R159, R161, R163, R167: PRM's part of a sweep, where PBE's own part performs no entry: STALE_STRIKE_AGED resolves
every recent strike older than EARLY as WRONG, DEADLINE_EXPIRY every note whose deadline has passed as MISS, and
WAIT_TIMER_EXPIRY every awaited note as MISS with its guide note, and releases the wait. That each of the three is the whole
sweep start where the thing comes about, equal to SWEEP, and nothing where it does not, is the model's choice (DESIGN
CHOICE, log 1). -/
def Obligations.PracticeSweepResolves : Prop :=
  (∀ s : State, s.Runs → s.early = [] → (s.pbe.state = .stopped ∨ s.pbe.state = .paused ∨ s.par.practiceMode = 0) →
    s.pbe.state ≠ .running →
    exec .staleStrikeAged s = .next (linkChoose s) ∧ exec .deadlineExpiry s = .next (linkChoose s) ∧
    exec .waitTimerExpiry s = .next (linkChoose s)) ∧
  ∀ s : State, s.Runs → s.early = [] → s.par.practiceMode = 1 ∨ s.par.practiceMode = 2 →
    (s.pbe.state = .waiting ∨ s.pbe.state = .running ∧ s.pbe.source = .score ∧
      s.pbe.acc + s.pbe.tempo * s.par.tempoScale < 500000) →
    ((∃ e ∈ s.prm.recent, s.par.early < elapsed (s.now + 1) e.sweep) → ∃ t,
      exec .staleStrikeAged s = .next (linkChoose t) ∧ exec .sweep s = .next (linkChoose t) ∧
      t.prm.recent = s.prm.recent.filter (fun e => elapsed (s.now + 1) e.sweep ≤ s.par.early) ∧
      t.prm.wrongs = min 65535
        (s.prm.wrongs + s.prm.recent.countP fun e => decide (s.par.early < elapsed (s.now + 1) e.sweep)) ∧
      t.prm.hits = s.prm.hits) ∧
    ((∃ e ∈ s.prm.expected, e.deadline = some s.now) → s.prm.waitTimer ≠ some (s.now + 1) → ∃ t,
      exec .deadlineExpiry s = .next (linkChoose t) ∧ exec .sweep s = .next (linkChoose t) ∧
      t.prm.expected = s.prm.expected.filter (fun e => e.deadline ≠ some s.now) ∧
      t.prm.misses = min 65535
        (s.prm.misses + s.prm.expected.countP fun e => decide (e.deadline = some s.now)) ∧
      t.prm.hits = s.prm.hits) ∧
    (s.pbe.state = .waiting → s.prm.expected ≠ [] → s.prm.waitTimer = some (s.now + 1) → ∃ t,
      exec .waitTimerExpiry s = .next (linkChoose t) ∧ exec .sweep s = .next (linkChoose t) ∧
      t.prm.expected = [] ∧ t.prm.waitTimer = none ∧ t.pbe.state = .running ∧
      t.prm.misses = min 65535 (s.prm.misses + s.prm.expected.length) ∧
      ∀ e ∈ s.prm.expected, e.deadline = none → (t.sound e.key).playbackHolder = true)

/-- R160 to R164, R166: a player strike at PRM, and an expected note, the recent list holding nothing stale (R159). A strike
of an expected key is HIT LATE, and where it empties the list of a wait it releases the wait; a strike of another key joins
the recent list, which evicts its oldest entry when it holds 8; while PRM is not listening a strike is ignored. An expected
note whose key was struck within EARLY is HIT EARLY, with the offset of the latest strike of its key, 0 for one of the same
sweep, and every recent entry of the key is removed. Another joins the expectation list, with a deadline in MUTE mode and
with none in WAIT mode; in MUTE mode an older entry of its key is MISS REPEATED first, and the oldest of 10 MISS EVICTED; in
WAIT mode a key already in the group is merged, and one beyond 10 is a chord overflow, voiced as a guide note. That the
notes of a WAIT group are handed to PRM one by one is the model's reading (DEDUCED, log 16), and so is the offset of a MISS
REPEATED or EVICTED (DEDUCED, log 15). -/
def Obligations.PracticeHitsAndExpectations : Prop :=
  (∀ (k : Key) (e : Expected) (s : State), listening s = true →
    s.pbe.state = .running ∨ s.prm.expected.filter (fun x => x.key != k) ≠ [] →
    (∀ r ∈ s.prm.recent, elapsed s.now r.sweep ≤ s.par.early) →
    s.prm.expected.find? (fun x => x.key == k) = some e →
    practiceStrike k s =
      handReport (.practice k .hit .late (min 8000 (elapsed s.now e.noteSweep)) (some e.index) s.par.practiceMode s.now)
        { s with prm := { s.prm with
          expected := s.prm.expected.filter (fun x => x.key != k), hits := min 65535 (s.prm.hits + 1) } }) ∧
  (∀ (k : Key) (index : Nat) (s : State), s.par.practiceMode = 1 →
    (∀ r ∈ s.prm.recent, elapsed s.now r.sweep ≤ s.par.early ∧ r.key ≠ k) → (∀ e ∈ s.prm.expected, e.key ≠ k) →
    s.prm.expected.length < 10 →
    expectedNote k index s = { s with prm := { s.prm with
      expected := s.prm.expected ++ [⟨k, s.now, index, some (s.now + BitVec.ofNat 32 s.par.late)⟩] } }) ∧
  (∀ (k : Key) (index : Nat) (s : State), s.par.practiceMode = 2 → k ∉ s.prm.groupKeys →
    (∀ r ∈ s.prm.recent, elapsed s.now r.sweep ≤ s.par.early ∧ r.key ≠ k) → s.prm.expected.length < 10 →
    expectedNote k index s = { s with prm := { s.prm with
      groupKeys := s.prm.groupKeys ++ [k], expected := s.prm.expected ++ [⟨k, s.now, index, none⟩] } }) ∧
  (∀ (k : Key) (e : Expected) (s : State), listening s = true → s.pbe.state = .waiting →
    (∀ r ∈ s.prm.recent, elapsed s.now r.sweep ≤ s.par.early) →
    s.prm.expected.find? (fun x => x.key == k) = some e → s.prm.expected.filter (fun x => x.key != k) = [] →
    practiceStrike k s =
      handReport (.play .running none s.pbe.source s.pbe.cursor .running none s.now)
        (handReport (.practice k .hit .late (min 8000 (elapsed s.now e.noteSweep)) (some e.index) s.par.practiceMode s.now)
          { s with
            pbe := { s.pbe with state := .running }
            prm := { s.prm with expected := [], waitTimer := none, hits := min 65535 (s.prm.hits + 1) } })) ∧
  (∀ (k : Key) (s : State),
    (listening s = false → practiceStrike k s = s) ∧
    (listening s = true → (∀ r ∈ s.prm.recent, elapsed s.now r.sweep ≤ s.par.early) → (∀ e ∈ s.prm.expected, e.key ≠ k) →
      (s.prm.recent.length < 8 →
        practiceStrike k s = { s with prm := { s.prm with recent := s.prm.recent ++ [⟨k, s.now⟩] } }) ∧
      ∀ (oldest : Recent) (rest : List Recent), s.prm.recent = oldest :: rest → 7 ≤ rest.length →
        practiceStrike k s =
          handReport (.practice oldest.key .wrong .evicted (min 8000 (elapsed s.now oldest.sweep)) none
              s.par.practiceMode s.now)
            { s with prm := { s.prm with
              recent := rest ++ [⟨k, s.now⟩], wrongs := min 65535 (s.prm.wrongs + 1) } })) ∧
  (∀ (k : Key) (index : Nat) (older newer : List Recent) (latest : Recent) (group : List Key) (s : State),
    (∀ r ∈ s.prm.recent, elapsed s.now r.sweep ≤ s.par.early) → s.prm.recent = older ++ latest :: newer →
    latest.key = k → (∀ r ∈ newer, r.key ≠ k) →
    (s.par.practiceMode = 1 ∧ group = s.prm.groupKeys ∨
      s.par.practiceMode = 2 ∧ k ∉ s.prm.groupKeys ∧ group = s.prm.groupKeys ++ [k]) →
    expectedNote k index s =
      handReport (.practice k .hit .early (max (-8000) (-(elapsed s.now latest.sweep : Int))) (some index)
          s.par.practiceMode s.now)
        { s with prm := { s.prm with
          recent := s.prm.recent.filter (fun r => r.key != k), groupKeys := group
          hits := min 65535 (s.prm.hits + 1) } }) ∧
  (∀ (k : Key) (index : Nat) (s : State), s.par.practiceMode = 1 →
    (∀ r ∈ s.prm.recent, elapsed s.now r.sweep ≤ s.par.early ∧ r.key ≠ k) →
    (∀ e, s.prm.expected.find? (fun x => x.key == k) = some e →
      (s.prm.expected.filter fun x => x.key != k).length < 10 →
      expectedNote k index s =
        handReport (.practice k .miss .repeated (min 8000 (elapsed s.now e.noteSweep)) (some e.index) 1 s.now)
          { s with prm := { s.prm with
            expected := (s.prm.expected.filter fun x => x.key != k) ++
              [⟨k, s.now, index, some (s.now + BitVec.ofNat 32 s.par.late)⟩]
            misses := min 65535 (s.prm.misses + 1) } }) ∧
    ∀ (oldest : Expected) (rest : List Expected), s.prm.expected = oldest :: rest → 9 ≤ rest.length →
      (∀ e ∈ s.prm.expected, e.key ≠ k) →
      expectedNote k index s =
        handReport (.practice oldest.key .miss .evicted (min 8000 (elapsed s.now oldest.noteSweep)) (some oldest.index) 1
            s.now)
          { s with prm := { s.prm with
            expected := rest ++ [⟨k, s.now, index, some (s.now + BitVec.ofNat 32 s.par.late)⟩]
            misses := min 65535 (s.prm.misses + 1) } }) ∧
  ∀ (k : Key) (index : Nat) (s : State), s.par.practiceMode = 2 →
    (k ∈ s.prm.groupKeys → expectedNote k index s = s) ∧
    (k ∉ s.prm.groupKeys → (∀ r ∈ s.prm.recent, elapsed s.now r.sweep ≤ s.par.early ∧ r.key ≠ k) →
      10 ≤ s.prm.expected.length →
      expectedNote k index s =
        noteOn k s.par.guideLevel .guide (setSound k { s.sound k with playbackHolder := true }
          { s with prm := { s.prm with groupKeys := s.prm.groupKeys ++ [k] } }))

/-! ### Conversions -/

/-- R10: the normalized position of a raw sample under the channel's record in effect: the exact quotient truncated
toward zero, then clamped to 0..4095. -/
def Obligations.NormalizationIsClamped : Prop :=
  (∀ (s : State) (k : Key), channelCal s (.key k) =
    ⟨(s.keyRec k).cal.restRaw, (s.keyRec k).cal.fullRaw, (s.keyRec k).cal.floor, (s.keyRec k).cal.ceil⟩) ∧
  (∀ (s : State) (p : Pedal), channelCal s (.pedal p) = (s.pedalRec p).cal) ∧
  (∀ s : State, channelCal s .rail = s.rlc.cal) ∧
  ∀ (c : PcalRecord) (r : Raw), c.restRaw ≠ c.fullRaw →
    (normalize c r : Int) =
      max 0 (min 4095 (Int.tdiv (((r.toNat : Int) - c.restRaw) * 4096) ((c.fullRaw : Int) - c.restRaw))) ∧
    normalize c r ≤ 4095

/-- R36 to R39: the crossing stamp, the interval, the speed and the level of a strike, read from the curve that
CURVE_SELECT selects. -/
def Obligations.StrikeLevelArithmetic : Prop :=
  (∀ (now : Sweep) (p c threshold : Nat),
    (p < threshold → threshold ≤ c → crossingStamp now p c threshold =
      BitVec.ofNat 32 ((now - 1).toNat % 2 ^ 28 * 16 + (threshold - p) * 16 / (c - p))) ∧
    (threshold ≤ p → crossingStamp now p c threshold = BitVec.ofNat 32 ((now - 1).toNat % 2 ^ 28 * 16))) ∧
  (∀ gate g2 : Stamp, strikeInterval gate g2 = max 1 (min 65535 (g2 - gate).toNat)) ∧
  (∀ (c : CalRecord) (interval : Nat),
    strikeSpeed c .g1 interval = min 4095 (c.scale * 1024 * (c.g2 - c.g1) / (interval * (c.g2 - c.g1))) ∧
    strikeSpeed c .rpt interval = min 4095 (c.scale * 1024 * (c.g2 - c.rpt) / (interval * (c.g2 - c.g1)))) ∧
  (∀ (s : State) (h : s.par.curveSelect < 4), selectedCurve s = s.ktr.curves[s.par.curveSelect]) ∧
  ∀ (curve : Vector Nat 33) (v : Nat) (h : v ≤ 4095),
    (strikeLevel curve v : Int) =
      max 1 (min 127 ((curve[v / 128] : Int) +
        (((curve[v / 128 + 1] : Int) - curve[v / 128]) * (v % 128 : Nat) + 64) / 128))

/-- R22 to R33, R36, R41 to R43, R45: CONVERSION of a key channel that is OK in RUNNING, the sample inside the window and no
watch running: the placing of a key in INIT, the samples that leave a key in its state, the lift, the opening of a gate at
G1 or RPT with its crossing stamp and its expiry, the cancellation of a gate, the strike, the returns from START_HELD, CREEP
and STRUCK, and the release; and the chains in which one sample takes the key through several states, from REST to GATED,
from REST, LIFTED or REARM to STRUCK, and from any lifted state to REST. -/
def Obligations.KeySamplesMoveTheKey : Prop :=
  ∀ (k : Key) (r : Raw) (p : Nat) (u s : State), s.Runs → s.scn.state = .running → s.scn.watch = none →
    (s.channel (.key k)).health = .ok → (s.keyRec k).cal.floor ≤ r.toNat → r.toNat ≤ (s.keyRec k).cal.ceil →
    p = normalize (channelCal s (.key k)) r →
    u = setChannel (.key k) { s.channel (.key k) with lastRaw := r, persistence := 0 } s →
    ((s.keyRec k).state = .init →
      exec (.conversion (.key k) r) s =
        .next (linkChoose (setKeyRec k
          { s.keyRec k with
            state := if p < (s.keyRec k).cal.dmp then .rest else .startHeld, current := p, previous := p } u))) ∧
    ((s.keyRec k).state = .rest → (s.keyRec k).pendingCal = none → p < (s.keyRec k).cal.dmp →
      exec (.conversion (.key k) r) s =
        .next (linkChoose (setKeyRec k
          { s.keyRec k with
            current := p, previous := (s.keyRec k).current
            lastStrike := (s.keyRec k).lastStrike.filter fun l => elapsed s.now l < 65535 } u))) ∧
    ((s.keyRec k).state = .rest → 1 ≤ (s.keyRec k).cal.dmp → (s.keyRec k).cal.dmp ≤ p → p < (s.keyRec k).cal.g1 →
      exec (.conversion (.key k) r) s =
        .next (linkChoose (setSound k { s.sound k with playerHolder := true }
          (setKeyRec k
            { s.keyRec k with
              state := .lifted, current := p, previous := (s.keyRec k).current
              lastStrike := (s.keyRec k).lastStrike.filter fun l => elapsed s.now l < 65535 } u)))) ∧
    (∀ (g : Gate) (speed level gated : Nat),
      ((s.keyRec k).state = .gated ∧ (s.keyRec k).gate = some g ∧ 1 ≤ (s.keyRec k).cal.g2 ∧
          (s.keyRec k).cal.rpt ≤ (s.keyRec k).cal.g2 ∧ gated = s.ktr.gatedCount - 1 ∨
        1 ≤ (s.keyRec k).cal.dmp ∧ (s.keyRec k).cal.dmp < (s.keyRec k).cal.g1 ∧
          (s.keyRec k).cal.g1 < (s.keyRec k).cal.rpt ∧ (s.keyRec k).cal.rpt < (s.keyRec k).cal.g2 ∧
          gated = s.ktr.gatedCount ∧
          (((s.keyRec k).state = .rest ∨ (s.keyRec k).state = .lifted) ∧ g.start = .g1 ∧
              g.stamp = crossingStamp s.now (s.keyRec k).current p (s.keyRec k).cal.g1 ∨
            (s.keyRec k).state = .rearm ∧ g.start = .rpt ∧
              g.stamp = crossingStamp s.now (s.keyRec k).current p (s.keyRec k).cal.rpt)) →
      (s.keyRec k).cal.g2 ≤ p →
      speed = strikeSpeed (s.keyRec k).cal g.start
        (strikeInterval g.stamp (crossingStamp s.now (s.keyRec k).current p (s.keyRec k).cal.g2)) →
      level = strikeLevel (selectedCurve s) speed → ∃ t,
      exec (.conversion (.key k) r) s = .next (linkChoose t) ∧
      t.keyRec k = { s.keyRec k with
        state := .struck, gate := none, lastStrike := some s.now, current := p, previous := (s.keyRec k).current } ∧
      ((s.keyRec k).state = .rest → (t.sound k).playerHolder = true) ∧
      t.ktr.lastStrike = some s.now ∧ t.ktr.strikeAge = some (s.now + 65535) ∧
      t.ktr.gatedCount = gated ∧ (∀ j, j ≠ k → t.keyRec j = s.keyRec j) ∧
      (s.par.reportEnable.testBit 0 = true → s.lnk.classN.length < 64 →
        t.lnk.classN = s.lnk.classN ++
          [.strike k level speed (g.start == .rpt) (s.rlc.state == .engaging || s.rlc.state == .disengaging) false
            (match (s.keyRec k).lastStrike with | some l => min 65535 (elapsed s.now l) | none => 65535) s.now]) ∧
      t.scn = u.scn ∧ t.par = s.par ∧ t.ptr = s.ptr ∧ t.rlc = s.rlc ∧ t.hpm = s.hpm) ∧
    ((s.keyRec k).state = .lifted ∧ 1 ≤ (s.keyRec k).cal.dmp ∧ p < (s.keyRec k).cal.g1 ∨
        (s.keyRec k).state ∈ [.gated, .creep, .struck, .rearm] ∧ 1 ≤ (s.keyRec k).cal.dmp ∧
          (s.keyRec k).cal.dmp < (s.keyRec k).cal.g1 ∧ (s.keyRec k).cal.g1 < (s.keyRec k).cal.rpt ∧
          (s.keyRec k).cal.rpt < (s.keyRec k).cal.g2 →
      p < max 1 ((s.keyRec k).cal.dmp - s.par.hysteresis) → ∃ t,
      exec (.conversion (.key k) r) s = .next (linkChoose t) ∧
      t.keyRec k = { s.keyRec k with
        state := .rest, current := p, previous := (s.keyRec k).current
        gate := if (s.keyRec k).state = .gated then none else (s.keyRec k).gate
        lastStrike := (s.keyRec k).lastStrike.filter fun l => elapsed s.now l < 65535
        cal := (s.keyRec k).pendingCal.getD (s.keyRec k).cal, pendingCal := none } ∧
      (t.sound k).playerHolder = false ∧ (∀ j, j ≠ k → t.keyRec j = s.keyRec j) ∧
      t.ktr.gatedCount = s.ktr.gatedCount - (if (s.keyRec k).state = .gated then 1 else 0) ∧
      (s.par.reportEnable.testBit 0 = true → s.lnk.classN.length < 64 →
        t.lnk.classN = s.lnk.classN ++ [.release k false false s.now]) ∧
      t.scn = u.scn ∧ t.par = s.par ∧ t.ptr = s.ptr ∧ t.rlc = s.rlc ∧ t.hpm = s.hpm ∧ t.prm = s.prm ∧ t.pbe = s.pbe) ∧
    ∀ (m : KeyRecord) (backDmp backG1 backRpt : Nat),
      m = { s.keyRec k with
        current := p, previous := (s.keyRec k).current
        lastStrike := (s.keyRec k).lastStrike.filter fun l => elapsed s.now l < 65535 } →
      backDmp = max 1 (m.cal.dmp - s.par.hysteresis) → backG1 = max 1 (m.cal.g1 - s.par.hysteresis) →
      backRpt = max 1 (m.cal.rpt - s.par.hysteresis) →
      1 ≤ m.cal.dmp → m.cal.dmp < m.cal.g1 → m.cal.g1 < m.cal.rpt → m.cal.rpt < m.cal.g2 →
      (∀ (start : GateStart) (threshold : Nat) (opened : KeyRecord), threshold ≤ p → p < m.cal.g2 →
        opened = { m with
          state := .gated
          gate := some ⟨crossingStamp s.now m.previous p threshold, start,
            s.now - 1 + BitVec.ofNat 32 s.par.gateLimit⟩ } →
        (m.state = .lifted ∧ start = .g1 ∧ threshold = m.cal.g1 ∨
            m.state = .rearm ∧ start = .rpt ∧ threshold = m.cal.rpt →
          exec (.conversion (.key k) r) s =
            .next (linkChoose (setKeyRec k opened
              { u with ktr := { s.ktr with gatedCount := s.ktr.gatedCount + 1 } }))) ∧
        (m.state = .rest → start = .g1 → threshold = m.cal.g1 →
          exec (.conversion (.key k) r) s =
            .next (linkChoose (setSound k { s.sound k with playerHolder := true } (setKeyRec k opened
              { u with ktr := { s.ktr with gatedCount := s.ktr.gatedCount + 1 } }))))) ∧
      (m.state = .gated → backDmp ≤ p → p < backG1 →
        exec (.conversion (.key k) r) s =
          .next (linkChoose (setKeyRec k { m with state := .lifted, gate := none }
            { u with ktr := { s.ktr with gatedCount := s.ktr.gatedCount - 1 } }))) ∧
      (m.state = .startHeld → p < backDmp →
        exec (.conversion (.key k) r) s =
          .next (linkChoose (setKeyRec k
            { m with state := .rest, cal := m.pendingCal.getD m.cal, pendingCal := none } u))) ∧
      (m.state = .creep → backDmp ≤ p → p < backG1 →
        exec (.conversion (.key k) r) s = .next (linkChoose (setKeyRec k { m with state := .lifted } u))) ∧
      (m.state = .struck → backDmp ≤ p → p < backRpt →
        exec (.conversion (.key k) r) s = .next (linkChoose (setKeyRec k { m with state := .rearm } u))) ∧
      (m.state = .startHeld ∧ backDmp ≤ p ∨ m.state = .lifted ∧ backDmp ≤ p ∧ p < m.cal.g1 ∨
          m.state = .gated ∧ backG1 ≤ p ∧ p < m.cal.g2 ∨ m.state = .creep ∧ backG1 ≤ p ∨
          m.state = .struck ∧ backRpt ≤ p ∨ m.state = .rearm ∧ backDmp ≤ p ∧ p < m.cal.rpt →
        exec (.conversion (.key k) r) s = .next (linkChoose (setKeyRec k m u)))

/-- R4, R48, R50, R55: CONVERSION in WARMUP replaces the last raw sample alone; a pedal sample joins its group, and the
one that completes it (PEDAL_GROUP_COMPLETE) adopts a level that moved by PEDAL_STEP or is a new end. That
PEDAL_GROUP_COMPLETE is the whole conversion where the group completes, and nothing where it does not, is the model's
choice (DESIGN CHOICE, log 1). -/
def Obligations.WarmupAndPedalSamples : Prop :=
  (∀ (c : Channel) (r : Raw) (s : State), s.Runs → s.scn.state = .warmup → s.scn.watch = none →
    exec (.conversion c r) s = .next (linkChoose (setChannel c { s.channel c with lastRaw := r } s))) ∧
  ∀ (p : Pedal) (r : Raw) (pos level : Nat) (u s : State), s.Runs → s.scn.state = .running → s.scn.watch = none →
    (s.channel (.pedal p)).health = .ok → (s.pedalRec p).cal.floor ≤ r.toNat → r.toNat ≤ (s.pedalRec p).cal.ceil →
    pos = normalize (s.pedalRec p).cal r → level = ((s.pedalRec p).sum + pos) / 2 ^ s.par.pedalAccum / 32 →
    u = setChannel (.pedal p) { s.channel (.pedal p) with lastRaw := r, persistence := 0 } s →
    ((s.pedalRec p).count + 1 < 2 ^ s.par.pedalAccum →
      exec (.conversion (.pedal p) r) s =
        .next (linkChoose (setPedalRec p
          { s.pedalRec p with sum := (s.pedalRec p).sum + pos, count := (s.pedalRec p).count + 1 } u)) ∧
      exec (.pedalGroupComplete p r) s = .next (linkChoose s)) ∧
    (2 ^ s.par.pedalAccum ≤ (s.pedalRec p).count + 1 → ∃ t,
      exec (.conversion (.pedal p) r) s = .next (linkChoose t) ∧
      exec (.pedalGroupComplete p r) s = .next (linkChoose t) ∧
      ((s.pedalRec p).player + s.par.pedalStep ≤ level ∨ level + s.par.pedalStep ≤ (s.pedalRec p).player ∨
          (level = 0 ∨ level = 127) ∧ level ≠ (s.pedalRec p).player →
        t.pedalRec p = { s.pedalRec p with
          sum := 0, count := 0, player := level, effective := max level (s.pedalRec p).playback } ∧
        (s.tkr.state = .idle → s.par.reportEnable.testBit 1 = true → s.lnk.classP.length < 32 →
          t.lnk.classP = s.lnk.classP ++ [.pedal p level false s.now]) ∧
        t.scn = u.scn ∧ t.par = s.par ∧ t.ktr = s.ktr ∧ t.rlc = s.rlc ∧ t.hpm = s.hpm ∧ t.prm = s.prm ∧
        t.pbe = s.pbe) ∧
      (¬ ((s.pedalRec p).player + s.par.pedalStep ≤ level ∨ level + s.par.pedalStep ≤ (s.pedalRec p).player ∨
          (level = 0 ∨ level = 127) ∧ level ≠ (s.pedalRec p).player) →
        t = setPedalRec p { s.pedalRec p with sum := 0, count := 0 } u))

/-- R85, R88, R94, R95, R96: CONVERSION of the RAIL channel, OK in RUNNING: the derivation, the end of a wait in quiet,
the completion of a move, a position stored in HALTED, in a move that continues and in a wait from HALTED that finds the
keys not quiet, the drift count's rise outside the band and its reset inside, in rest and in a wait that finds the keys not
quiet, and the sample that halts the rail for drift (RAIL_DRIFT_HALT). That RAIL_DRIFT_HALT is the whole conversion where
the halt comes about, and nothing elsewhere, is the model's choice (DESIGN CHOICE, log 1); that the drift count stands as it
is at a halt and where a wait moves off is its reading (DEDUCED, log 20). -/
def Obligations.RailSamplesMoveTheRail : Prop :=
  ∀ (r : Raw) (p : Nat) (u s : State), s.Runs → s.scn.state = .running → s.scn.watch = none →
    (s.channel .rail).health = .ok → s.rlc.cal.floor ≤ r.toNat → r.toNat ≤ s.rlc.cal.ceil →
    p = normalize s.rlc.cal r → u = setChannel .rail { s.channel .rail with lastRaw := r, persistence := 0 } s →
    (∀ st, s.rlc.state = .unsettled → s.par.railOutLimit < s.par.railInLimit →
      (s.par.railInLimit ≤ p ∧ st = .engaged ∨ p ≤ s.par.railOutLimit ∧ st = .disengaged ∨
        s.par.railOutLimit < p ∧ p < s.par.railInLimit ∧ st = .halted) →
      exec (.conversion .rail r) s =
        .next (linkChoose (handReport (.rail st .settled .none none p s.now)
          { u with rlc := { s.rlc with state := st, drive := .off, position := p, drift := 0 } }))) ∧
    (s.rlc.state = .halted →
      exec (.conversion .rail r) s = .next (linkChoose { u with rlc := { s.rlc with position := p } })) ∧
    (∀ (way : RailTarget) (moving : RailState) (drive : Drive), Quiet s →
      (s.rlc.state = .waitToEngage ∧ way = .inward ∧ moving = .engaging ∧ drive = .inward ∨
        s.rlc.state = .waitToDisengage ∧ way = .outward ∧ moving = .disengaging ∧ drive = .outward) →
      exec (.conversion .rail r) s =
        .next (linkChoose (handReport (.rail moving .moving .none (some way) p s.now)
          { u with rlc := { s.rlc with
            state := moving, drive := drive, position := p, waitOrigin := none, waitTimer := none
            moveTimer := some (s.now + BitVec.ofNat 32 s.par.railTimeout) } }))) ∧
    (∀ (way : RailTarget) (there : RailState),
      (s.rlc.state = .engaging ∧ s.par.railInLimit ≤ p ∧ way = .inward ∧ there = .engaged ∨
        s.rlc.state = .disengaging ∧ p ≤ s.par.railOutLimit ∧ way = .outward ∧ there = .disengaged) →
      exec (.conversion .rail r) s =
        .next (linkChoose (handReport (.rail there .done .none (some way) p s.now)
          { u with rlc := { s.rlc with
            state := there, drive := .off, position := p, moveTimer := none, drift := 0 } }))) ∧
    (∀ way : Option RailTarget, 64 ≤ s.rlc.drift + 1 →
      (s.rlc.state = .engaged ∧ way = none ∧ p + s.par.railDrift < s.par.railInLimit ∨
        s.rlc.state = .disengaged ∧ way = none ∧ s.par.railOutLimit + s.par.railDrift < p ∨
        s.rlc.state = .waitToDisengage ∧ s.rlc.waitOrigin = some .engaged ∧ ¬ Quiet s ∧ way = some .outward ∧
          p + s.par.railDrift < s.par.railInLimit ∨
        s.rlc.state = .waitToEngage ∧ s.rlc.waitOrigin = some .disengaged ∧ ¬ Quiet s ∧ way = some .inward ∧
          s.par.railOutLimit + s.par.railDrift < p) → ∃ t,
      exec (.conversion .rail r) s = .next (linkChoose t) ∧ exec (.railDriftHalt r) s = .next (linkChoose t) ∧
      t = handReport (.railDrift s.rlc.state p s.now)
        (handReport (.rail .halted .halted .drift way p s.now)
          { u with rlc := { s.rlc with
            state := .halted, drive := .off, position := p, drift := s.rlc.drift + 1, waitOrigin := none
            waitTimer := none, moveTimer := none } })) ∧
    (s.rlc.drift + 1 < 64 → exec (.railDriftHalt r) s = .next (linkChoose s)) ∧
    (∀ outside : Bool,
      ((s.rlc.state = .engaged ∨ s.rlc.state = .waitToDisengage ∧ s.rlc.waitOrigin = some .engaged ∧ ¬ Quiet s) ∧
          outside = decide (p + s.par.railDrift < s.par.railInLimit) ∨
        (s.rlc.state = .disengaged ∨ s.rlc.state = .waitToEngage ∧ s.rlc.waitOrigin = some .disengaged ∧ ¬ Quiet s) ∧
          outside = decide (s.par.railOutLimit + s.par.railDrift < p)) →
      (outside = true → s.rlc.drift + 1 < 64 →
        exec (.conversion .rail r) s =
          .next (linkChoose { u with rlc := { s.rlc with position := p, drift := s.rlc.drift + 1 } })) ∧
      (outside = false →
        exec (.conversion .rail r) s =
          .next (linkChoose { u with rlc := { s.rlc with position := p, drift := 0 } }) ∧
        exec (.railDriftHalt r) s = .next (linkChoose s))) ∧
    ((s.rlc.state = .waitToEngage ∨ s.rlc.state = .waitToDisengage) ∧ s.rlc.waitOrigin = some .halted ∧ ¬ Quiet s ∨
        s.rlc.state = .engaging ∧ p < s.par.railInLimit ∨ s.rlc.state = .disengaging ∧ s.par.railOutLimit < p →
      exec (.conversion .rail r) s = .next (linkChoose { u with rlc := { s.rlc with position := p } }))

/-- R7, R8, R12, R13, R34, R35, R52, R53, R97: CHANNEL_FAULT, a sample outside the window that brings the persistence to
FAULT_PERSIST, and CHANNEL_RECOVERY, a sample inside it that brings the recovery count to RECOVER_PERSIST: the channel
record, the SENSOR FAULT or SENSOR RECOVERED report, and the owner's answer with its own report: the release of a lifted
key, marked FAULT, the PEDAL report at level 0, marked FAULT, and the RAIL report of a wait cancelled or a move halted. An
outside sample below FAULT_PERSIST counts and is delivered, an inside one clears the count and is delivered; a sample of a
FAULTED channel that does not recover it counts, or clears the count, and is not delivered. That CHANNEL_FAULT and
CHANNEL_RECOVERY are the whole conversion where they come about, and nothing elsewhere, is the model's choice (DESIGN
CHOICE, log 1), and so is the side LOW of a sample both below FLOOR and above CEIL (DESIGN CHOICE, log 25). -/
def Obligations.FaultsAndRecoveriesReachTheOwner : Prop :=
  ∀ (c : Channel) (r : Raw) (pos : Nat) (s : State), s.Runs → s.scn.state = .running → s.scn.watch = none →
    pos = normalize (channelCal s c) r →
    ((s.channel c).health = .ok → r.toNat < (channelCal s c).floor ∨ (channelCal s c).ceil < r.toNat →
      s.par.faultPersist ≤ (s.channel c).persistence + 1 → ∃ t,
      exec (.channelFault c r) s = .next (linkChoose t) ∧ exec (.conversion c r) s = .next (linkChoose t) ∧
      t.channel c = ⟨r, .faulted, 0, 0⟩ ∧ (∀ d, d ≠ c → t.channel d = s.channel d) ∧
      (∀ side : Side, (r.toNat < (channelCal s c).floor ∧ side = .low ∨
          (channelCal s c).floor ≤ r.toNat ∧ side = .high) →
        s.par.reportEnable.testBit 2 = true → s.lnk.classE.length < 16 →
        t.lnk.classE = s.lnk.classE ++ [.sensorFault c side r s.now]) ∧
      (∀ k, c = .key k → (t.keyRec k).state = .faulted ∧ (t.keyRec k).gate = none ∧
        (t.keyRec k).lastStrike = none ∧ (t.keyRec k).pendingCal = none ∧
        (t.keyRec k).cal = (s.keyRec k).pendingCal.getD (s.keyRec k).cal ∧
        t.ktr.gatedCount = s.ktr.gatedCount - (if (s.keyRec k).state = .gated then 1 else 0) ∧
        ((s.keyRec k).state ∈ [.lifted, .gated, .creep, .struck, .rearm] → (t.sound k).playerHolder = false ∧
          (s.par.reportEnable.testBit 0 = true → s.lnk.classN.length < 64 →
            t.lnk.classN = s.lnk.classN ++ [.release k true false s.now])) ∧
        ((s.keyRec k).state ∈ [.init, .startHeld, .rest, .faulted] →
          t.vdp = s.vdp ∧ t.tkr = s.tkr ∧ t.lnk.classN = s.lnk.classN)) ∧
      (∀ p, c = .pedal p → t.pedalRec p = { s.pedalRec p with
        sum := 0, count := 0, player := 0
        effective :=
          if (s.pedalRec p).player = 0 then (s.pedalRec p).effective else (s.pedalRec p).playback } ∧
        ((s.pedalRec p).player = 0 → t.lnk.classP = s.lnk.classP ∧ t.tkr = s.tkr ∧ t.vdp = s.vdp) ∧
        ((s.pedalRec p).player ≠ 0 → s.tkr.state = .idle → s.par.reportEnable.testBit 1 = true →
          s.lnk.classP.length < 32 → t.lnk.classP = s.lnk.classP ++ [.pedal p 0 true s.now])) ∧
      (c = .rail →
        (s.rlc.state ∈ [.unsettled, .engaged, .disengaged, .halted] →
          t.rlc = { s.rlc with faulted := true, drift := 0 } ∧ t.lnk.classP = s.lnk.classP) ∧
        (∀ way : RailTarget,
          (s.rlc.state = .waitToEngage ∧ way = .inward ∨ s.rlc.state = .waitToDisengage ∧ way = .outward →
            ∀ (o : WaitOrigin) (back : RailState), s.rlc.waitOrigin = some o →
              (o = .engaged ∧ back = .engaged ∨ o = .disengaged ∧ back = .disengaged ∨ o = .halted ∧ back = .halted) →
              t.rlc = { s.rlc with
                state := back, drive := .off, faulted := true, drift := 0, waitOrigin := none, waitTimer := none } ∧
              (s.par.reportEnable.testBit 1 = true → s.lnk.classP.length < 32 →
                t.lnk.classP = s.lnk.classP ++ [.rail back .cancelled .fault (some way) s.rlc.position s.now])) ∧
          (s.rlc.state = .engaging ∧ way = .inward ∨ s.rlc.state = .disengaging ∧ way = .outward →
            t.rlc = { s.rlc with
              state := .halted, drive := .off, faulted := true, drift := 0, waitOrigin := none, waitTimer := none
              moveTimer := none } ∧
            (s.par.reportEnable.testBit 1 = true → s.lnk.classP.length < 32 →
              t.lnk.classP = s.lnk.classP ++ [.rail .halted .halted .fault (some way) s.rlc.position s.now]))))) ∧
    ((s.channel c).health = .faulted → (channelCal s c).floor ≤ r.toNat → r.toNat ≤ (channelCal s c).ceil →
      s.par.recoverPersist ≤ (s.channel c).recovery + 1 → ∃ t,
      exec (.channelRecovery c r) s = .next (linkChoose t) ∧ exec (.conversion c r) s = .next (linkChoose t) ∧
      t.channel c = ⟨r, .ok, 0, 0⟩ ∧ (∀ d, d ≠ c → t.channel d = s.channel d) ∧
      (s.par.reportEnable.testBit 2 = true → s.lnk.classE.length < 16 → c ≠ .rail →
        t.lnk.classE = s.lnk.classE ++ [.sensorRecovered c r s.now]) ∧
      (∀ k, c = .key k → (s.keyRec k).state = .faulted → t.keyRec k = { s.keyRec k with
        state := if pos < (s.keyRec k).cal.dmp then .rest else .startHeld
        current := pos, previous := pos }) ∧
      (∀ p, c = .pedal p →
        (1 < 2 ^ s.par.pedalAccum → t.pedalRec p = { s.pedalRec p with sum := pos, count := 1 }) ∧
        (s.par.pedalAccum = 0 →
          ((s.pedalRec p).player + s.par.pedalStep ≤ pos / 32 ∨ pos / 32 + s.par.pedalStep ≤ (s.pedalRec p).player ∨
              (pos / 32 = 0 ∨ pos / 32 = 127) ∧ pos / 32 ≠ (s.pedalRec p).player →
            t.pedalRec p = { s.pedalRec p with
              sum := 0, count := 0, player := pos / 32, effective := max (pos / 32) (s.pedalRec p).playback }) ∧
          (¬ ((s.pedalRec p).player + s.par.pedalStep ≤ pos / 32 ∨ pos / 32 + s.par.pedalStep ≤ (s.pedalRec p).player ∨
              (pos / 32 = 0 ∨ pos / 32 = 127) ∧ pos / 32 ≠ (s.pedalRec p).player) →
            t.pedalRec p = { s.pedalRec p with sum := 0, count := 0 }))) ∧
      (c = .rail → t.rlc.faulted = false ∧ t.rlc.position = pos ∧
        (∀ st, s.rlc.state = .unsettled → s.par.railOutLimit < s.par.railInLimit →
          (s.par.railInLimit ≤ pos ∧ st = .engaged ∨ pos ≤ s.par.railOutLimit ∧ st = .disengaged ∨
            s.par.railOutLimit < pos ∧ pos < s.par.railInLimit ∧ st = .halted) →
          t.rlc = { s.rlc with state := st, drive := .off, position := pos, faulted := false, drift := 0 } ∧
          (s.par.reportEnable.testBit 1 = true → s.lnk.classP.length < 32 →
            t.lnk.classP = s.lnk.classP ++ [.rail st .settled .none none pos s.now])) ∧
        (s.rlc.drift + 1 < 64 →
          s.par.reportEnable.testBit 2 = true → s.lnk.classE.length < 16 →
          t.lnk.classE = s.lnk.classE ++ [.sensorRecovered .rail r s.now]) ∧
        (∀ outside : Bool, s.rlc.drift + 1 < 64 →
          (s.rlc.state = .engaged ∧ outside = decide (pos + s.par.railDrift < s.par.railInLimit) ∨
            s.rlc.state = .disengaged ∧ outside = decide (s.par.railOutLimit + s.par.railDrift < pos)) →
          t.rlc = { s.rlc with
            position := pos, faulted := false, drift := if outside then s.rlc.drift + 1 else 0 }) ∧
        (s.rlc.state = .halted → t.rlc = { s.rlc with position := pos, faulted := false }))) ∧
    ((s.channel c).health = .ok →
      (r.toNat < (channelCal s c).floor ∨ (channelCal s c).ceil < r.toNat →
        (s.channel c).persistence + 1 < s.par.faultPersist →
        exec (.conversion c r) s = .next (linkChoose (deliverSample c pos
          (setChannel c { s.channel c with lastRaw := r, persistence := (s.channel c).persistence + 1 } s)))) ∧
      ((channelCal s c).floor ≤ r.toNat → r.toNat ≤ (channelCal s c).ceil →
        exec (.conversion c r) s = .next (linkChoose (deliverSample c pos
          (setChannel c { s.channel c with lastRaw := r, persistence := 0 } s))))) ∧
    ((s.channel c).health = .faulted →
      (r.toNat < (channelCal s c).floor ∨ (channelCal s c).ceil < r.toNat →
        exec (.conversion c r) s =
          .next (linkChoose (setChannel c { s.channel c with lastRaw := r, recovery := 0 } s))) ∧
      ((channelCal s c).floor ≤ r.toNat → r.toNat ≤ (channelCal s c).ceil →
        (s.channel c).recovery + 1 < s.par.recoverPersist →
        exec (.conversion c r) s = .next (linkChoose
          (setChannel c { s.channel c with lastRaw := r, recovery := (s.channel c).recovery + 1 } s)))) ∧
    ((s.channel c).health = .faulted ∨ (s.channel c).persistence + 1 < s.par.faultPersist ∨
        (channelCal s c).floor ≤ r.toNat ∧ r.toNat ≤ (channelCal s c).ceil →
      exec (.channelFault c r) s = .next (linkChoose s)) ∧
    ((s.channel c).health = .ok ∨ (s.channel c).recovery + 1 < s.par.recoverPersist ∨
        r.toNat < (channelCal s c).floor ∨ (channelCal s c).ceil < r.toNat →
      exec (.channelRecovery c r) s = .next (linkChoose s))

/-! ### The mixer -/

/-- R103, R108 to R111, R114, R115: OUTPUT_SAMPLE_PERIOD for every frame and state: the jack count and state, one step
of the master gain, the click, the two output samples and LIMIT; nothing outside HPM and LNK changes. JACK_ADOPTION
and CLICK_END are the sample period in which the jack reading is adopted, with its JACK report, and the one that plays
the click's last sample; elsewhere they do nothing (DESIGN CHOICE, log 1). R101 to R103: HDOUT in the frame that follows:
the left slot with WCLK low and then the right slot with WCLK high, each of 32 bit periods, the sample in periods 1 to 24,
its most significant bit first, and low in the other eight; both lines low while the clocks stand still; and the tone
samples read from TDIN, whose other eight periods are ignored. -/
def Obligations.SamplePeriodComputes : Prop :=
  (∀ (f : AudioFrame) (s : State), s.Runs → ∃ t,
     exec (.outputSamplePeriod f) s = .next (linkChoose t) ∧ t = { s with hpm := t.hpm, lnk := t.lnk } ∧
     (let reading : Jack := if f.jackHigh then .plug else .none
     let adopted := reading ≠ s.hpm.jack ∧ 96 ≤ s.hpm.jackCount + 1
     let target := if t.hpm.jack = .plug then s.hpm.loud[s.par.volume]?.getD 0 else 0
     let click : Int :=
       match s.hpm.click with
       | none => 0
       | some ⟨.a, i⟩ => (s.hpm.clickA[i]?.getD 0).toInt * 256
       | some ⟨.b, i⟩ => (s.hpm.clickB[i]?.getD 0).toInt * 256
     let out (x : Tone) : Int :=
       ((x.toInt * s.par.gTone + click * s.par.gClick + 16384) / 32768 * t.hpm.gain + 16384) / 32768
     t.hpm.jack = (if adopted then reading else s.hpm.jack) ∧
     t.hpm.jackCount = (if reading = s.hpm.jack ∨ adopted then 0 else s.hpm.jackCount + 1) ∧
     t.hpm.gain =
       (if s.hpm.gain ≤ target then min target (s.hpm.gain + s.par.rampStep)
       else max target (s.hpm.gain - s.par.rampStep)) ∧
     t.hpm.outLeft = BitVec.ofInt 24 (max (-8388608) (min 8388607 (out f.left))) ∧
     t.hpm.outRight = BitVec.ofInt 24 (max (-8388608) (min 8388607 (out f.right))) ∧
     (t.hpm.limit = true ↔ s.hpm.limit = true ∨ out f.left < -8388608 ∨ 8388607 < out f.left ∨
       out f.right < -8388608 ∨ 8388607 < out f.right) ∧
     t.hpm.click =
       (match s.hpm.click with
       | none => none
       | some c => if c.index < 255 then some { c with index := c.index + 1 } else none) ∧
     t.hpm.clickA = s.hpm.clickA ∧ t.hpm.clickB = s.hpm.clickB ∧ t.hpm.loud = s.hpm.loud ∧
     t.hpm.clocks = s.hpm.clocks)) ∧
  (∀ (s : State) (i : Nat), i < 64 →
     (s.hpm.clocks = true → (audioOutput s)[i]? = some (decide (32 ≤ i),
       decide (1 ≤ i % 32 ∧ i % 32 ≤ 24) && (if i < 32 then s.hpm.outLeft else s.hpm.outRight).getMsbD (i % 32 - 1))) ∧
     (s.hpm.clocks = false → (audioOutput s)[i]? = some (false, false)) ∧ (audioOutput s).length = 64) ∧
  (∀ (left right : Tone) (a b jackHigh : Bool) (x y : List Bool), x.length = 7 → y.length = 7 →
    audioFrameOf ((a :: (List.range 24).map (fun i => left.getMsbD i) ++ x) ++
      (b :: (List.range 24).map (fun i => right.getMsbD i) ++ y)) jackHigh = ⟨left, right, jackHigh⟩) ∧
  ∀ (f : AudioFrame) (s : State), s.Runs →
    ((if f.jackHigh then Jack.plug else .none) ≠ s.hpm.jack → 96 ≤ s.hpm.jackCount + 1 → ∃ t,
      exec (.jackAdoption f) s = .next (linkChoose t) ∧ exec (.outputSamplePeriod f) s = .next (linkChoose t) ∧
      t.hpm.jack = (if f.jackHigh then .plug else .none) ∧ t.hpm.jackCount = 0 ∧
      (s.par.reportEnable.testBit 1 = true → s.lnk.classP.length < 32 →
        t.lnk.classP = s.lnk.classP ++ [.jack (if f.jackHigh then .plug else .none) s.par.volume
          (if f.jackHigh then s.hpm.loud[s.par.volume]?.getD 0 else 0) s.now])) ∧
    ((if f.jackHigh then Jack.plug else .none) = s.hpm.jack ∨ s.hpm.jackCount + 1 < 96 →
      exec (.jackAdoption f) s = .next (linkChoose s)) ∧
    (∀ c, s.hpm.click = some c → 255 ≤ c.index → ∃ t,
      exec (.clickEnd f) s = .next (linkChoose t) ∧ exec (.outputSamplePeriod f) s = .next (linkChoose t) ∧
      t.hpm.click = none) ∧
    ((∀ c, s.hpm.click = some c → c.index < 255) → exec (.clickEnd f) s = .next (linkChoose s))

/-! ### The Action Link -/

/-- R185 to R188: BYTE_RECEIVED in every state of the receiver: the timer is set from the sweep of the byte, and a
length above 240, a bad CRC, an unknown kind or a framing error inside a frame drops the frame and counts it. The frame
of a PING is 9E 01 00 F4. R187, R189, R196: the last byte of a good command frame has the effect of the command that
the frame spells, the receiver back in HUNT. R185: ten bit times on ALRX, a low start bit, the data bits of a byte with the
least significant first and a stop bit, are the reception of that byte, with a framing error if the stop bit is low; ALTX
carries the bytes of the frame being sent in the same form, back to back, and is high when none is sent. -/
def Obligations.FramesAreReceived : Prop :=
  (∀ (b : Byte) (stop : Bool),
    readSerial (false :: (List.range 8).map (fun i => b.getLsbD i) ++ [stop]) = some (b, !stop) ∧
    alrxCommand (false :: (List.range 8).map (fun i => b.getLsbD i) ++ [stop]) = some (.byteReceived b (!stop)) ∧
    serialBits b = false :: (List.range 8).map (fun i => b.getLsbD i) ++ [true]) ∧
  (∀ s : State, (s.lnk.tx = none → altxLevels s = [true]) ∧
    ∀ f, s.lnk.tx = some f → altxLevels s = (linkFrameBytes f).flatMap serialBits) ∧
  (linkFrameBytes ⟨0x01, []⟩ = [0x9E, 0x01, 0x00, 0xF4] ∧
   ∀ (b : Byte) (s : State), s.Runs →
     (∀ rx, (s.lnk.rx = .hunt ∧ b = 0x9E ∧ rx = .kind ∨ s.lnk.rx = .kind ∧ rx = .length b ∨
         (∃ k, s.lnk.rx = .length k ∧ b = 0 ∧ rx = .check k []) ∨
         (∃ k, s.lnk.rx = .length k ∧ b ≠ 0 ∧ b.toNat ≤ 240 ∧ rx = .body k b.toNat []) ∨
         (∃ k len got, s.lnk.rx = .body k len got ∧ got.length + 1 < len ∧ rx = .body k len (got ++ [b])) ∨
         (∃ k len got, s.lnk.rx = .body k len got ∧ len ≤ got.length + 1 ∧ rx = .check k (got ++ [b]))) →
       exec (.byteReceived b false) s =
         .next (linkChoose { s with lnk := { s.lnk with rx := rx, rxTimer := some (s.now + 17) } })) ∧
     (s.lnk.rx = .hunt → b ≠ 0x9E → exec (.byteReceived b false) s = .next (linkChoose s)) ∧
     (s.lnk.rx = .hunt → exec (.byteReceived b true) s = .next (linkChoose s)) ∧
     (((∃ k, s.lnk.rx = .length k ∧ 240 < b.toNat) ∨
         ∃ k payload, s.lnk.rx = .check k payload ∧ (b ≠ linkCrc k payload ∨ k ∉ commandKinds)) →
       exec (.byteReceived b false) s =
         .next (linkChoose { s with lnk := { s.lnk with
           rx := .hunt, rxTimer := none, badFrames := min 65535 (s.lnk.badFrames + 1) } })) ∧
     (s.lnk.rx ≠ .hunt → exec (.byteReceived b true) s =
       .next (linkChoose { s with lnk := { s.lnk with
         rx := .hunt, rxTimer := none, badFrames := min 65535 (s.lnk.badFrames + 1) } }))) ∧
  ∀ (kind : Byte) (payload : List Byte) (c : Instr) (u s : State), s.Runs → s.lnk.rx = .check kind payload →
    u = { s with lnk := { s.lnk with rx := .hunt, rxTimer := none } } →
    (kind = 0x01 ∧ payload = [] ∧ c = .ping ∨
      (∃ sel first hi lo, kind = 0x03 ∧ payload = [2, sel, first, hi, lo] ∧ c = .tableRead 2 sel first (hi ++ lo)) ∨
      (∃ first hi lo, kind = 0x03 ∧ payload = [3, first, hi, lo] ∧ c = .tableRead 3 0 first (hi ++ lo)) ∨
      (∃ i hi lo, kind = 0x02 ∧ payload = [3, i, hi, lo] ∧ c = .paramWrite [⟨i, hi ++ lo⟩]) ∨
      (∃ curve first points, kind = 0x02 ∧ payload = 2 :: curve :: first :: points ∧
        c = .curveWrite curve first points) ∨
      (∃ a, kind = 0x10 ∧ payload = [a] ∧ c = .rail a) ∨
      (∃ h0 l0 e, kind = 0x20 ∧ payload = h0 :: l0 :: entryBytes e ∧ c = .scoreWrite (h0 ++ l0) [e]) ∨
      (∃ h0 l0 h1 l1, kind = 0x21 ∧ payload = [h0, l0, h1, l1] ∧ c = .scoreRead (h0 ++ l0) (h1 ++ l1)) ∨
      (∃ a b, kind = 0x22 ∧ payload = [a, b] ∧ c = .play a b) ∨ kind = 0x23 ∧ payload = [] ∧ c = .stop ∨
      kind = 0x24 ∧ payload = [] ∧ c = .pause ∨ kind = 0x25 ∧ payload = [] ∧ c = .resume ∨
      (∃ a, kind = 0x26 ∧ payload = [a] ∧ c = .locate a) ∨ (∃ a, kind = 0x30 ∧ payload = [a] ∧ c = .arm a) ∨
      kind = 0x31 ∧ payload = [] ∧ c = .stopCapture ∨
      (∃ h0 l0 h1 l1, kind = 0x32 ∧ payload = [h0, l0, h1, l1] ∧ c = .captureRead (h0 ++ l0) (h1 ++ l1)) ∨
      kind = 0x33 ∧ payload = [] ∧ c = .captureClear ∨ kind = 0x40 ∧ c = .voicePass payload ∨
      kind = 0x41 ∧ payload = [] ∧ c = .dampAll ∨
      (∃ ch hi lo, kind = 0x50 ∧ payload = [ch, hi, lo] ∧ c = .watch ch (hi ++ lo)) ∨
      kind = 0x51 ∧ payload = [] ∧ c = .status ∨ kind = 0x52 ∧ payload = [] ∧ c = .clearFlags ∨
      kind = 0x5F ∧ payload = [0] ∧ c = .deviceReset ∨ kind = 0x5F ∧ payload = [1] ∧ c = .resetPractice ∨
      kind = 0x5F ∧ payload = [2] ∧ c = .resetVoices) →
    exec (.byteReceived (linkCrc kind payload) false) s = exec c u

/-- R199: LINK_FRAME_COMPLETION and the choice an idle Action Link transmitter makes: the oldest reply before any report;
else the classes E, P, N in turn by their fair flags, all cleared when every class that holds reports has its flag
set; a VOICE DROP report that leaves clears the report-waiting flag. -/
def Obligations.LinkTransmitterChooses : Prop :=
  (∀ s : State, s.Runs →
    exec .linkFrameCompletion s = .next (linkChoose { s with lnk := { s.lnk with tx := none } })) ∧
  (∀ s : State, s.lnk.tx ≠ none → linkChoose s = s) ∧
  (∀ (r : Reply) (rest : List Reply) (s : State), s.lnk.tx = none → s.lnk.replies = r :: rest →
    linkChoose s = { s with lnk := { s.lnk with
      replies := rest, tx := some ⟨r.command + 0x80, replyCodeByte r.code :: r.fields⟩ } }) ∧
  (∀ s : State, s.lnk.replies = [] → s.lnk.classN = [] → s.lnk.classP = [] → s.lnk.classE = [] →
    linkChoose s = s) ∧
  ∀ (r : Report) (rest : List Report) (s : State), s.lnk.tx = none → s.lnk.replies = [] →
    (s.lnk.classE = r :: rest → s.lnk.fairE = false →
      linkChoose s = { s with
        lnk := { s.lnk with classE := rest, fairE := true, tx := some (reportFrame r) }
        vdp := if reportKind r = 0xF5 then { s.vdp with dropWaiting := false } else s.vdp }) ∧
    (s.lnk.classE = [] ∨ s.lnk.fairE = true → s.lnk.classP = r :: rest → s.lnk.fairP = false → reportKind r ≠ 0xF5 →
      linkChoose s = { s with lnk := { s.lnk with classP := rest, fairP := true, tx := some (reportFrame r) } }) ∧
    (s.lnk.classE = [] ∨ s.lnk.fairE = true → s.lnk.classP = [] ∨ s.lnk.fairP = true → s.lnk.classN = r :: rest →
      s.lnk.fairN = false → reportKind r ≠ 0xF5 →
      linkChoose s = { s with lnk := { s.lnk with classN := rest, fairN := true, tx := some (reportFrame r) } }) ∧
    ((s.lnk.classE ≠ [] → s.lnk.fairE = true) → (s.lnk.classP ≠ [] → s.lnk.fairP = true) →
      (s.lnk.classN ≠ [] → s.lnk.fairN = true) →
      (s.lnk.classE = r :: rest →
        linkChoose s = { s with
          lnk := { s.lnk with
            classE := rest, fairE := true, fairP := false, fairN := false, tx := some (reportFrame r) }
          vdp := if reportKind r = 0xF5 then { s.vdp with dropWaiting := false } else s.vdp }) ∧
      (s.lnk.classE = [] → s.lnk.classP = r :: rest → reportKind r ≠ 0xF5 →
        linkChoose s = { s with lnk := { s.lnk with
          classP := rest, fairE := false, fairP := true, fairN := false, tx := some (reportFrame r) } }) ∧
      (s.lnk.classE = [] → s.lnk.classP = [] → s.lnk.classN = r :: rest → reportKind r ≠ 0xF5 →
        linkChoose s = { s with lnk := { s.lnk with
          classN := rest, fairE := false, fairP := false, fairN := true, tx := some (reportFrame r) } }))

/-- R197, R198: a report handed to LNK: of a disabled class it is neither queued nor counted; with room it joins the tail
of its class queue; handed to a full queue it is discarded and counted, and in class N the newest report is marked
OVERRUN. -/
def Obligations.ReportsJoinTheirQueues : Prop :=
  (∀ (r : Report) (s : State), (reportClass r = .n ∧ s.par.reportEnable.testBit 0 = false ∨
      reportClass r = .p ∧ s.par.reportEnable.testBit 1 = false ∨
      reportClass r = .e ∧ s.par.reportEnable.testBit 2 = false) → handReport r s = s) ∧
  (∀ (r : Report) (s : State), reportClass r = .n → s.par.reportEnable.testBit 0 = true →
    (s.lnk.classN.length < 64 →
      handReport r s = { s with lnk := { s.lnk with classN := s.lnk.classN ++ [r] } }) ∧
    ∀ (older : List Report) (newest : Report), s.lnk.classN = older ++ [newest] → 63 ≤ older.length →
      handReport r s = { s with lnk := { s.lnk with
        classN := older ++ [markOverrun newest], overN := min 65535 (s.lnk.overN + 1) } }) ∧
  (∀ (r : Report) (s : State), reportClass r = .p → s.par.reportEnable.testBit 1 = true →
    (s.lnk.classP.length < 32 →
      handReport r s = { s with lnk := { s.lnk with classP := s.lnk.classP ++ [r] } }) ∧
    (32 ≤ s.lnk.classP.length →
      handReport r s = { s with lnk := { s.lnk with overP := min 65535 (s.lnk.overP + 1) } })) ∧
  ∀ (r : Report) (s : State), reportClass r = .e → s.par.reportEnable.testBit 2 = true →
    (s.lnk.classE.length < 16 →
      handReport r s = { s with lnk := { s.lnk with classE := s.lnk.classE ++ [r] } }) ∧
    (16 ≤ s.lnk.classE.length →
      handReport r s = { s with lnk := { s.lnk with overE := min 65535 (s.lnk.overE + 1) } })

/-! ### Invariants -/

/-- The part right after reset has every invariant. -/
def Obligations.ResetHasEveryInvariant : Prop :=
  KeepsMemory State.reset ∧ KeepsPlayback State.reset ∧ KeepsThresholds State.reset ∧ KeepsQueues State.reset ∧
    KeepsLevels State.reset ∧ KeepsDrive State.reset ∧ KeepsGated State.reset ∧ KeepsOwed State.reset ∧
    KeepsVoiceLimits State.reset ∧ KeepsRing State.reset ∧ KeepsPlaces State.reset ∧ KeepsPractice State.reset

/-- Every step keeps PMEM in its canonical form; and R173: every step keeps the take ring's count and oldest index within
the ring, and its write index the one that follows from them. -/
def Obligations.StepKeepsMemory : Prop :=
  (∀ s t : State, KeepsMemory s → step s = .next t → KeepsMemory t) ∧
    ∀ s t : State, KeepsRing s → step s = .next t → KeepsRing t

/-- R133, R135, R144, R191: every step keeps the PARAM entries, A, the tempo and the navigation stack in their ranges,
and the stack-error flag set only in STOPPED. R133: with them it keeps the countdown, the beat pulse count and the bar
position in their ranges, a saved state present in PAUSED alone, and the cursor on an entry of its source while PBE is not
STOPPED. -/
def Obligations.StepKeepsPlayback : Prop :=
  (∀ s t : State, KeepsPlayback s → step s = .next t → KeepsPlayback t) ∧
    ∀ s t : State, KeepsPlayback s → KeepsPlaces s → step s = .next t → KeepsPlaces t

/-- R57: every step keeps HOLD_OFF below HOLD_ON. -/
def Obligations.StepKeepsThresholds : Prop := ∀ s t : State, KeepsThresholds s → step s = .next t → KeepsThresholds t

/-- R74, R189, R197: every step keeps every queue within its capacity. R74, R75: with it, at most 24 queued frames are
NOTE-ON or PASS frames, a pedal has at most one frame queued or remembered, and nothing is owed or remembered while the
voice queue has room. -/
def Obligations.StepKeepsQueues : Prop :=
  (∀ s t : State, KeepsQueues s → step s = .next t → KeepsQueues t) ∧
    ∀ s t : State, KeepsQueues s → KeepsVoiceLimits s → step s = .next t → KeepsVoiceLimits t

/-- R55: every step keeps each effective level the greater of the player and the playback level. -/
def Obligations.StepKeepsLevels : Prop := ∀ s t : State, KeepsLevels s → step s = .next t → KeepsLevels t

/-- R86: every step keeps the motor driven in ENGAGING and DISENGAGING only, each in its own direction. -/
def Obligations.StepKeepsDrive : Prop := ∀ s t : State, KeepsDrive s → step s = .next t → KeepsDrive t

/-- R45: every step keeps the GATED count equal to the number of keys in GATED. -/
def Obligations.StepKeepsGated : Prop := ∀ s t : State, KeepsGated s → step s = .next t → KeepsGated t

/-- R65: every step keeps a key that sounds and is not held owed its NOTE-OFF. -/
def Obligations.StepKeepsOwed : Prop := ∀ s t : State, KeepsOwed s → step s = .next t → KeepsOwed t

/-- R157, R158, R163, R164, R167, R168: every step keeps the lists of PRM within 10 and 8 entries, with no key expected
twice or both expected and recent, nothing expected in STOPPED or OFF, in WAIT mode no deadline and an awaited key exactly
while PBE waits, the wait timer running in a wait alone, and the pause sweep present in PAUSED alone. -/
def Obligations.StepKeepsPractice : Prop := ∀ s t : State, KeepsPractice s → step s = .next t → KeepsPractice t
end

