-- ==== Sys2Proof/Laws/State.lean ====
section
/-! SUPPORT. One lemma per field per update of State, true by rfl and tagged simp, so that no proof unfolds a
record update. -/

namespace Sys2Proof.Machine

section
variable (s : State) (f : Scn → Scn)
@[simp] theorem State.modScn_resetHeld : (s.modScn f).resetHeld = s.resetHeld := (rfl)
@[simp] theorem State.modScn_par : (s.modScn f).par = s.par := (rfl)
@[simp] theorem State.modScn_scn : (s.modScn f).scn = f s.scn := (rfl)
@[simp] theorem State.modScn_ktr : (s.modScn f).ktr = s.ktr := (rfl)
@[simp] theorem State.modScn_ptr : (s.modScn f).ptr = s.ptr := (rfl)
@[simp] theorem State.modScn_rlc : (s.modScn f).rlc = s.rlc := (rfl)
@[simp] theorem State.modScn_vdp : (s.modScn f).vdp = s.vdp := (rfl)
@[simp] theorem State.modScn_hpm : (s.modScn f).hpm = s.hpm := (rfl)
@[simp] theorem State.modScn_mem : (s.modScn f).mem = s.mem := (rfl)
@[simp] theorem State.modScn_pbe : (s.modScn f).pbe = s.pbe := (rfl)
@[simp] theorem State.modScn_prm : (s.modScn f).prm = s.prm := (rfl)
@[simp] theorem State.modScn_tkr : (s.modScn f).tkr = s.tkr := (rfl)
@[simp] theorem State.modScn_lnk : (s.modScn f).lnk = s.lnk := (rfl)
@[simp] theorem State.modScn_pending : (s.modScn f).pending = s.pending := (rfl)
@[simp] theorem State.modScn_early : (s.modScn f).early = s.early := (rfl)
end

section
variable (s : State) (f : Ktr → Ktr)
@[simp] theorem State.modKtr_resetHeld : (s.modKtr f).resetHeld = s.resetHeld := (rfl)
@[simp] theorem State.modKtr_par : (s.modKtr f).par = s.par := (rfl)
@[simp] theorem State.modKtr_scn : (s.modKtr f).scn = s.scn := (rfl)
@[simp] theorem State.modKtr_ktr : (s.modKtr f).ktr = f s.ktr := (rfl)
@[simp] theorem State.modKtr_ptr : (s.modKtr f).ptr = s.ptr := (rfl)
@[simp] theorem State.modKtr_rlc : (s.modKtr f).rlc = s.rlc := (rfl)
@[simp] theorem State.modKtr_vdp : (s.modKtr f).vdp = s.vdp := (rfl)
@[simp] theorem State.modKtr_hpm : (s.modKtr f).hpm = s.hpm := (rfl)
@[simp] theorem State.modKtr_mem : (s.modKtr f).mem = s.mem := (rfl)
@[simp] theorem State.modKtr_pbe : (s.modKtr f).pbe = s.pbe := (rfl)
@[simp] theorem State.modKtr_prm : (s.modKtr f).prm = s.prm := (rfl)
@[simp] theorem State.modKtr_tkr : (s.modKtr f).tkr = s.tkr := (rfl)
@[simp] theorem State.modKtr_lnk : (s.modKtr f).lnk = s.lnk := (rfl)
@[simp] theorem State.modKtr_pending : (s.modKtr f).pending = s.pending := (rfl)
@[simp] theorem State.modKtr_early : (s.modKtr f).early = s.early := (rfl)
@[simp] theorem State.modKtr_now : (s.modKtr f).now = s.now := (rfl)
end

section
variable (s : State) (f : Ptr → Ptr)
@[simp] theorem State.modPtr_resetHeld : (s.modPtr f).resetHeld = s.resetHeld := (rfl)
@[simp] theorem State.modPtr_par : (s.modPtr f).par = s.par := (rfl)
@[simp] theorem State.modPtr_scn : (s.modPtr f).scn = s.scn := (rfl)
@[simp] theorem State.modPtr_ktr : (s.modPtr f).ktr = s.ktr := (rfl)
@[simp] theorem State.modPtr_ptr : (s.modPtr f).ptr = f s.ptr := (rfl)
@[simp] theorem State.modPtr_rlc : (s.modPtr f).rlc = s.rlc := (rfl)
@[simp] theorem State.modPtr_vdp : (s.modPtr f).vdp = s.vdp := (rfl)
@[simp] theorem State.modPtr_hpm : (s.modPtr f).hpm = s.hpm := (rfl)
@[simp] theorem State.modPtr_mem : (s.modPtr f).mem = s.mem := (rfl)
@[simp] theorem State.modPtr_pbe : (s.modPtr f).pbe = s.pbe := (rfl)
@[simp] theorem State.modPtr_prm : (s.modPtr f).prm = s.prm := (rfl)
@[simp] theorem State.modPtr_tkr : (s.modPtr f).tkr = s.tkr := (rfl)
@[simp] theorem State.modPtr_lnk : (s.modPtr f).lnk = s.lnk := (rfl)
@[simp] theorem State.modPtr_pending : (s.modPtr f).pending = s.pending := (rfl)
@[simp] theorem State.modPtr_early : (s.modPtr f).early = s.early := (rfl)
@[simp] theorem State.modPtr_now : (s.modPtr f).now = s.now := (rfl)
end

section
variable (s : State) (f : Rlc → Rlc)
@[simp] theorem State.modRlc_resetHeld : (s.modRlc f).resetHeld = s.resetHeld := (rfl)
@[simp] theorem State.modRlc_par : (s.modRlc f).par = s.par := (rfl)
@[simp] theorem State.modRlc_scn : (s.modRlc f).scn = s.scn := (rfl)
@[simp] theorem State.modRlc_ktr : (s.modRlc f).ktr = s.ktr := (rfl)
@[simp] theorem State.modRlc_ptr : (s.modRlc f).ptr = s.ptr := (rfl)
@[simp] theorem State.modRlc_rlc : (s.modRlc f).rlc = f s.rlc := (rfl)
@[simp] theorem State.modRlc_vdp : (s.modRlc f).vdp = s.vdp := (rfl)
@[simp] theorem State.modRlc_hpm : (s.modRlc f).hpm = s.hpm := (rfl)
@[simp] theorem State.modRlc_mem : (s.modRlc f).mem = s.mem := (rfl)
@[simp] theorem State.modRlc_pbe : (s.modRlc f).pbe = s.pbe := (rfl)
@[simp] theorem State.modRlc_prm : (s.modRlc f).prm = s.prm := (rfl)
@[simp] theorem State.modRlc_tkr : (s.modRlc f).tkr = s.tkr := (rfl)
@[simp] theorem State.modRlc_lnk : (s.modRlc f).lnk = s.lnk := (rfl)
@[simp] theorem State.modRlc_pending : (s.modRlc f).pending = s.pending := (rfl)
@[simp] theorem State.modRlc_early : (s.modRlc f).early = s.early := (rfl)
@[simp] theorem State.modRlc_now : (s.modRlc f).now = s.now := (rfl)
end

section
variable (s : State) (f : Vdp → Vdp)
@[simp] theorem State.modVdp_resetHeld : (s.modVdp f).resetHeld = s.resetHeld := (rfl)
@[simp] theorem State.modVdp_par : (s.modVdp f).par = s.par := (rfl)
@[simp] theorem State.modVdp_scn : (s.modVdp f).scn = s.scn := (rfl)
@[simp] theorem State.modVdp_ktr : (s.modVdp f).ktr = s.ktr := (rfl)
@[simp] theorem State.modVdp_ptr : (s.modVdp f).ptr = s.ptr := (rfl)
@[simp] theorem State.modVdp_rlc : (s.modVdp f).rlc = s.rlc := (rfl)
@[simp] theorem State.modVdp_vdp : (s.modVdp f).vdp = f s.vdp := (rfl)
@[simp] theorem State.modVdp_hpm : (s.modVdp f).hpm = s.hpm := (rfl)
@[simp] theorem State.modVdp_mem : (s.modVdp f).mem = s.mem := (rfl)
@[simp] theorem State.modVdp_pbe : (s.modVdp f).pbe = s.pbe := (rfl)
@[simp] theorem State.modVdp_prm : (s.modVdp f).prm = s.prm := (rfl)
@[simp] theorem State.modVdp_tkr : (s.modVdp f).tkr = s.tkr := (rfl)
@[simp] theorem State.modVdp_lnk : (s.modVdp f).lnk = s.lnk := (rfl)
@[simp] theorem State.modVdp_pending : (s.modVdp f).pending = s.pending := (rfl)
@[simp] theorem State.modVdp_early : (s.modVdp f).early = s.early := (rfl)
@[simp] theorem State.modVdp_now : (s.modVdp f).now = s.now := (rfl)
end

section
variable (s : State) (f : Hpm → Hpm)
@[simp] theorem State.modHpm_resetHeld : (s.modHpm f).resetHeld = s.resetHeld := (rfl)
@[simp] theorem State.modHpm_par : (s.modHpm f).par = s.par := (rfl)
@[simp] theorem State.modHpm_scn : (s.modHpm f).scn = s.scn := (rfl)
@[simp] theorem State.modHpm_ktr : (s.modHpm f).ktr = s.ktr := (rfl)
@[simp] theorem State.modHpm_ptr : (s.modHpm f).ptr = s.ptr := (rfl)
@[simp] theorem State.modHpm_rlc : (s.modHpm f).rlc = s.rlc := (rfl)
@[simp] theorem State.modHpm_vdp : (s.modHpm f).vdp = s.vdp := (rfl)
@[simp] theorem State.modHpm_hpm : (s.modHpm f).hpm = f s.hpm := (rfl)
@[simp] theorem State.modHpm_mem : (s.modHpm f).mem = s.mem := (rfl)
@[simp] theorem State.modHpm_pbe : (s.modHpm f).pbe = s.pbe := (rfl)
@[simp] theorem State.modHpm_prm : (s.modHpm f).prm = s.prm := (rfl)
@[simp] theorem State.modHpm_tkr : (s.modHpm f).tkr = s.tkr := (rfl)
@[simp] theorem State.modHpm_lnk : (s.modHpm f).lnk = s.lnk := (rfl)
@[simp] theorem State.modHpm_pending : (s.modHpm f).pending = s.pending := (rfl)
@[simp] theorem State.modHpm_early : (s.modHpm f).early = s.early := (rfl)
@[simp] theorem State.modHpm_now : (s.modHpm f).now = s.now := (rfl)
end

section
variable (s : State) (f : Pbe → Pbe)
@[simp] theorem State.modPbe_resetHeld : (s.modPbe f).resetHeld = s.resetHeld := (rfl)
@[simp] theorem State.modPbe_par : (s.modPbe f).par = s.par := (rfl)
@[simp] theorem State.modPbe_scn : (s.modPbe f).scn = s.scn := (rfl)
@[simp] theorem State.modPbe_ktr : (s.modPbe f).ktr = s.ktr := (rfl)
@[simp] theorem State.modPbe_ptr : (s.modPbe f).ptr = s.ptr := (rfl)
@[simp] theorem State.modPbe_rlc : (s.modPbe f).rlc = s.rlc := (rfl)
@[simp] theorem State.modPbe_vdp : (s.modPbe f).vdp = s.vdp := (rfl)
@[simp] theorem State.modPbe_hpm : (s.modPbe f).hpm = s.hpm := (rfl)
@[simp] theorem State.modPbe_mem : (s.modPbe f).mem = s.mem := (rfl)
@[simp] theorem State.modPbe_pbe : (s.modPbe f).pbe = f s.pbe := (rfl)
@[simp] theorem State.modPbe_prm : (s.modPbe f).prm = s.prm := (rfl)
@[simp] theorem State.modPbe_tkr : (s.modPbe f).tkr = s.tkr := (rfl)
@[simp] theorem State.modPbe_lnk : (s.modPbe f).lnk = s.lnk := (rfl)
@[simp] theorem State.modPbe_pending : (s.modPbe f).pending = s.pending := (rfl)
@[simp] theorem State.modPbe_early : (s.modPbe f).early = s.early := (rfl)
@[simp] theorem State.modPbe_now : (s.modPbe f).now = s.now := (rfl)
end

section
variable (s : State) (f : Prm → Prm)
@[simp] theorem State.modPrm_resetHeld : (s.modPrm f).resetHeld = s.resetHeld := (rfl)
@[simp] theorem State.modPrm_par : (s.modPrm f).par = s.par := (rfl)
@[simp] theorem State.modPrm_scn : (s.modPrm f).scn = s.scn := (rfl)
@[simp] theorem State.modPrm_ktr : (s.modPrm f).ktr = s.ktr := (rfl)
@[simp] theorem State.modPrm_ptr : (s.modPrm f).ptr = s.ptr := (rfl)
@[simp] theorem State.modPrm_rlc : (s.modPrm f).rlc = s.rlc := (rfl)
@[simp] theorem State.modPrm_vdp : (s.modPrm f).vdp = s.vdp := (rfl)
@[simp] theorem State.modPrm_hpm : (s.modPrm f).hpm = s.hpm := (rfl)
@[simp] theorem State.modPrm_mem : (s.modPrm f).mem = s.mem := (rfl)
@[simp] theorem State.modPrm_pbe : (s.modPrm f).pbe = s.pbe := (rfl)
@[simp] theorem State.modPrm_prm : (s.modPrm f).prm = f s.prm := (rfl)
@[simp] theorem State.modPrm_tkr : (s.modPrm f).tkr = s.tkr := (rfl)
@[simp] theorem State.modPrm_lnk : (s.modPrm f).lnk = s.lnk := (rfl)
@[simp] theorem State.modPrm_pending : (s.modPrm f).pending = s.pending := (rfl)
@[simp] theorem State.modPrm_early : (s.modPrm f).early = s.early := (rfl)
@[simp] theorem State.modPrm_now : (s.modPrm f).now = s.now := (rfl)
end

section
variable (s : State) (f : Tkr → Tkr)
@[simp] theorem State.modTkr_resetHeld : (s.modTkr f).resetHeld = s.resetHeld := (rfl)
@[simp] theorem State.modTkr_par : (s.modTkr f).par = s.par := (rfl)
@[simp] theorem State.modTkr_scn : (s.modTkr f).scn = s.scn := (rfl)
@[simp] theorem State.modTkr_ktr : (s.modTkr f).ktr = s.ktr := (rfl)
@[simp] theorem State.modTkr_ptr : (s.modTkr f).ptr = s.ptr := (rfl)
@[simp] theorem State.modTkr_rlc : (s.modTkr f).rlc = s.rlc := (rfl)
@[simp] theorem State.modTkr_vdp : (s.modTkr f).vdp = s.vdp := (rfl)
@[simp] theorem State.modTkr_hpm : (s.modTkr f).hpm = s.hpm := (rfl)
@[simp] theorem State.modTkr_mem : (s.modTkr f).mem = s.mem := (rfl)
@[simp] theorem State.modTkr_pbe : (s.modTkr f).pbe = s.pbe := (rfl)
@[simp] theorem State.modTkr_prm : (s.modTkr f).prm = s.prm := (rfl)
@[simp] theorem State.modTkr_tkr : (s.modTkr f).tkr = f s.tkr := (rfl)
@[simp] theorem State.modTkr_lnk : (s.modTkr f).lnk = s.lnk := (rfl)
@[simp] theorem State.modTkr_pending : (s.modTkr f).pending = s.pending := (rfl)
@[simp] theorem State.modTkr_early : (s.modTkr f).early = s.early := (rfl)
@[simp] theorem State.modTkr_now : (s.modTkr f).now = s.now := (rfl)
end

section
variable (s : State) (f : Lnk → Lnk)
@[simp] theorem State.modLnk_resetHeld : (s.modLnk f).resetHeld = s.resetHeld := (rfl)
@[simp] theorem State.modLnk_par : (s.modLnk f).par = s.par := (rfl)
@[simp] theorem State.modLnk_scn : (s.modLnk f).scn = s.scn := (rfl)
@[simp] theorem State.modLnk_ktr : (s.modLnk f).ktr = s.ktr := (rfl)
@[simp] theorem State.modLnk_ptr : (s.modLnk f).ptr = s.ptr := (rfl)
@[simp] theorem State.modLnk_rlc : (s.modLnk f).rlc = s.rlc := (rfl)
@[simp] theorem State.modLnk_vdp : (s.modLnk f).vdp = s.vdp := (rfl)
@[simp] theorem State.modLnk_hpm : (s.modLnk f).hpm = s.hpm := (rfl)
@[simp] theorem State.modLnk_mem : (s.modLnk f).mem = s.mem := (rfl)
@[simp] theorem State.modLnk_pbe : (s.modLnk f).pbe = s.pbe := (rfl)
@[simp] theorem State.modLnk_prm : (s.modLnk f).prm = s.prm := (rfl)
@[simp] theorem State.modLnk_tkr : (s.modLnk f).tkr = s.tkr := (rfl)
@[simp] theorem State.modLnk_lnk : (s.modLnk f).lnk = f s.lnk := (rfl)
@[simp] theorem State.modLnk_pending : (s.modLnk f).pending = s.pending := (rfl)
@[simp] theorem State.modLnk_early : (s.modLnk f).early = s.early := (rfl)
@[simp] theorem State.modLnk_now : (s.modLnk f).now = s.now := (rfl)
end

section
variable (s : State) (f : Params → Params)
@[simp] theorem State.modPar_resetHeld : (s.modPar f).resetHeld = s.resetHeld := (rfl)
@[simp] theorem State.modPar_par : (s.modPar f).par = f s.par := (rfl)
@[simp] theorem State.modPar_scn : (s.modPar f).scn = s.scn := (rfl)
@[simp] theorem State.modPar_ktr : (s.modPar f).ktr = s.ktr := (rfl)
@[simp] theorem State.modPar_ptr : (s.modPar f).ptr = s.ptr := (rfl)
@[simp] theorem State.modPar_rlc : (s.modPar f).rlc = s.rlc := (rfl)
@[simp] theorem State.modPar_vdp : (s.modPar f).vdp = s.vdp := (rfl)
@[simp] theorem State.modPar_hpm : (s.modPar f).hpm = s.hpm := (rfl)
@[simp] theorem State.modPar_mem : (s.modPar f).mem = s.mem := (rfl)
@[simp] theorem State.modPar_pbe : (s.modPar f).pbe = s.pbe := (rfl)
@[simp] theorem State.modPar_prm : (s.modPar f).prm = s.prm := (rfl)
@[simp] theorem State.modPar_tkr : (s.modPar f).tkr = s.tkr := (rfl)
@[simp] theorem State.modPar_lnk : (s.modPar f).lnk = s.lnk := (rfl)
@[simp] theorem State.modPar_pending : (s.modPar f).pending = s.pending := (rfl)
@[simp] theorem State.modPar_early : (s.modPar f).early = s.early := (rfl)
@[simp] theorem State.modPar_now : (s.modPar f).now = s.now := (rfl)
end

section
variable (s : State) (m : Memory)
@[simp] theorem State.setMem_resetHeld : (s.setMem m).resetHeld = s.resetHeld := (rfl)
@[simp] theorem State.setMem_par : (s.setMem m).par = s.par := (rfl)
@[simp] theorem State.setMem_scn : (s.setMem m).scn = s.scn := (rfl)
@[simp] theorem State.setMem_ktr : (s.setMem m).ktr = s.ktr := (rfl)
@[simp] theorem State.setMem_ptr : (s.setMem m).ptr = s.ptr := (rfl)
@[simp] theorem State.setMem_rlc : (s.setMem m).rlc = s.rlc := (rfl)
@[simp] theorem State.setMem_vdp : (s.setMem m).vdp = s.vdp := (rfl)
@[simp] theorem State.setMem_hpm : (s.setMem m).hpm = s.hpm := (rfl)
@[simp] theorem State.setMem_mem : (s.setMem m).mem = m := (rfl)
@[simp] theorem State.setMem_pbe : (s.setMem m).pbe = s.pbe := (rfl)
@[simp] theorem State.setMem_prm : (s.setMem m).prm = s.prm := (rfl)
@[simp] theorem State.setMem_tkr : (s.setMem m).tkr = s.tkr := (rfl)
@[simp] theorem State.setMem_lnk : (s.setMem m).lnk = s.lnk := (rfl)
@[simp] theorem State.setMem_pending : (s.setMem m).pending = s.pending := (rfl)
@[simp] theorem State.setMem_early : (s.setMem m).early = s.early := (rfl)
@[simp] theorem State.setMem_now : (s.setMem m).now = s.now := (rfl)
end

end Sys2Proof.Machine
end

