-- ==== Sys2Proof/Laws/Memory.lean ====
section
/-! SUPPORT. PMEM: every memory operation keeps the canonical form, and what a read gives after a write. -/

namespace Sys2Proof.Machine

/-! ### The canonical form -/

/-- The canonical form as a statement about pairs. -/
theorem Memory.wf_iff (m : Memory) :
    Memory.wf m = true ↔ m.Pairwise (fun c d => c.1 < d.1) ∧ ∀ c ∈ m, c.2 ≠ 0 := by
  induction m with
  | nil => simp [Memory.wf]
  | cons c rest ih =>
    cases rest with
    | nil => simp [Memory.wf]
    | cons d rest =>
      simp only [Memory.wf, Bool.and_eq_true, decide_eq_true_eq, bne_iff_ne, ih]
      constructor
      · rintro ⟨⟨h1, h2⟩, h3, h4⟩
        refine ⟨List.pairwise_cons.2 ⟨?_, h3⟩, ?_⟩
        · intro e he
          rcases List.mem_cons.1 he with rfl | he
          · exact h1
          · exact lt_trans h1 ((List.pairwise_cons.1 h3).1 e he)
        · intro e he
          rcases List.mem_cons.1 he with rfl | he
          · exact h2
          · exact h4 e he
      · rintro ⟨h1, h2⟩
        have h := List.pairwise_cons.1 h1
        exact ⟨⟨h.1 d (by simp), h2 c (by simp)⟩, h.2, fun e he => h2 e (List.mem_cons_of_mem _ he)⟩

theorem wf_nil : Memory.wf [] = true := rfl

/-- Every address of a write's result is the written one or an old one. -/
theorem mem_memWrite {m : Memory} {a : Nat} {v : Byte} {c : Host.Cell} (h : c ∈ memWrite m a v) :
    c = (a, v) ∧ v ≠ 0 ∨ c ∈ m := by
  induction m with
  | nil =>
    by_cases hv : v = 0 <;> simp_all [memWrite]
  | cons d rest ih =>
    unfold memWrite at h
    split at h
    · rcases List.mem_cons.1 h with rfl | h
      · exact .inr (by simp)
      · rcases ih h with h | h
        · exact .inl h
        · exact .inr (List.mem_cons_of_mem _ h)
    · split at h
      · split at h
        · exact .inr (List.mem_cons_of_mem _ h)
        · rcases List.mem_cons.1 h with rfl | h
          · exact .inl ⟨rfl, by assumption⟩
          · exact .inr (List.mem_cons_of_mem _ h)
      · split at h
        · exact .inr h
        · rcases List.mem_cons.1 h with rfl | h
          · exact .inl ⟨rfl, by assumption⟩
          · exact .inr h

/-- A write keeps the canonical form. -/
theorem wf_memWrite {m : Memory} (h : Memory.wf m = true) (a : Nat) (v : Byte) :
    Memory.wf (memWrite m a v) = true := by
  rw [Memory.wf_iff] at h ⊢
  obtain ⟨hp, hz⟩ := h
  refine ⟨?_, ?_⟩
  · clear hz
    induction m with
    | nil => simp only [memWrite]; split <;> simp
    | cons d rest ih =>
      have h := List.pairwise_cons.1 hp
      unfold memWrite
      split
      · refine List.pairwise_cons.2 ⟨fun e he => ?_, ih h.2⟩
        rcases mem_memWrite he with ⟨rfl, _⟩ | he
        · assumption
        · exact h.1 e he
      · split
        · split
          · exact h.2
          · refine List.pairwise_cons.2 ⟨fun e he => ?_, h.2⟩
            have := h.1 e he
            simp only
            omega
        · split
          · exact hp
          · refine List.pairwise_cons.2 ⟨fun e he => ?_, hp⟩
            rcases List.mem_cons.1 he with rfl | he
            · simp only; omega
            · have := h.1 e he
              simp only
              omega
  · intro c hc
    rcases mem_memWrite hc with ⟨rfl, hv⟩ | hc
    · exact hv
    · exact hz c hc

/-- A zero-fill keeps the canonical form. -/
theorem wf_memClear {m : Memory} (h : Memory.wf m = true) (lo hi : Nat) : Memory.wf (memClear m lo hi) = true := by
  rw [Memory.wf_iff] at h ⊢
  exact ⟨h.1.filter _, fun c hc => h.2 c (List.mem_filter.1 hc).1⟩

theorem wf_writeEntry {m : Memory} (h : Memory.wf m = true) (n : Nat) (e : Entry) :
    Memory.wf (writeEntry m n e) = true :=
  wf_memWrite (wf_memWrite (wf_memWrite (wf_memWrite h _ _) _ _) _ _) _ _

theorem wf_writeRun {m : Memory} (h : Memory.wf m = true) (n : Nat) (es : List Entry) :
    Memory.wf (writeRun m n es) = true := by
  induction es generalizing m n with
  | nil => exact h
  | cons e es ih => exact ih (wf_writeEntry h n e) (n + 1)

/-- Reset memory has the canonical form. -/
theorem wf_reset : Memory.wf State.reset.mem = true := rfl

/-! ### Reads after writes -/

theorem memRead_eq_zero {m : Memory} {a : Nat} (h : ∀ c ∈ m, c.1 ≠ a) : memRead m a = 0 := by
  induction m with
  | nil => rfl
  | cons c rest ih =>
    have hc := h c (by simp)
    simp only [memRead, hc, if_false]
    exact ih fun d hd => h d (List.mem_cons_of_mem _ hd)

/-- A read of another address is not changed by a write. -/
theorem memRead_memWrite_ne (m : Memory) {a b : Nat} (v : Byte) (h : b ≠ a) :
    memRead (memWrite m a v) b = memRead m b := by
  induction m with
  | nil => simp only [memWrite]; split <;> simp [memRead, Ne.symm h]
  | cons c rest ih =>
    unfold memWrite
    split
    · simp only [memRead, ih]
    · split
      · rename_i hc
        split <;> simp [memRead, hc, Ne.symm h]
      · split <;> simp [memRead, Ne.symm h]

/-- A read of the written address gives the byte written. -/
theorem memRead_memWrite_self {m : Memory} (h : Memory.wf m = true) (a : Nat) (v : Byte) :
    memRead (memWrite m a v) a = v := by
  have hp := ((Memory.wf_iff m).1 h).1
  clear h
  induction m with
  | nil => simp only [memWrite]; split <;> simp_all [memRead]
  | cons c rest ih =>
    have hc := List.pairwise_cons.1 hp
    unfold memWrite
    split
    · rename_i hlt
      simp only [memRead, Nat.ne_of_lt hlt, if_false]
      exact ih hc.2
    · split
      · rename_i heq
        split
        · rename_i hv
          rw [hv]
          exact memRead_eq_zero fun d hd => by have := hc.1 d hd; omega
        · simp [memRead]
      · split
        · rename_i hv
          rw [hv]
          refine memRead_eq_zero fun d hd => ?_
          rcases List.mem_cons.1 hd with rfl | hd
          · assumption
          · have := hc.1 d hd; omega
        · simp [memRead]

/-- A read after a zero-fill. -/
theorem memRead_memClear (m : Memory) (lo hi a : Nat) :
    memRead (memClear m lo hi) a = if lo ≤ a ∧ a < hi then 0 else memRead m a := by
  by_cases h : lo ≤ a ∧ a < hi
  · rw [if_pos h]
    refine memRead_eq_zero fun c hc => ?_
    have := (List.mem_filter.1 hc).2
    simp only [Bool.or_eq_true, decide_eq_true_eq] at this
    omega
  · rw [if_neg h]
    induction m with
    | nil => rfl
    | cons c rest ih =>
      by_cases hc : (decide (c.1 < lo) || decide (hi ≤ c.1)) = true
      · simp only [memClear, List.filter_cons, hc, if_true, memRead]
        simp only [memClear] at ih
        rw [ih]
      · simp only [memClear, List.filter_cons, hc, memRead] at ih ⊢
        have : c.1 ≠ a := by
          rintro rfl
          simp only [Bool.or_eq_true, decide_eq_true_eq] at hc
          omega
        simp only [this, if_false]
        exact ih

/-- Reading an entry after an entry is stored. -/
theorem readEntry_writeEntry_self {m : Memory} (h : Memory.wf m = true) (n : Nat) (e : Entry) :
    readEntry (writeEntry m n e) n = e := by
  have h1 := wf_memWrite h (4 * n) e.b0
  have h2 := wf_memWrite h1 (4 * n + 1) e.b1
  have h3 := wf_memWrite h2 (4 * n + 2) e.b2
  simp only [readEntry, writeEntry]
  congr 1
  · rw [memRead_memWrite_ne _ _ (by omega), memRead_memWrite_ne _ _ (by omega), memRead_memWrite_ne _ _ (by omega),
      memRead_memWrite_self h]
  · rw [memRead_memWrite_ne _ _ (by omega), memRead_memWrite_ne _ _ (by omega), memRead_memWrite_self h1]
  · rw [memRead_memWrite_ne _ _ (by omega), memRead_memWrite_self h2]
  · rw [memRead_memWrite_self h3]

/-- Bytes outside an entry are not changed when it is stored. -/
theorem memRead_writeEntry_out (m : Memory) {n a : Nat} (e : Entry) (h : a < 4 * n ∨ 4 * n + 4 ≤ a) :
    memRead (writeEntry m n e) a = memRead m a := by
  simp only [writeEntry]
  rw [memRead_memWrite_ne _ _ (by omega), memRead_memWrite_ne _ _ (by omega), memRead_memWrite_ne _ _ (by omega),
    memRead_memWrite_ne _ _ (by omega)]

/-- Other entries are not changed when one is stored. -/
theorem readEntry_writeEntry_ne (m : Memory) {n k : Nat} (e : Entry) (h : k ≠ n) :
    readEntry (writeEntry m n e) k = readEntry m k := by
  simp only [readEntry]
  rw [memRead_writeEntry_out m e (by omega), memRead_writeEntry_out m e (by omega),
    memRead_writeEntry_out m e (by omega), memRead_writeEntry_out m e (by omega)]

/-- Bytes outside a run are not changed when it is stored. -/
theorem memRead_writeRun_out (m : Memory) {n a : Nat} (es : List Entry)
    (h : a < 4 * n ∨ 4 * (n + es.length) ≤ a) : memRead (writeRun m n es) a = memRead m a := by
  induction es generalizing m n with
  | nil => rfl
  | cons e es ih =>
    simp only [List.length_cons] at h
    rw [writeRun, ih _ (by omega), memRead_writeEntry_out m e (by omega)]

/-- Entries outside a run are not changed when it is stored. -/
theorem readEntry_writeRun_out (m : Memory) {n k : Nat} (es : List Entry) (h : k < n ∨ n + es.length ≤ k) :
    readEntry (writeRun m n es) k = readEntry m k := by
  simp only [readEntry]
  rw [memRead_writeRun_out m es (by omega), memRead_writeRun_out m es (by omega),
    memRead_writeRun_out m es (by omega), memRead_writeRun_out m es (by omega)]

/-- Reading an entry of a run that has been stored. -/
theorem readEntry_writeRun {m : Memory} (h : Memory.wf m = true) (n : Nat) (es : List Entry) (i : Nat)
    (hi : i < es.length) : readEntry (writeRun m n es) (n + i) = es[i] := by
  induction es generalizing m n i with
  | nil => simp at hi
  | cons e es ih =>
    cases i with
    | zero =>
      rw [writeRun, readEntry_writeRun_out _ es (by omega)]
      exact readEntry_writeEntry_self h n e
    | succ i =>
      have := ih (wf_writeEntry h n e) (n + 1) i (by simpa using hi)
      rw [writeRun, show n + (i + 1) = n + 1 + i by omega, this]
      rfl

end Sys2Proof.Machine
end

