-- ==== Sys2Proof/Laws/Ops.lean ====
section
/-! SUPPORT. The records of keys, channels and pedals after one of them is replaced, the bounds of a clamp, the
PARAM table after one entry is stored, and the induction for folds over the state. -/

namespace Sys2Proof.Machine

/-! ### Folds -/

/-- What every step of a fold keeps, the fold keeps. -/
theorem foldl_keeps {α β : Type} (g : State → β) (f : State → α → State) (h : ∀ s a, g (f s a) = g s)
    (l : List α) (s : State) : g (l.foldl f s) = g s := by
  induction l generalizing s with
  | nil => rfl
  | cons a l ih => rw [List.foldl_cons, ih, h]

/-- An invariant that every step of a fold keeps holds after the fold. -/
theorem foldl_invariant {α σ : Type} (P : σ → Prop) (f : σ → α → σ) (h : ∀ s a, P s → P (f s a)) (l : List α)
    (s : σ) (hs : P s) : P (l.foldl f s) := by
  induction l generalizing s with
  | nil => exact hs
  | cons a l ih => exact ih _ (h s a hs)

/-! ### Numbers -/

theorem le_clamp (lo hi n : Nat) : lo ≤ clamp lo hi n := by unfold clamp; omega

theorem clamp_le {lo hi : Nat} (h : lo ≤ hi) (n : Nat) : clamp lo hi n ≤ hi := by unfold clamp; omega

theorem clamp_of_mem {lo hi n : Nat} (h1 : lo ≤ n) (h2 : n ≤ hi) : clamp lo hi n = n := by unfold clamp; omega

theorem saturatingSucc_le (n : Nat) : saturatingSucc n ≤ 65535 := by
  unfold saturatingSucc Config.countMax; omega

theorem ringBase_add_ringSize {code : Nat} (h : code ≤ 3) : ringBase code + ringSize code = 16384 := by
  interval_cases code <;> rfl

/-! ### Keys -/

@[simp] theorem keyRec_setKeyRec_self (k : Key) (r : KeyRecord) (s : State) : (setKeyRec k r s).keyRec k = r := by
  simp [setKeyRec, State.keyRec]

theorem keyRec_setKeyRec_ne {k j : Key} (h : j ≠ k) (r : KeyRecord) (s : State) :
    (setKeyRec k r s).keyRec j = s.keyRec j := by
  have : (k : Nat) ≠ j := fun e => h (Fin.ext e.symm)
  simp [setKeyRec, State.keyRec, Vector.getElem_set_ne _ _ this]

@[simp] theorem sound_setSound_self (k : Key) (r : SoundRecord) (s : State) : (setSound k r s).sound k = r := by
  simp [setSound, State.sound]

theorem sound_setSound_ne {k j : Key} (h : j ≠ k) (r : SoundRecord) (s : State) :
    (setSound k r s).sound j = s.sound j := by
  have : (k : Nat) ≠ j := fun e => h (Fin.ext e.symm)
  simp [setSound, State.sound, Vector.getElem_set_ne _ _ this]

/-! ### Channels -/

theorem channelIndex_injective {c d : Channel} (h : channelIndex c = channelIndex d) : c = d := by
  have hv := congrArg Fin.val h
  cases c with
  | key k =>
    cases d with
    | key j => simp only [channelIndex] at hv; rw [Fin.ext hv]
    | pedal p => exfalso; have := k.isLt; cases p <;> simp [channelIndex] at hv <;> omega
    | rail => exfalso; have := k.isLt; simp [channelIndex] at hv; omega
  | pedal p =>
    cases d with
    | key j => exfalso; have := j.isLt; cases p <;> simp [channelIndex] at hv <;> omega
    | pedal q => cases p <;> cases q <;> first | rfl | (exfalso; revert hv; decide)
    | rail => cases p <;> (exfalso; revert hv; decide)
  | rail =>
    cases d with
    | key j => exfalso; have := j.isLt; simp [channelIndex] at hv; omega
    | pedal q => cases q <;> (exfalso; revert hv; decide)
    | rail => rfl

@[simp] theorem channel_setChannel_self (c : Channel) (r : ChannelRecord) (s : State) :
    (setChannel c r s).channel c = r := by
  simp [setChannel, State.channel]

theorem channel_setChannel_ne {c d : Channel} (h : d ≠ c) (r : ChannelRecord) (s : State) :
    (setChannel c r s).channel d = s.channel d := by
  have : (channelIndex c : Nat) ≠ channelIndex d := fun e => h (channelIndex_injective (Fin.ext e)).symm
  simp [setChannel, State.channel, Vector.getElem_set_ne _ _ this]

/-! ### Pedals -/

@[simp] theorem PerPedal.get_set_self {α : Type} (v : PerPedal α) (p : Pedal) (x : α) : (v.set p x).get p = x := by
  cases p <;> rfl

theorem PerPedal.get_set_ne {α : Type} (v : PerPedal α) {p q : Pedal} (h : q ≠ p) (x : α) :
    (v.set p x).get q = v.get q := by
  cases p <;> cases q <;> first | rfl | exact absurd rfl h

@[simp] theorem pedalRec_setPedalRec_self (p : Pedal) (r : PedalRecord) (s : State) :
    (setPedalRec p r s).pedalRec p = r := by
  simp [setPedalRec, State.pedalRec]

theorem pedalRec_setPedalRec_ne {p q : Pedal} (h : q ≠ p) (r : PedalRecord) (s : State) :
    (setPedalRec p r s).pedalRec q = s.pedalRec q := by
  simp [setPedalRec, State.pedalRec, PerPedal.get_set_ne _ h]

/-! ### The PARAM table -/

/-- An entry stored is read back. -/
theorem paramGet_paramSet_self {i : Nat} (h : i < 33) (v : Nat) (p : Params) : paramGet (paramSet i v p) i = v := by
  interval_cases i <;> rfl

/-- Storing one entry leaves the others. -/
theorem paramGet_paramSet_ne {i j : Nat} (hi : i < 33) (hj : j < 33) (h : j ≠ i) (v : Nat) (p : Params) :
    paramGet (paramSet i v p) j = paramGet p j := by
  interval_cases i <;> interval_cases j <;> first | rfl | exact absurd rfl h

end Sys2Proof.Machine
end

