-- ==== Sys2Proof/Laws/Frames.lean ====
section
/-! SUPPORT. What each shared operation leaves as it is: one lemma per operation, which names every block that the
operation never touches. -/

namespace Sys2Proof.Machine

/-! ### Records -/

@[simp] theorem setKeyRec_frame (k : Key) (r : KeyRecord) (s : State) :
    (setKeyRec k r s).resetHeld = s.resetHeld ∧ (setKeyRec k r s).par = s.par ∧ (setKeyRec k r s).scn = s.scn ∧
    (setKeyRec k r s).ptr = s.ptr ∧ (setKeyRec k r s).rlc = s.rlc ∧ (setKeyRec k r s).vdp = s.vdp ∧
    (setKeyRec k r s).hpm = s.hpm ∧ (setKeyRec k r s).mem = s.mem ∧ (setKeyRec k r s).pbe = s.pbe ∧
    (setKeyRec k r s).prm = s.prm ∧ (setKeyRec k r s).tkr = s.tkr ∧ (setKeyRec k r s).lnk = s.lnk ∧
    (setKeyRec k r s).pending = s.pending ∧ (setKeyRec k r s).now = s.now := by
  simp [setKeyRec]

@[simp] theorem setSound_frame (k : Key) (r : SoundRecord) (s : State) :
    (setSound k r s).resetHeld = s.resetHeld ∧ (setSound k r s).par = s.par ∧ (setSound k r s).scn = s.scn ∧
    (setSound k r s).ktr = s.ktr ∧ (setSound k r s).ptr = s.ptr ∧ (setSound k r s).rlc = s.rlc ∧
    (setSound k r s).hpm = s.hpm ∧ (setSound k r s).mem = s.mem ∧ (setSound k r s).pbe = s.pbe ∧
    (setSound k r s).prm = s.prm ∧ (setSound k r s).tkr = s.tkr ∧ (setSound k r s).lnk = s.lnk ∧
    (setSound k r s).pending = s.pending ∧ (setSound k r s).now = s.now := by
  simp [setSound]

@[simp] theorem setPedalRec_frame (p : Pedal) (r : PedalRecord) (s : State) :
    (setPedalRec p r s).resetHeld = s.resetHeld ∧ (setPedalRec p r s).par = s.par ∧
    (setPedalRec p r s).scn = s.scn ∧ (setPedalRec p r s).ktr = s.ktr ∧ (setPedalRec p r s).rlc = s.rlc ∧
    (setPedalRec p r s).vdp = s.vdp ∧ (setPedalRec p r s).hpm = s.hpm ∧ (setPedalRec p r s).mem = s.mem ∧
    (setPedalRec p r s).pbe = s.pbe ∧ (setPedalRec p r s).prm = s.prm ∧ (setPedalRec p r s).tkr = s.tkr ∧
    (setPedalRec p r s).lnk = s.lnk ∧ (setPedalRec p r s).pending = s.pending ∧ (setPedalRec p r s).now = s.now := by
  simp [setPedalRec]

@[simp] theorem setChannel_frame (c : Channel) (r : ChannelRecord) (s : State) :
    (setChannel c r s).resetHeld = s.resetHeld ∧ (setChannel c r s).par = s.par ∧ (setChannel c r s).ktr = s.ktr ∧
    (setChannel c r s).ptr = s.ptr ∧ (setChannel c r s).rlc = s.rlc ∧ (setChannel c r s).vdp = s.vdp ∧
    (setChannel c r s).hpm = s.hpm ∧ (setChannel c r s).mem = s.mem ∧ (setChannel c r s).pbe = s.pbe ∧
    (setChannel c r s).prm = s.prm ∧ (setChannel c r s).tkr = s.tkr ∧ (setChannel c r s).lnk = s.lnk ∧
    (setChannel c r s).pending = s.pending := by
  simp [setChannel]


/-! ### Reports and the transmitter -/

@[simp] theorem handReport_frame (r : Report) (s : State) :
    (handReport r s).resetHeld = s.resetHeld ∧ (handReport r s).par = s.par ∧ (handReport r s).scn = s.scn ∧
    (handReport r s).ktr = s.ktr ∧ (handReport r s).ptr = s.ptr ∧ (handReport r s).rlc = s.rlc ∧
    (handReport r s).vdp = s.vdp ∧ (handReport r s).hpm = s.hpm ∧ (handReport r s).mem = s.mem ∧
    (handReport r s).pbe = s.pbe ∧ (handReport r s).prm = s.prm ∧ (handReport r s).tkr = s.tkr ∧
    (handReport r s).pending = s.pending ∧ (handReport r s).now = s.now := by
  unfold handReport; (repeat' split) <;> simp

@[simp] theorem sendReport_frame (c : ReportClass) (r : Report) (rest : List Report) (s : State) :
    (sendReport c r rest s).resetHeld = s.resetHeld ∧ (sendReport c r rest s).par = s.par ∧
    (sendReport c r rest s).scn = s.scn ∧ (sendReport c r rest s).ktr = s.ktr ∧
    (sendReport c r rest s).ptr = s.ptr ∧ (sendReport c r rest s).rlc = s.rlc ∧
    (sendReport c r rest s).hpm = s.hpm ∧ (sendReport c r rest s).mem = s.mem ∧
    (sendReport c r rest s).pbe = s.pbe ∧ (sendReport c r rest s).prm = s.prm ∧
    (sendReport c r rest s).tkr = s.tkr ∧ (sendReport c r rest s).pending = s.pending ∧
    (sendReport c r rest s).now = s.now := by
  cases r <;> simp [sendReport]

@[simp] theorem sendNextReport_frame (s : State) :
    (sendNextReport s).resetHeld = s.resetHeld ∧ (sendNextReport s).par = s.par ∧ (sendNextReport s).scn = s.scn ∧
    (sendNextReport s).ktr = s.ktr ∧ (sendNextReport s).ptr = s.ptr ∧ (sendNextReport s).rlc = s.rlc ∧
    (sendNextReport s).hpm = s.hpm ∧ (sendNextReport s).mem = s.mem ∧ (sendNextReport s).pbe = s.pbe ∧
    (sendNextReport s).prm = s.prm ∧ (sendNextReport s).tkr = s.tkr ∧ (sendNextReport s).pending = s.pending ∧
    (sendNextReport s).now = s.now := by
  unfold sendNextReport; dsimp only; (repeat' split) <;> simp

@[simp] theorem linkChoose_frame (s : State) :
    (linkChoose s).resetHeld = s.resetHeld ∧ (linkChoose s).par = s.par ∧ (linkChoose s).scn = s.scn ∧
    (linkChoose s).ktr = s.ktr ∧ (linkChoose s).ptr = s.ptr ∧ (linkChoose s).rlc = s.rlc ∧
    (linkChoose s).hpm = s.hpm ∧ (linkChoose s).mem = s.mem ∧ (linkChoose s).pbe = s.pbe ∧
    (linkChoose s).prm = s.prm ∧ (linkChoose s).tkr = s.tkr ∧ (linkChoose s).pending = s.pending ∧
    (linkChoose s).now = s.now := by
  unfold linkChoose; (repeat' split) <;> simp


/-! ### VDP -/

@[simp] theorem pushFrame_frame (f : VoiceFrame) (s : State) :
    (pushFrame f s).resetHeld = s.resetHeld ∧ (pushFrame f s).par = s.par ∧ (pushFrame f s).scn = s.scn ∧
    (pushFrame f s).ktr = s.ktr ∧ (pushFrame f s).ptr = s.ptr ∧ (pushFrame f s).rlc = s.rlc ∧
    (pushFrame f s).hpm = s.hpm ∧ (pushFrame f s).mem = s.mem ∧ (pushFrame f s).pbe = s.pbe ∧
    (pushFrame f s).prm = s.prm ∧ (pushFrame f s).tkr = s.tkr ∧ (pushFrame f s).lnk = s.lnk ∧
    (pushFrame f s).pending = s.pending ∧ (pushFrame f s).now = s.now := by
  simp [pushFrame]

@[simp] theorem refillOffPending_frame (x : List Key) (s : State) :
    (refillOffPending x s).resetHeld = s.resetHeld ∧ (refillOffPending x s).par = s.par ∧
    (refillOffPending x s).scn = s.scn ∧ (refillOffPending x s).ktr = s.ktr ∧ (refillOffPending x s).ptr = s.ptr ∧
    (refillOffPending x s).rlc = s.rlc ∧ (refillOffPending x s).hpm = s.hpm ∧ (refillOffPending x s).mem = s.mem ∧
    (refillOffPending x s).pbe = s.pbe ∧ (refillOffPending x s).prm = s.prm ∧ (refillOffPending x s).tkr = s.tkr ∧
    (refillOffPending x s).lnk = s.lnk ∧ (refillOffPending x s).pending = s.pending ∧
    (refillOffPending x s).now = s.now := by
  induction x generalizing s with
  | nil => simp [refillOffPending]
  | cons k ks ih =>
    simp only [refillOffPending]
    (repeat' split) <;> simp [ih]

@[simp] theorem refillPedal_frame (s : State) :
    (refillPedal s).resetHeld = s.resetHeld ∧ (refillPedal s).par = s.par ∧ (refillPedal s).scn = s.scn ∧
    (refillPedal s).ktr = s.ktr ∧ (refillPedal s).ptr = s.ptr ∧ (refillPedal s).rlc = s.rlc ∧
    (refillPedal s).hpm = s.hpm ∧ (refillPedal s).mem = s.mem ∧ (refillPedal s).pbe = s.pbe ∧
    (refillPedal s).prm = s.prm ∧ (refillPedal s).tkr = s.tkr ∧ (refillPedal s).lnk = s.lnk ∧
    (refillPedal s).pending = s.pending ∧ (refillPedal s).now = s.now := by
  unfold refillPedal; (repeat' split) <;> simp

@[simp] theorem refill_frame (s : State) :
    (refill s).resetHeld = s.resetHeld ∧ (refill s).par = s.par ∧ (refill s).scn = s.scn ∧ (refill s).ktr = s.ktr ∧
    (refill s).ptr = s.ptr ∧ (refill s).rlc = s.rlc ∧ (refill s).hpm = s.hpm ∧ (refill s).mem = s.mem ∧
    (refill s).pbe = s.pbe ∧ (refill s).prm = s.prm ∧ (refill s).tkr = s.tkr ∧ (refill s).lnk = s.lnk ∧
    (refill s).pending = s.pending ∧ (refill s).now = s.now := by
  unfold refill; dsimp only; (repeat' split) <;> simp

@[simp] theorem voiceChoose_frame (s : State) :
    (voiceChoose s).resetHeld = s.resetHeld ∧ (voiceChoose s).par = s.par ∧ (voiceChoose s).scn = s.scn ∧
    (voiceChoose s).ktr = s.ktr ∧ (voiceChoose s).ptr = s.ptr ∧ (voiceChoose s).rlc = s.rlc ∧
    (voiceChoose s).hpm = s.hpm ∧ (voiceChoose s).mem = s.mem ∧ (voiceChoose s).pbe = s.pbe ∧
    (voiceChoose s).prm = s.prm ∧ (voiceChoose s).tkr = s.tkr ∧ (voiceChoose s).lnk = s.lnk ∧
    (voiceChoose s).pending = s.pending ∧ (voiceChoose s).now = s.now := by
  unfold voiceChoose; (repeat' split) <;> simp

@[simp] theorem voiceEnqueue_frame (f : VoiceFrame) (s : State) :
    (voiceEnqueue f s).resetHeld = s.resetHeld ∧ (voiceEnqueue f s).par = s.par ∧ (voiceEnqueue f s).scn = s.scn ∧
    (voiceEnqueue f s).ktr = s.ktr ∧ (voiceEnqueue f s).ptr = s.ptr ∧ (voiceEnqueue f s).rlc = s.rlc ∧
    (voiceEnqueue f s).hpm = s.hpm ∧ (voiceEnqueue f s).mem = s.mem ∧ (voiceEnqueue f s).pbe = s.pbe ∧
    (voiceEnqueue f s).prm = s.prm ∧ (voiceEnqueue f s).tkr = s.tkr ∧ (voiceEnqueue f s).lnk = s.lnk ∧
    (voiceEnqueue f s).pending = s.pending ∧ (voiceEnqueue f s).now = s.now := by
  simp [voiceEnqueue]

@[simp] theorem releaseEval_frame (k : Key) (s : State) :
    (releaseEval k s).resetHeld = s.resetHeld ∧ (releaseEval k s).par = s.par ∧ (releaseEval k s).scn = s.scn ∧
    (releaseEval k s).ktr = s.ktr ∧ (releaseEval k s).ptr = s.ptr ∧ (releaseEval k s).rlc = s.rlc ∧
    (releaseEval k s).hpm = s.hpm ∧ (releaseEval k s).mem = s.mem ∧ (releaseEval k s).pbe = s.pbe ∧
    (releaseEval k s).prm = s.prm ∧ (releaseEval k s).tkr = s.tkr ∧ (releaseEval k s).lnk = s.lnk ∧
    (releaseEval k s).pending = s.pending ∧ (releaseEval k s).now = s.now := by
  unfold releaseEval; dsimp only; (repeat' split) <;> simp

@[simp] theorem releaseEvals_frame (ks : List Key) (s : State) :
    (releaseEvals ks s).resetHeld = s.resetHeld ∧ (releaseEvals ks s).par = s.par ∧
    (releaseEvals ks s).scn = s.scn ∧ (releaseEvals ks s).ktr = s.ktr ∧ (releaseEvals ks s).ptr = s.ptr ∧
    (releaseEvals ks s).rlc = s.rlc ∧ (releaseEvals ks s).hpm = s.hpm ∧ (releaseEvals ks s).mem = s.mem ∧
    (releaseEvals ks s).pbe = s.pbe ∧ (releaseEvals ks s).prm = s.prm ∧ (releaseEvals ks s).tkr = s.tkr ∧
    (releaseEvals ks s).lnk = s.lnk ∧ (releaseEvals ks s).pending = s.pending ∧ (releaseEvals ks s).now = s.now := by
  unfold releaseEvals
  refine ⟨?_, ?_, ?_, ?_, ?_, ?_, ?_, ?_, ?_, ?_, ?_, ?_, ?_, ?_⟩ <;> exact foldl_keeps _ _ (fun _ _ => by simp) _ _

@[simp] theorem voiceDrop_frame (k : Key) (level : Nat) (src : NoteSource) (s : State) :
    (voiceDrop k level src s).resetHeld = s.resetHeld ∧ (voiceDrop k level src s).par = s.par ∧
    (voiceDrop k level src s).scn = s.scn ∧ (voiceDrop k level src s).ktr = s.ktr ∧
    (voiceDrop k level src s).ptr = s.ptr ∧ (voiceDrop k level src s).rlc = s.rlc ∧
    (voiceDrop k level src s).hpm = s.hpm ∧ (voiceDrop k level src s).mem = s.mem ∧
    (voiceDrop k level src s).pbe = s.pbe ∧ (voiceDrop k level src s).prm = s.prm ∧
    (voiceDrop k level src s).tkr = s.tkr ∧ (voiceDrop k level src s).pending = s.pending ∧
    (voiceDrop k level src s).now = s.now := by
  unfold voiceDrop; dsimp only; (repeat' split) <;> simp

@[simp] theorem noteOn_frame (k : Key) (level : Nat) (src : NoteSource) (s : State) :
    (noteOn k level src s).resetHeld = s.resetHeld ∧ (noteOn k level src s).par = s.par ∧
    (noteOn k level src s).scn = s.scn ∧ (noteOn k level src s).ktr = s.ktr ∧ (noteOn k level src s).ptr = s.ptr ∧
    (noteOn k level src s).rlc = s.rlc ∧ (noteOn k level src s).hpm = s.hpm ∧ (noteOn k level src s).mem = s.mem ∧
    (noteOn k level src s).pbe = s.pbe ∧ (noteOn k level src s).prm = s.prm ∧ (noteOn k level src s).tkr = s.tkr ∧
    (noteOn k level src s).pending = s.pending ∧ (noteOn k level src s).now = s.now := by
  unfold noteOn; dsimp only; (repeat' split) <;> simp

@[simp] theorem voiceLift_frame (k : Key) (s : State) :
    (voiceLift k s).resetHeld = s.resetHeld ∧ (voiceLift k s).par = s.par ∧ (voiceLift k s).scn = s.scn ∧
    (voiceLift k s).ktr = s.ktr ∧ (voiceLift k s).ptr = s.ptr ∧ (voiceLift k s).rlc = s.rlc ∧
    (voiceLift k s).hpm = s.hpm ∧ (voiceLift k s).mem = s.mem ∧ (voiceLift k s).pbe = s.pbe ∧
    (voiceLift k s).prm = s.prm ∧ (voiceLift k s).tkr = s.tkr ∧ (voiceLift k s).lnk = s.lnk ∧
    (voiceLift k s).pending = s.pending ∧ (voiceLift k s).now = s.now := by
  unfold voiceLift; dsimp only; simp

@[simp] theorem voiceRelease_frame (k : Key) (s : State) :
    (voiceRelease k s).resetHeld = s.resetHeld ∧ (voiceRelease k s).par = s.par ∧ (voiceRelease k s).scn = s.scn ∧
    (voiceRelease k s).ktr = s.ktr ∧ (voiceRelease k s).ptr = s.ptr ∧ (voiceRelease k s).rlc = s.rlc ∧
    (voiceRelease k s).hpm = s.hpm ∧ (voiceRelease k s).mem = s.mem ∧ (voiceRelease k s).pbe = s.pbe ∧
    (voiceRelease k s).prm = s.prm ∧ (voiceRelease k s).tkr = s.tkr ∧ (voiceRelease k s).lnk = s.lnk ∧
    (voiceRelease k s).pending = s.pending ∧ (voiceRelease k s).now = s.now := by
  unfold voiceRelease; dsimp only; (repeat' split) <;> simp

@[simp] theorem voiceStrike_frame (k : Key) (level : Nat) (s : State) :
    (voiceStrike k level s).resetHeld = s.resetHeld ∧ (voiceStrike k level s).par = s.par ∧
    (voiceStrike k level s).scn = s.scn ∧ (voiceStrike k level s).ktr = s.ktr ∧
    (voiceStrike k level s).ptr = s.ptr ∧ (voiceStrike k level s).rlc = s.rlc ∧
    (voiceStrike k level s).hpm = s.hpm ∧ (voiceStrike k level s).mem = s.mem ∧
    (voiceStrike k level s).pbe = s.pbe ∧ (voiceStrike k level s).prm = s.prm ∧
    (voiceStrike k level s).tkr = s.tkr ∧ (voiceStrike k level s).pending = s.pending ∧
    (voiceStrike k level s).now = s.now := by
  unfold voiceStrike; (repeat' split) <;> simp

@[simp] theorem playbackOn_frame (k : Key) (level : Nat) (s : State) :
    (playbackOn k level s).resetHeld = s.resetHeld ∧ (playbackOn k level s).par = s.par ∧
    (playbackOn k level s).scn = s.scn ∧ (playbackOn k level s).ktr = s.ktr ∧ (playbackOn k level s).ptr = s.ptr ∧
    (playbackOn k level s).rlc = s.rlc ∧ (playbackOn k level s).hpm = s.hpm ∧ (playbackOn k level s).mem = s.mem ∧
    (playbackOn k level s).pbe = s.pbe ∧ (playbackOn k level s).prm = s.prm ∧ (playbackOn k level s).tkr = s.tkr ∧
    (playbackOn k level s).pending = s.pending ∧ (playbackOn k level s).now = s.now := by
  unfold playbackOn; dsimp only; simp

@[simp] theorem guideNote_frame (k : Key) (s : State) :
    (guideNote k s).resetHeld = s.resetHeld ∧ (guideNote k s).par = s.par ∧ (guideNote k s).scn = s.scn ∧
    (guideNote k s).ktr = s.ktr ∧ (guideNote k s).ptr = s.ptr ∧ (guideNote k s).rlc = s.rlc ∧
    (guideNote k s).hpm = s.hpm ∧ (guideNote k s).mem = s.mem ∧ (guideNote k s).pbe = s.pbe ∧
    (guideNote k s).prm = s.prm ∧ (guideNote k s).tkr = s.tkr ∧ (guideNote k s).pending = s.pending ∧
    (guideNote k s).now = s.now := by
  unfold guideNote; dsimp only; simp

@[simp] theorem playbackOff_frame (k : Key) (s : State) :
    (playbackOff k s).resetHeld = s.resetHeld ∧ (playbackOff k s).par = s.par ∧ (playbackOff k s).scn = s.scn ∧
    (playbackOff k s).ktr = s.ktr ∧ (playbackOff k s).ptr = s.ptr ∧ (playbackOff k s).rlc = s.rlc ∧
    (playbackOff k s).hpm = s.hpm ∧ (playbackOff k s).mem = s.mem ∧ (playbackOff k s).pbe = s.pbe ∧
    (playbackOff k s).prm = s.prm ∧ (playbackOff k s).tkr = s.tkr ∧ (playbackOff k s).lnk = s.lnk ∧
    (playbackOff k s).pending = s.pending ∧ (playbackOff k s).now = s.now := by
  unfold playbackOff; dsimp only; (repeat' split) <;> simp

@[simp] theorem clearPlayback_frame (s : State) :
    (clearPlayback s).resetHeld = s.resetHeld ∧ (clearPlayback s).par = s.par ∧ (clearPlayback s).scn = s.scn ∧
    (clearPlayback s).ktr = s.ktr ∧ (clearPlayback s).ptr = s.ptr ∧ (clearPlayback s).rlc = s.rlc ∧
    (clearPlayback s).hpm = s.hpm ∧ (clearPlayback s).mem = s.mem ∧ (clearPlayback s).pbe = s.pbe ∧
    (clearPlayback s).prm = s.prm ∧ (clearPlayback s).tkr = s.tkr ∧ (clearPlayback s).lnk = s.lnk ∧
    (clearPlayback s).pending = s.pending ∧ (clearPlayback s).now = s.now := by
  simp [clearPlayback]

@[simp] theorem voicePedal_frame (p : Pedal) (level : Nat) (s : State) :
    (voicePedal p level s).resetHeld = s.resetHeld ∧ (voicePedal p level s).par = s.par ∧
    (voicePedal p level s).scn = s.scn ∧ (voicePedal p level s).ktr = s.ktr ∧ (voicePedal p level s).ptr = s.ptr ∧
    (voicePedal p level s).rlc = s.rlc ∧ (voicePedal p level s).hpm = s.hpm ∧ (voicePedal p level s).mem = s.mem ∧
    (voicePedal p level s).pbe = s.pbe ∧ (voicePedal p level s).prm = s.prm ∧ (voicePedal p level s).tkr = s.tkr ∧
    (voicePedal p level s).lnk = s.lnk ∧ (voicePedal p level s).pending = s.pending ∧
    (voicePedal p level s).now = s.now := by
  unfold voicePedal; (repeat' split) <;> simp

@[simp] theorem voiceHoldOff_frame (s : State) :
    (voiceHoldOff s).resetHeld = s.resetHeld ∧ (voiceHoldOff s).par = s.par ∧ (voiceHoldOff s).scn = s.scn ∧
    (voiceHoldOff s).ktr = s.ktr ∧ (voiceHoldOff s).ptr = s.ptr ∧ (voiceHoldOff s).rlc = s.rlc ∧
    (voiceHoldOff s).hpm = s.hpm ∧ (voiceHoldOff s).mem = s.mem ∧ (voiceHoldOff s).pbe = s.pbe ∧
    (voiceHoldOff s).prm = s.prm ∧ (voiceHoldOff s).tkr = s.tkr ∧ (voiceHoldOff s).lnk = s.lnk ∧
    (voiceHoldOff s).pending = s.pending ∧ (voiceHoldOff s).now = s.now := by
  simp [voiceHoldOff]

@[simp] theorem allDamp_frame (s : State) :
    (allDamp s).resetHeld = s.resetHeld ∧ (allDamp s).par = s.par ∧ (allDamp s).scn = s.scn ∧
    (allDamp s).ktr = s.ktr ∧ (allDamp s).ptr = s.ptr ∧ (allDamp s).rlc = s.rlc ∧ (allDamp s).hpm = s.hpm ∧
    (allDamp s).mem = s.mem ∧ (allDamp s).pbe = s.pbe ∧ (allDamp s).prm = s.prm ∧ (allDamp s).tkr = s.tkr ∧
    (allDamp s).lnk = s.lnk ∧ (allDamp s).pending = s.pending ∧ (allDamp s).now = s.now := by
  simp [allDamp]

@[simp] theorem voiceComplete_frame (s : State) :
    (voiceComplete s).resetHeld = s.resetHeld ∧ (voiceComplete s).par = s.par ∧ (voiceComplete s).scn = s.scn ∧
    (voiceComplete s).ktr = s.ktr ∧ (voiceComplete s).ptr = s.ptr ∧ (voiceComplete s).rlc = s.rlc ∧
    (voiceComplete s).hpm = s.hpm ∧ (voiceComplete s).mem = s.mem ∧ (voiceComplete s).pbe = s.pbe ∧
    (voiceComplete s).prm = s.prm ∧ (voiceComplete s).tkr = s.tkr ∧ (voiceComplete s).lnk = s.lnk ∧
    (voiceComplete s).pending = s.pending ∧ (voiceComplete s).now = s.now := by
  unfold voiceComplete; (repeat' split) <;> simp


/-! ### TKR -/

@[simp] theorem captureFull_frame (s : State) :
    (captureFull s).resetHeld = s.resetHeld ∧ (captureFull s).par = s.par ∧ (captureFull s).scn = s.scn ∧
    (captureFull s).ktr = s.ktr ∧ (captureFull s).ptr = s.ptr ∧ (captureFull s).rlc = s.rlc ∧
    (captureFull s).vdp = s.vdp ∧ (captureFull s).hpm = s.hpm ∧ (captureFull s).mem = s.mem ∧
    (captureFull s).pbe = s.pbe ∧ (captureFull s).prm = s.prm ∧ (captureFull s).pending = s.pending ∧
    (captureFull s).now = s.now := by
  simp [captureFull]

@[simp] theorem writeTake_frame (e : Entry) (s : State) :
    (writeTake e s).resetHeld = s.resetHeld ∧ (writeTake e s).par = s.par ∧ (writeTake e s).scn = s.scn ∧
    (writeTake e s).ktr = s.ktr ∧ (writeTake e s).ptr = s.ptr ∧ (writeTake e s).rlc = s.rlc ∧
    (writeTake e s).vdp = s.vdp ∧ (writeTake e s).hpm = s.hpm ∧ (writeTake e s).pbe = s.pbe ∧
    (writeTake e s).prm = s.prm ∧ (writeTake e s).lnk = s.lnk ∧ (writeTake e s).pending = s.pending ∧
    (writeTake e s).now = s.now := by
  simp [writeTake]

@[simp] theorem appendTake_frame (e : Entry) (s : State) :
    (appendTake e s).resetHeld = s.resetHeld ∧ (appendTake e s).par = s.par ∧ (appendTake e s).scn = s.scn ∧
    (appendTake e s).ktr = s.ktr ∧ (appendTake e s).ptr = s.ptr ∧ (appendTake e s).rlc = s.rlc ∧
    (appendTake e s).vdp = s.vdp ∧ (appendTake e s).hpm = s.hpm ∧ (appendTake e s).pbe = s.pbe ∧
    (appendTake e s).prm = s.prm ∧ (appendTake e s).pending = s.pending ∧ (appendTake e s).now = s.now := by
  unfold appendTake; dsimp only; (repeat' split) <;> simp

@[simp] theorem appendTimed_frame (kind first second : Nat) (s : State) :
    (appendTimed kind first second s).resetHeld = s.resetHeld ∧ (appendTimed kind first second s).par = s.par ∧
    (appendTimed kind first second s).scn = s.scn ∧ (appendTimed kind first second s).ktr = s.ktr ∧
    (appendTimed kind first second s).ptr = s.ptr ∧ (appendTimed kind first second s).rlc = s.rlc ∧
    (appendTimed kind first second s).vdp = s.vdp ∧ (appendTimed kind first second s).hpm = s.hpm ∧
    (appendTimed kind first second s).pbe = s.pbe ∧ (appendTimed kind first second s).prm = s.prm ∧
    (appendTimed kind first second s).pending = s.pending ∧ (appendTimed kind first second s).now = s.now := by
  unfold appendTimed; dsimp only; (repeat' split) <;> simp

@[simp] theorem appendSync_frame (index : Nat) (s : State) :
    (appendSync index s).resetHeld = s.resetHeld ∧ (appendSync index s).par = s.par ∧
    (appendSync index s).scn = s.scn ∧ (appendSync index s).ktr = s.ktr ∧ (appendSync index s).ptr = s.ptr ∧
    (appendSync index s).rlc = s.rlc ∧ (appendSync index s).vdp = s.vdp ∧ (appendSync index s).hpm = s.hpm ∧
    (appendSync index s).pbe = s.pbe ∧ (appendSync index s).prm = s.prm ∧
    (appendSync index s).pending = s.pending ∧ (appendSync index s).now = s.now := by
  simp [appendSync]

@[simp] theorem startTake_frame (s : State) :
    (startTake s).resetHeld = s.resetHeld ∧ (startTake s).par = s.par ∧ (startTake s).scn = s.scn ∧
    (startTake s).ktr = s.ktr ∧ (startTake s).ptr = s.ptr ∧ (startTake s).rlc = s.rlc ∧ (startTake s).vdp = s.vdp ∧
    (startTake s).hpm = s.hpm ∧ (startTake s).pbe = s.pbe ∧ (startTake s).prm = s.prm ∧
    (startTake s).pending = s.pending ∧ (startTake s).now = s.now := by
  unfold startTake; dsimp only; (repeat' split) <;> simp

@[simp] theorem playerEvent_frame (kind first second : Nat) (s : State) :
    (playerEvent kind first second s).resetHeld = s.resetHeld ∧ (playerEvent kind first second s).par = s.par ∧
    (playerEvent kind first second s).scn = s.scn ∧ (playerEvent kind first second s).ktr = s.ktr ∧
    (playerEvent kind first second s).ptr = s.ptr ∧ (playerEvent kind first second s).rlc = s.rlc ∧
    (playerEvent kind first second s).vdp = s.vdp ∧ (playerEvent kind first second s).hpm = s.hpm ∧
    (playerEvent kind first second s).pbe = s.pbe ∧ (playerEvent kind first second s).prm = s.prm ∧
    (playerEvent kind first second s).pending = s.pending ∧ (playerEvent kind first second s).now = s.now := by
  unfold playerEvent; dsimp only; (repeat' split) <;> simp

@[simp] theorem playbackPlaced_frame (index : Nat) (s : State) :
    (playbackPlaced index s).resetHeld = s.resetHeld ∧ (playbackPlaced index s).par = s.par ∧
    (playbackPlaced index s).scn = s.scn ∧ (playbackPlaced index s).ktr = s.ktr ∧
    (playbackPlaced index s).ptr = s.ptr ∧ (playbackPlaced index s).rlc = s.rlc ∧
    (playbackPlaced index s).vdp = s.vdp ∧ (playbackPlaced index s).hpm = s.hpm ∧
    (playbackPlaced index s).pbe = s.pbe ∧ (playbackPlaced index s).prm = s.prm ∧
    (playbackPlaced index s).pending = s.pending ∧ (playbackPlaced index s).now = s.now := by
  unfold playbackPlaced; (repeat' split) <;> simp

@[simp] theorem recorderSweep_frame (s : State) :
    (recorderSweep s).resetHeld = s.resetHeld ∧ (recorderSweep s).par = s.par ∧ (recorderSweep s).scn = s.scn ∧
    (recorderSweep s).ktr = s.ktr ∧ (recorderSweep s).ptr = s.ptr ∧ (recorderSweep s).rlc = s.rlc ∧
    (recorderSweep s).vdp = s.vdp ∧ (recorderSweep s).hpm = s.hpm ∧ (recorderSweep s).pbe = s.pbe ∧
    (recorderSweep s).prm = s.prm ∧ (recorderSweep s).pending = s.pending ∧ (recorderSweep s).now = s.now := by
  unfold recorderSweep; (repeat' split) <;> simp

@[simp] theorem endTake_frame (s : State) :
    (endTake s).resetHeld = s.resetHeld ∧ (endTake s).par = s.par ∧ (endTake s).scn = s.scn ∧
    (endTake s).ktr = s.ktr ∧ (endTake s).ptr = s.ptr ∧ (endTake s).rlc = s.rlc ∧ (endTake s).vdp = s.vdp ∧
    (endTake s).hpm = s.hpm ∧ (endTake s).mem = s.mem ∧ (endTake s).pbe = s.pbe ∧ (endTake s).prm = s.prm ∧
    (endTake s).lnk = s.lnk ∧ (endTake s).pending = s.pending ∧ (endTake s).now = s.now := by
  simp [endTake]

@[simp] theorem emptyRing_frame (s : State) :
    (emptyRing s).resetHeld = s.resetHeld ∧ (emptyRing s).par = s.par ∧ (emptyRing s).scn = s.scn ∧
    (emptyRing s).ktr = s.ktr ∧ (emptyRing s).ptr = s.ptr ∧ (emptyRing s).rlc = s.rlc ∧ (emptyRing s).vdp = s.vdp ∧
    (emptyRing s).hpm = s.hpm ∧ (emptyRing s).mem = s.mem ∧ (emptyRing s).pbe = s.pbe ∧ (emptyRing s).prm = s.prm ∧
    (emptyRing s).lnk = s.lnk ∧ (emptyRing s).pending = s.pending ∧ (emptyRing s).now = s.now := by
  simp [emptyRing]


/-! ### PTR -/

@[simp] theorem testHold_frame (s : State) :
    (testHold s).resetHeld = s.resetHeld ∧ (testHold s).par = s.par ∧ (testHold s).scn = s.scn ∧
    (testHold s).ktr = s.ktr ∧ (testHold s).rlc = s.rlc ∧ (testHold s).hpm = s.hpm ∧ (testHold s).mem = s.mem ∧
    (testHold s).pbe = s.pbe ∧ (testHold s).prm = s.prm ∧ (testHold s).tkr = s.tkr ∧ (testHold s).lnk = s.lnk ∧
    (testHold s).pending = s.pending ∧ (testHold s).now = s.now := by
  unfold testHold; dsimp only; (repeat' split) <;> simp

@[simp] theorem testLatch_frame (s : State) :
    (testLatch s).resetHeld = s.resetHeld ∧ (testLatch s).par = s.par ∧ (testLatch s).scn = s.scn ∧
    (testLatch s).ktr = s.ktr ∧ (testLatch s).rlc = s.rlc ∧ (testLatch s).hpm = s.hpm ∧ (testLatch s).mem = s.mem ∧
    (testLatch s).pbe = s.pbe ∧ (testLatch s).prm = s.prm ∧ (testLatch s).tkr = s.tkr ∧ (testLatch s).lnk = s.lnk ∧
    (testLatch s).pending = s.pending ∧ (testLatch s).now = s.now := by
  unfold testLatch; dsimp only; (repeat' split) <;> simp

@[simp] theorem testPedal_frame (p : Pedal) (s : State) :
    (testPedal p s).resetHeld = s.resetHeld ∧ (testPedal p s).par = s.par ∧ (testPedal p s).scn = s.scn ∧
    (testPedal p s).ktr = s.ktr ∧ (testPedal p s).rlc = s.rlc ∧ (testPedal p s).hpm = s.hpm ∧
    (testPedal p s).mem = s.mem ∧ (testPedal p s).pbe = s.pbe ∧ (testPedal p s).prm = s.prm ∧
    (testPedal p s).tkr = s.tkr ∧ (testPedal p s).lnk = s.lnk ∧ (testPedal p s).pending = s.pending ∧
    (testPedal p s).now = s.now := by
  unfold testPedal; (repeat' split) <;> simp

@[simp] theorem recomputeEffective_frame (p : Pedal) (s : State) :
    (recomputeEffective p s).resetHeld = s.resetHeld ∧ (recomputeEffective p s).par = s.par ∧
    (recomputeEffective p s).scn = s.scn ∧ (recomputeEffective p s).ktr = s.ktr ∧
    (recomputeEffective p s).rlc = s.rlc ∧ (recomputeEffective p s).hpm = s.hpm ∧
    (recomputeEffective p s).mem = s.mem ∧ (recomputeEffective p s).pbe = s.pbe ∧
    (recomputeEffective p s).prm = s.prm ∧ (recomputeEffective p s).tkr = s.tkr ∧
    (recomputeEffective p s).lnk = s.lnk ∧ (recomputeEffective p s).pending = s.pending ∧
    (recomputeEffective p s).now = s.now := by
  unfold recomputeEffective; dsimp only; (repeat' split) <;> simp

@[simp] theorem adoptPlayer_frame (p : Pedal) (level : Nat) (fault : Bool) (s : State) :
    (adoptPlayer p level fault s).resetHeld = s.resetHeld ∧ (adoptPlayer p level fault s).par = s.par ∧
    (adoptPlayer p level fault s).scn = s.scn ∧ (adoptPlayer p level fault s).ktr = s.ktr ∧
    (adoptPlayer p level fault s).rlc = s.rlc ∧ (adoptPlayer p level fault s).hpm = s.hpm ∧
    (adoptPlayer p level fault s).pbe = s.pbe ∧ (adoptPlayer p level fault s).prm = s.prm ∧
    (adoptPlayer p level fault s).pending = s.pending ∧ (adoptPlayer p level fault s).now = s.now := by
  simp [adoptPlayer]

@[simp] theorem evaluatePlayer_frame (p : Pedal) (position : Nat) (s : State) :
    (evaluatePlayer p position s).resetHeld = s.resetHeld ∧ (evaluatePlayer p position s).par = s.par ∧
    (evaluatePlayer p position s).scn = s.scn ∧ (evaluatePlayer p position s).ktr = s.ktr ∧
    (evaluatePlayer p position s).rlc = s.rlc ∧ (evaluatePlayer p position s).hpm = s.hpm ∧
    (evaluatePlayer p position s).pbe = s.pbe ∧ (evaluatePlayer p position s).prm = s.prm ∧
    (evaluatePlayer p position s).pending = s.pending ∧ (evaluatePlayer p position s).now = s.now := by
  unfold evaluatePlayer; (repeat' split) <;> simp

@[simp] theorem playbackLevel_frame (p : Pedal) (level : Nat) (s : State) :
    (playbackLevel p level s).resetHeld = s.resetHeld ∧ (playbackLevel p level s).par = s.par ∧
    (playbackLevel p level s).scn = s.scn ∧ (playbackLevel p level s).ktr = s.ktr ∧
    (playbackLevel p level s).rlc = s.rlc ∧ (playbackLevel p level s).hpm = s.hpm ∧
    (playbackLevel p level s).mem = s.mem ∧ (playbackLevel p level s).pbe = s.pbe ∧
    (playbackLevel p level s).prm = s.prm ∧ (playbackLevel p level s).tkr = s.tkr ∧
    (playbackLevel p level s).lnk = s.lnk ∧ (playbackLevel p level s).pending = s.pending ∧
    (playbackLevel p level s).now = s.now := by
  simp [playbackLevel]

@[simp] theorem clearPlaybackLevels_frame (s : State) :
    (clearPlaybackLevels s).resetHeld = s.resetHeld ∧ (clearPlaybackLevels s).par = s.par ∧
    (clearPlaybackLevels s).scn = s.scn ∧ (clearPlaybackLevels s).ktr = s.ktr ∧
    (clearPlaybackLevels s).rlc = s.rlc ∧ (clearPlaybackLevels s).hpm = s.hpm ∧
    (clearPlaybackLevels s).mem = s.mem ∧ (clearPlaybackLevels s).pbe = s.pbe ∧
    (clearPlaybackLevels s).prm = s.prm ∧ (clearPlaybackLevels s).tkr = s.tkr ∧
    (clearPlaybackLevels s).lnk = s.lnk ∧ (clearPlaybackLevels s).pending = s.pending ∧
    (clearPlaybackLevels s).now = s.now := by
  simp [clearPlaybackLevels]

@[simp] theorem pedalArrival_frame (p : Pedal) (pos : Nat) (s : State) :
    (pedalArrival p pos s).resetHeld = s.resetHeld ∧ (pedalArrival p pos s).par = s.par ∧
    (pedalArrival p pos s).scn = s.scn ∧ (pedalArrival p pos s).ktr = s.ktr ∧ (pedalArrival p pos s).rlc = s.rlc ∧
    (pedalArrival p pos s).hpm = s.hpm ∧ (pedalArrival p pos s).pbe = s.pbe ∧ (pedalArrival p pos s).prm = s.prm ∧
    (pedalArrival p pos s).pending = s.pending ∧ (pedalArrival p pos s).now = s.now := by
  unfold pedalArrival; dsimp only; (repeat' split) <;> simp

@[simp] theorem emptyGroup_frame (p : Pedal) (s : State) :
    (emptyGroup p s).resetHeld = s.resetHeld ∧ (emptyGroup p s).par = s.par ∧ (emptyGroup p s).scn = s.scn ∧
    (emptyGroup p s).ktr = s.ktr ∧ (emptyGroup p s).rlc = s.rlc ∧ (emptyGroup p s).vdp = s.vdp ∧
    (emptyGroup p s).hpm = s.hpm ∧ (emptyGroup p s).mem = s.mem ∧ (emptyGroup p s).pbe = s.pbe ∧
    (emptyGroup p s).prm = s.prm ∧ (emptyGroup p s).tkr = s.tkr ∧ (emptyGroup p s).lnk = s.lnk ∧
    (emptyGroup p s).pending = s.pending ∧ (emptyGroup p s).now = s.now := by
  simp [emptyGroup]

@[simp] theorem emptyGroups_frame (s : State) :
    (emptyGroups s).resetHeld = s.resetHeld ∧ (emptyGroups s).par = s.par ∧ (emptyGroups s).scn = s.scn ∧
    (emptyGroups s).ktr = s.ktr ∧ (emptyGroups s).rlc = s.rlc ∧ (emptyGroups s).vdp = s.vdp ∧
    (emptyGroups s).hpm = s.hpm ∧ (emptyGroups s).mem = s.mem ∧ (emptyGroups s).pbe = s.pbe ∧
    (emptyGroups s).prm = s.prm ∧ (emptyGroups s).tkr = s.tkr ∧ (emptyGroups s).lnk = s.lnk ∧
    (emptyGroups s).pending = s.pending ∧ (emptyGroups s).now = s.now := by
  simp [emptyGroups]

@[simp] theorem pedalFault_frame (p : Pedal) (s : State) :
    (pedalFault p s).resetHeld = s.resetHeld ∧ (pedalFault p s).par = s.par ∧ (pedalFault p s).scn = s.scn ∧
    (pedalFault p s).ktr = s.ktr ∧ (pedalFault p s).rlc = s.rlc ∧ (pedalFault p s).hpm = s.hpm ∧
    (pedalFault p s).pbe = s.pbe ∧ (pedalFault p s).prm = s.prm ∧ (pedalFault p s).pending = s.pending ∧
    (pedalFault p s).now = s.now := by
  unfold pedalFault; dsimp only; (repeat' split) <;> simp

@[simp] theorem pedalRecovery_frame (p : Pedal) (pos : Nat) (s : State) :
    (pedalRecovery p pos s).resetHeld = s.resetHeld ∧ (pedalRecovery p pos s).par = s.par ∧
    (pedalRecovery p pos s).scn = s.scn ∧ (pedalRecovery p pos s).ktr = s.ktr ∧
    (pedalRecovery p pos s).rlc = s.rlc ∧ (pedalRecovery p pos s).hpm = s.hpm ∧
    (pedalRecovery p pos s).pbe = s.pbe ∧ (pedalRecovery p pos s).prm = s.prm ∧
    (pedalRecovery p pos s).pending = s.pending ∧ (pedalRecovery p pos s).now = s.now := by
  simp [pedalRecovery]


end Sys2Proof.Machine
end

