-- ==== Sys2Proof/Laws/FramesPlay.lean ====
section
/-! SUPPORT. What each operation of PRM and PBE leaves as it is: one lemma per operation. -/

namespace Sys2Proof.Machine

/-! ### PRM -/

@[simp] theorem playReport_frame (cause : PlayCause) (s : State) :
    (playReport cause s).resetHeld = s.resetHeld ∧ (playReport cause s).par = s.par ∧
    (playReport cause s).scn = s.scn ∧ (playReport cause s).ktr = s.ktr ∧ (playReport cause s).ptr = s.ptr ∧
    (playReport cause s).rlc = s.rlc ∧ (playReport cause s).vdp = s.vdp ∧ (playReport cause s).hpm = s.hpm ∧
    (playReport cause s).mem = s.mem ∧ (playReport cause s).pbe = s.pbe ∧ (playReport cause s).prm = s.prm ∧
    (playReport cause s).tkr = s.tkr ∧ (playReport cause s).pending = s.pending ∧ (playReport cause s).now = s.now := by
  simp [playReport]

@[simp] theorem waitRelease_frame (s : State) :
    (waitRelease s).resetHeld = s.resetHeld ∧ (waitRelease s).par = s.par ∧ (waitRelease s).scn = s.scn ∧
    (waitRelease s).ktr = s.ktr ∧ (waitRelease s).ptr = s.ptr ∧ (waitRelease s).rlc = s.rlc ∧
    (waitRelease s).vdp = s.vdp ∧ (waitRelease s).hpm = s.hpm ∧ (waitRelease s).mem = s.mem ∧
    (waitRelease s).prm = s.prm ∧ (waitRelease s).tkr = s.tkr ∧ (waitRelease s).pending = s.pending ∧
    (waitRelease s).now = s.now := by
  unfold waitRelease; (repeat' split) <;> simp

@[simp] theorem resolve_frame (k : Key) (result : PracticeResult) (cause : PracticeCause) (offset : Int) (index : Option Nat) (s : State) :
    (resolve k result cause offset index s).resetHeld = s.resetHeld ∧
    (resolve k result cause offset index s).par = s.par ∧ (resolve k result cause offset index s).scn = s.scn ∧
    (resolve k result cause offset index s).ktr = s.ktr ∧ (resolve k result cause offset index s).ptr = s.ptr ∧
    (resolve k result cause offset index s).rlc = s.rlc ∧ (resolve k result cause offset index s).vdp = s.vdp ∧
    (resolve k result cause offset index s).hpm = s.hpm ∧ (resolve k result cause offset index s).mem = s.mem ∧
    (resolve k result cause offset index s).pbe = s.pbe ∧ (resolve k result cause offset index s).tkr = s.tkr ∧
    (resolve k result cause offset index s).pending = s.pending ∧
    (resolve k result cause offset index s).now = s.now := by
  simp [resolve]

@[simp] theorem resolveWrong_frame (cause : PracticeCause) (e : Recent) (s : State) :
    (resolveWrong cause e s).resetHeld = s.resetHeld ∧ (resolveWrong cause e s).par = s.par ∧
    (resolveWrong cause e s).scn = s.scn ∧ (resolveWrong cause e s).ktr = s.ktr ∧
    (resolveWrong cause e s).ptr = s.ptr ∧ (resolveWrong cause e s).rlc = s.rlc ∧
    (resolveWrong cause e s).vdp = s.vdp ∧ (resolveWrong cause e s).hpm = s.hpm ∧
    (resolveWrong cause e s).mem = s.mem ∧ (resolveWrong cause e s).pbe = s.pbe ∧
    (resolveWrong cause e s).tkr = s.tkr ∧ (resolveWrong cause e s).pending = s.pending ∧
    (resolveWrong cause e s).now = s.now := by
  simp [resolveWrong]

@[simp] theorem examine_frame (s : State) :
    (examine s).resetHeld = s.resetHeld ∧ (examine s).par = s.par ∧ (examine s).scn = s.scn ∧
    (examine s).ktr = s.ktr ∧ (examine s).ptr = s.ptr ∧ (examine s).rlc = s.rlc ∧ (examine s).vdp = s.vdp ∧
    (examine s).hpm = s.hpm ∧ (examine s).mem = s.mem ∧ (examine s).pbe = s.pbe ∧ (examine s).tkr = s.tkr ∧
    (examine s).pending = s.pending ∧ (examine s).now = s.now := by
  unfold examine
  refine ⟨?_, ?_, ?_, ?_, ?_, ?_, ?_, ?_, ?_, ?_, ?_, ?_, ?_⟩ <;> exact (foldl_keeps _ _ (fun _ _ => by simp) _ _).trans (by simp)

@[simp] theorem joinRecent_frame (k : Key) (s : State) :
    (joinRecent k s).resetHeld = s.resetHeld ∧ (joinRecent k s).par = s.par ∧ (joinRecent k s).scn = s.scn ∧
    (joinRecent k s).ktr = s.ktr ∧ (joinRecent k s).ptr = s.ptr ∧ (joinRecent k s).rlc = s.rlc ∧
    (joinRecent k s).vdp = s.vdp ∧ (joinRecent k s).hpm = s.hpm ∧ (joinRecent k s).mem = s.mem ∧
    (joinRecent k s).pbe = s.pbe ∧ (joinRecent k s).tkr = s.tkr ∧ (joinRecent k s).pending = s.pending ∧
    (joinRecent k s).now = s.now := by
  unfold joinRecent; dsimp only; (repeat' split) <;> simp

@[simp] theorem resolveMiss_frame (cause : PracticeCause) (e : Expected) (s : State) :
    (resolveMiss cause e s).resetHeld = s.resetHeld ∧ (resolveMiss cause e s).par = s.par ∧
    (resolveMiss cause e s).scn = s.scn ∧ (resolveMiss cause e s).ktr = s.ktr ∧
    (resolveMiss cause e s).ptr = s.ptr ∧ (resolveMiss cause e s).rlc = s.rlc ∧
    (resolveMiss cause e s).vdp = s.vdp ∧ (resolveMiss cause e s).hpm = s.hpm ∧
    (resolveMiss cause e s).mem = s.mem ∧ (resolveMiss cause e s).pbe = s.pbe ∧
    (resolveMiss cause e s).tkr = s.tkr ∧ (resolveMiss cause e s).pending = s.pending ∧
    (resolveMiss cause e s).now = s.now := by
  simp [resolveMiss]

@[simp] theorem dropExpected_frame (k : Key) (s : State) :
    (dropExpected k s).resetHeld = s.resetHeld ∧ (dropExpected k s).par = s.par ∧ (dropExpected k s).scn = s.scn ∧
    (dropExpected k s).ktr = s.ktr ∧ (dropExpected k s).ptr = s.ptr ∧ (dropExpected k s).rlc = s.rlc ∧
    (dropExpected k s).vdp = s.vdp ∧ (dropExpected k s).hpm = s.hpm ∧ (dropExpected k s).mem = s.mem ∧
    (dropExpected k s).pbe = s.pbe ∧ (dropExpected k s).tkr = s.tkr ∧ (dropExpected k s).lnk = s.lnk ∧
    (dropExpected k s).pending = s.pending ∧ (dropExpected k s).now = s.now := by
  simp [dropExpected]

@[simp] theorem releaseIfEmpty_frame (s : State) :
    (releaseIfEmpty s).resetHeld = s.resetHeld ∧ (releaseIfEmpty s).par = s.par ∧ (releaseIfEmpty s).scn = s.scn ∧
    (releaseIfEmpty s).ktr = s.ktr ∧ (releaseIfEmpty s).ptr = s.ptr ∧ (releaseIfEmpty s).rlc = s.rlc ∧
    (releaseIfEmpty s).vdp = s.vdp ∧ (releaseIfEmpty s).hpm = s.hpm ∧ (releaseIfEmpty s).mem = s.mem ∧
    (releaseIfEmpty s).tkr = s.tkr ∧ (releaseIfEmpty s).pending = s.pending ∧ (releaseIfEmpty s).now = s.now := by
  unfold releaseIfEmpty; (repeat' split) <;> simp

@[simp] theorem practiceStrike_frame (k : Key) (s : State) :
    (practiceStrike k s).resetHeld = s.resetHeld ∧ (practiceStrike k s).par = s.par ∧
    (practiceStrike k s).scn = s.scn ∧ (practiceStrike k s).ktr = s.ktr ∧ (practiceStrike k s).ptr = s.ptr ∧
    (practiceStrike k s).rlc = s.rlc ∧ (practiceStrike k s).vdp = s.vdp ∧ (practiceStrike k s).hpm = s.hpm ∧
    (practiceStrike k s).mem = s.mem ∧ (practiceStrike k s).tkr = s.tkr ∧
    (practiceStrike k s).pending = s.pending ∧ (practiceStrike k s).now = s.now := by
  unfold practiceStrike; dsimp only; (repeat' split) <;> simp

@[simp] theorem creditEarly_frame (k : Key) (index : Nat) (e : Recent) (s : State) :
    (creditEarly k index e s).resetHeld = s.resetHeld ∧ (creditEarly k index e s).par = s.par ∧
    (creditEarly k index e s).scn = s.scn ∧ (creditEarly k index e s).ktr = s.ktr ∧
    (creditEarly k index e s).ptr = s.ptr ∧ (creditEarly k index e s).rlc = s.rlc ∧
    (creditEarly k index e s).vdp = s.vdp ∧ (creditEarly k index e s).hpm = s.hpm ∧
    (creditEarly k index e s).mem = s.mem ∧ (creditEarly k index e s).pbe = s.pbe ∧
    (creditEarly k index e s).tkr = s.tkr ∧ (creditEarly k index e s).pending = s.pending ∧
    (creditEarly k index e s).now = s.now := by
  simp [creditEarly]

@[simp] theorem joinExpected_frame (k : Key) (index : Nat) (deadline : Option Sweep) (s : State) :
    (joinExpected k index deadline s).resetHeld = s.resetHeld ∧ (joinExpected k index deadline s).par = s.par ∧
    (joinExpected k index deadline s).scn = s.scn ∧ (joinExpected k index deadline s).ktr = s.ktr ∧
    (joinExpected k index deadline s).ptr = s.ptr ∧ (joinExpected k index deadline s).rlc = s.rlc ∧
    (joinExpected k index deadline s).vdp = s.vdp ∧ (joinExpected k index deadline s).hpm = s.hpm ∧
    (joinExpected k index deadline s).mem = s.mem ∧ (joinExpected k index deadline s).pbe = s.pbe ∧
    (joinExpected k index deadline s).tkr = s.tkr ∧ (joinExpected k index deadline s).lnk = s.lnk ∧
    (joinExpected k index deadline s).pending = s.pending ∧ (joinExpected k index deadline s).now = s.now := by
  simp [joinExpected]

@[simp] theorem missRepeated_frame (k : Key) (s : State) :
    (missRepeated k s).resetHeld = s.resetHeld ∧ (missRepeated k s).par = s.par ∧ (missRepeated k s).scn = s.scn ∧
    (missRepeated k s).ktr = s.ktr ∧ (missRepeated k s).ptr = s.ptr ∧ (missRepeated k s).rlc = s.rlc ∧
    (missRepeated k s).vdp = s.vdp ∧ (missRepeated k s).hpm = s.hpm ∧ (missRepeated k s).mem = s.mem ∧
    (missRepeated k s).pbe = s.pbe ∧ (missRepeated k s).tkr = s.tkr ∧ (missRepeated k s).pending = s.pending ∧
    (missRepeated k s).now = s.now := by
  unfold missRepeated; (repeat' split) <;> simp

@[simp] theorem missEvicted_frame (s : State) :
    (missEvicted s).resetHeld = s.resetHeld ∧ (missEvicted s).par = s.par ∧ (missEvicted s).scn = s.scn ∧
    (missEvicted s).ktr = s.ktr ∧ (missEvicted s).ptr = s.ptr ∧ (missEvicted s).rlc = s.rlc ∧
    (missEvicted s).vdp = s.vdp ∧ (missEvicted s).hpm = s.hpm ∧ (missEvicted s).mem = s.mem ∧
    (missEvicted s).pbe = s.pbe ∧ (missEvicted s).tkr = s.tkr ∧ (missEvicted s).pending = s.pending ∧
    (missEvicted s).now = s.now := by
  unfold missEvicted; (repeat' split) <;> simp

@[simp] theorem expectedMute_frame (k : Key) (index : Nat) (s : State) :
    (expectedMute k index s).resetHeld = s.resetHeld ∧ (expectedMute k index s).par = s.par ∧
    (expectedMute k index s).scn = s.scn ∧ (expectedMute k index s).ktr = s.ktr ∧
    (expectedMute k index s).ptr = s.ptr ∧ (expectedMute k index s).rlc = s.rlc ∧
    (expectedMute k index s).vdp = s.vdp ∧ (expectedMute k index s).hpm = s.hpm ∧
    (expectedMute k index s).mem = s.mem ∧ (expectedMute k index s).pbe = s.pbe ∧
    (expectedMute k index s).tkr = s.tkr ∧ (expectedMute k index s).pending = s.pending ∧
    (expectedMute k index s).now = s.now := by
  unfold expectedMute; dsimp only; (repeat' split) <;> simp

@[simp] theorem expectedWait_frame (k : Key) (index : Nat) (s : State) :
    (expectedWait k index s).resetHeld = s.resetHeld ∧ (expectedWait k index s).par = s.par ∧
    (expectedWait k index s).scn = s.scn ∧ (expectedWait k index s).ktr = s.ktr ∧
    (expectedWait k index s).ptr = s.ptr ∧ (expectedWait k index s).rlc = s.rlc ∧
    (expectedWait k index s).hpm = s.hpm ∧ (expectedWait k index s).mem = s.mem ∧
    (expectedWait k index s).pbe = s.pbe ∧ (expectedWait k index s).tkr = s.tkr ∧
    (expectedWait k index s).pending = s.pending ∧ (expectedWait k index s).now = s.now := by
  unfold expectedWait; dsimp only; (repeat' split) <;> simp

@[simp] theorem expectedNote_frame (k : Key) (index : Nat) (s : State) :
    (expectedNote k index s).resetHeld = s.resetHeld ∧ (expectedNote k index s).par = s.par ∧
    (expectedNote k index s).scn = s.scn ∧ (expectedNote k index s).ktr = s.ktr ∧
    (expectedNote k index s).ptr = s.ptr ∧ (expectedNote k index s).rlc = s.rlc ∧
    (expectedNote k index s).hpm = s.hpm ∧ (expectedNote k index s).mem = s.mem ∧
    (expectedNote k index s).pbe = s.pbe ∧ (expectedNote k index s).tkr = s.tkr ∧
    (expectedNote k index s).pending = s.pending ∧ (expectedNote k index s).now = s.now := by
  unfold expectedNote; (repeat' split) <;> simp

@[simp] theorem closeGroup_frame (s : State) :
    (closeGroup s).resetHeld = s.resetHeld ∧ (closeGroup s).par = s.par ∧ (closeGroup s).scn = s.scn ∧
    (closeGroup s).ktr = s.ktr ∧ (closeGroup s).ptr = s.ptr ∧ (closeGroup s).rlc = s.rlc ∧
    (closeGroup s).vdp = s.vdp ∧ (closeGroup s).hpm = s.hpm ∧ (closeGroup s).mem = s.mem ∧
    (closeGroup s).tkr = s.tkr ∧ (closeGroup s).pending = s.pending ∧ (closeGroup s).now = s.now := by
  unfold closeGroup; dsimp only; (repeat' split) <;> simp

@[simp] theorem endGroup_frame (s : State) :
    (endGroup s).resetHeld = s.resetHeld ∧ (endGroup s).par = s.par ∧ (endGroup s).scn = s.scn ∧
    (endGroup s).ktr = s.ktr ∧ (endGroup s).ptr = s.ptr ∧ (endGroup s).rlc = s.rlc ∧ (endGroup s).vdp = s.vdp ∧
    (endGroup s).hpm = s.hpm ∧ (endGroup s).mem = s.mem ∧ (endGroup s).tkr = s.tkr ∧
    (endGroup s).pending = s.pending ∧ (endGroup s).now = s.now := by
  unfold endGroup; dsimp only; (repeat' split) <;> simp

@[simp] theorem expireDeadlines_frame (s : State) :
    (expireDeadlines s).resetHeld = s.resetHeld ∧ (expireDeadlines s).par = s.par ∧
    (expireDeadlines s).scn = s.scn ∧ (expireDeadlines s).ktr = s.ktr ∧ (expireDeadlines s).ptr = s.ptr ∧
    (expireDeadlines s).rlc = s.rlc ∧ (expireDeadlines s).vdp = s.vdp ∧ (expireDeadlines s).hpm = s.hpm ∧
    (expireDeadlines s).mem = s.mem ∧ (expireDeadlines s).pbe = s.pbe ∧ (expireDeadlines s).tkr = s.tkr ∧
    (expireDeadlines s).pending = s.pending ∧ (expireDeadlines s).now = s.now := by
  unfold expireDeadlines
  refine ⟨?_, ?_, ?_, ?_, ?_, ?_, ?_, ?_, ?_, ?_, ?_, ?_, ?_⟩ <;> exact (foldl_keeps _ _ (fun _ _ => by simp) _ _).trans (by simp)

@[simp] theorem missTimeout_frame (e : Expected) (s : State) :
    (missTimeout e s).resetHeld = s.resetHeld ∧ (missTimeout e s).par = s.par ∧ (missTimeout e s).scn = s.scn ∧
    (missTimeout e s).ktr = s.ktr ∧ (missTimeout e s).ptr = s.ptr ∧ (missTimeout e s).rlc = s.rlc ∧
    (missTimeout e s).hpm = s.hpm ∧ (missTimeout e s).mem = s.mem ∧ (missTimeout e s).pbe = s.pbe ∧
    (missTimeout e s).tkr = s.tkr ∧ (missTimeout e s).pending = s.pending ∧ (missTimeout e s).now = s.now := by
  simp [missTimeout]

@[simp] theorem expireWait_frame (s : State) :
    (expireWait s).resetHeld = s.resetHeld ∧ (expireWait s).par = s.par ∧ (expireWait s).scn = s.scn ∧
    (expireWait s).ktr = s.ktr ∧ (expireWait s).ptr = s.ptr ∧ (expireWait s).rlc = s.rlc ∧
    (expireWait s).hpm = s.hpm ∧ (expireWait s).mem = s.mem ∧ (expireWait s).tkr = s.tkr ∧
    (expireWait s).pending = s.pending ∧ (expireWait s).now = s.now := by
  unfold expireWait
  simp only [waitRelease_frame]
  refine ⟨?_, ?_, ?_, ?_, ?_, ?_, ?_, ?_, ?_, ?_, ?_⟩ <;> exact (foldl_keeps _ _ (fun _ _ => by simp) _ _).trans (by simp)

@[simp] theorem practiceSweep_frame (s : State) :
    (practiceSweep s).resetHeld = s.resetHeld ∧ (practiceSweep s).par = s.par ∧ (practiceSweep s).scn = s.scn ∧
    (practiceSweep s).ktr = s.ktr ∧ (practiceSweep s).ptr = s.ptr ∧ (practiceSweep s).rlc = s.rlc ∧
    (practiceSweep s).hpm = s.hpm ∧ (practiceSweep s).mem = s.mem ∧ (practiceSweep s).tkr = s.tkr ∧
    (practiceSweep s).pending = s.pending ∧ (practiceSweep s).now = s.now := by
  unfold practiceSweep; dsimp only; (repeat' split) <;> simp

@[simp] theorem emptyExpected_frame (s : State) :
    (emptyExpected s).resetHeld = s.resetHeld ∧ (emptyExpected s).par = s.par ∧ (emptyExpected s).scn = s.scn ∧
    (emptyExpected s).ktr = s.ktr ∧ (emptyExpected s).ptr = s.ptr ∧ (emptyExpected s).rlc = s.rlc ∧
    (emptyExpected s).vdp = s.vdp ∧ (emptyExpected s).hpm = s.hpm ∧ (emptyExpected s).mem = s.mem ∧
    (emptyExpected s).pbe = s.pbe ∧ (emptyExpected s).tkr = s.tkr ∧ (emptyExpected s).lnk = s.lnk ∧
    (emptyExpected s).pending = s.pending ∧ (emptyExpected s).now = s.now := by
  simp [emptyExpected]

@[simp] theorem practiceStop_frame (s : State) :
    (practiceStop s).resetHeld = s.resetHeld ∧ (practiceStop s).par = s.par ∧ (practiceStop s).scn = s.scn ∧
    (practiceStop s).ktr = s.ktr ∧ (practiceStop s).ptr = s.ptr ∧ (practiceStop s).rlc = s.rlc ∧
    (practiceStop s).vdp = s.vdp ∧ (practiceStop s).hpm = s.hpm ∧ (practiceStop s).mem = s.mem ∧
    (practiceStop s).pbe = s.pbe ∧ (practiceStop s).tkr = s.tkr ∧ (practiceStop s).lnk = s.lnk ∧
    (practiceStop s).pending = s.pending ∧ (practiceStop s).now = s.now := by
  simp [practiceStop]

@[simp] theorem practicePlay_frame (s : State) :
    (practicePlay s).resetHeld = s.resetHeld ∧ (practicePlay s).par = s.par ∧ (practicePlay s).scn = s.scn ∧
    (practicePlay s).ktr = s.ktr ∧ (practicePlay s).ptr = s.ptr ∧ (practicePlay s).rlc = s.rlc ∧
    (practicePlay s).vdp = s.vdp ∧ (practicePlay s).hpm = s.hpm ∧ (practicePlay s).mem = s.mem ∧
    (practicePlay s).pbe = s.pbe ∧ (practicePlay s).tkr = s.tkr ∧ (practicePlay s).lnk = s.lnk ∧
    (practicePlay s).pending = s.pending ∧ (practicePlay s).now = s.now := by
  simp [practicePlay]

@[simp] theorem practicePause_frame (s : State) :
    (practicePause s).resetHeld = s.resetHeld ∧ (practicePause s).par = s.par ∧ (practicePause s).scn = s.scn ∧
    (practicePause s).ktr = s.ktr ∧ (practicePause s).ptr = s.ptr ∧ (practicePause s).rlc = s.rlc ∧
    (practicePause s).vdp = s.vdp ∧ (practicePause s).hpm = s.hpm ∧ (practicePause s).mem = s.mem ∧
    (practicePause s).pbe = s.pbe ∧ (practicePause s).tkr = s.tkr ∧ (practicePause s).lnk = s.lnk ∧
    (practicePause s).pending = s.pending ∧ (practicePause s).now = s.now := by
  simp [practicePause]

@[simp] theorem practiceResume_frame (s : State) :
    (practiceResume s).resetHeld = s.resetHeld ∧ (practiceResume s).par = s.par ∧ (practiceResume s).scn = s.scn ∧
    (practiceResume s).ktr = s.ktr ∧ (practiceResume s).ptr = s.ptr ∧ (practiceResume s).rlc = s.rlc ∧
    (practiceResume s).vdp = s.vdp ∧ (practiceResume s).hpm = s.hpm ∧ (practiceResume s).mem = s.mem ∧
    (practiceResume s).pbe = s.pbe ∧ (practiceResume s).tkr = s.tkr ∧ (practiceResume s).lnk = s.lnk ∧
    (practiceResume s).pending = s.pending ∧ (practiceResume s).now = s.now := by
  unfold practiceResume; (repeat' split) <;> simp

@[simp] theorem modeChange_frame (s : State) :
    (modeChange s).resetHeld = s.resetHeld ∧ (modeChange s).par = s.par ∧ (modeChange s).scn = s.scn ∧
    (modeChange s).ktr = s.ktr ∧ (modeChange s).ptr = s.ptr ∧ (modeChange s).rlc = s.rlc ∧
    (modeChange s).vdp = s.vdp ∧ (modeChange s).hpm = s.hpm ∧ (modeChange s).mem = s.mem ∧
    (modeChange s).tkr = s.tkr ∧ (modeChange s).pending = s.pending ∧ (modeChange s).now = s.now := by
  unfold modeChange; dsimp only; (repeat' split) <;> simp

@[simp] theorem afterModeWrite_frame (changed : Bool) (s : State) :
    (afterModeWrite changed s).resetHeld = s.resetHeld ∧ (afterModeWrite changed s).par = s.par ∧
    (afterModeWrite changed s).scn = s.scn ∧ (afterModeWrite changed s).ktr = s.ktr ∧
    (afterModeWrite changed s).ptr = s.ptr ∧ (afterModeWrite changed s).rlc = s.rlc ∧
    (afterModeWrite changed s).vdp = s.vdp ∧ (afterModeWrite changed s).hpm = s.hpm ∧
    (afterModeWrite changed s).mem = s.mem ∧ (afterModeWrite changed s).tkr = s.tkr ∧
    (afterModeWrite changed s).pending = s.pending ∧ (afterModeWrite changed s).now = s.now := by
  unfold afterModeWrite; (repeat' split) <;> simp


/-! ### PBE -/

@[simp] theorem stopSteps_frame (cause : PlayCause) (s : State) :
    (stopSteps cause s).resetHeld = s.resetHeld ∧ (stopSteps cause s).par = s.par ∧
    (stopSteps cause s).scn = s.scn ∧ (stopSteps cause s).ktr = s.ktr ∧ (stopSteps cause s).rlc = s.rlc ∧
    (stopSteps cause s).hpm = s.hpm ∧ (stopSteps cause s).mem = s.mem ∧ (stopSteps cause s).tkr = s.tkr ∧
    (stopSteps cause s).pending = s.pending ∧ (stopSteps cause s).now = s.now := by
  unfold stopSteps; dsimp only; (repeat' split) <;> simp

@[simp] theorem scoreFault_frame (cause : ScoreCause) (index : Nat) (s : State) :
    (scoreFault cause index s).resetHeld = s.resetHeld ∧ (scoreFault cause index s).par = s.par ∧
    (scoreFault cause index s).scn = s.scn ∧ (scoreFault cause index s).ktr = s.ktr ∧
    (scoreFault cause index s).rlc = s.rlc ∧ (scoreFault cause index s).hpm = s.hpm ∧
    (scoreFault cause index s).mem = s.mem ∧ (scoreFault cause index s).tkr = s.tkr ∧
    (scoreFault cause index s).pending = s.pending ∧ (scoreFault cause index s).now = s.now := by
  simp [scoreFault]

@[simp] theorem performNoteOn_frame (key level part index : Nat) (s : State) :
    (performNoteOn key level part index s).resetHeld = s.resetHeld ∧
    (performNoteOn key level part index s).par = s.par ∧ (performNoteOn key level part index s).scn = s.scn ∧
    (performNoteOn key level part index s).ktr = s.ktr ∧ (performNoteOn key level part index s).ptr = s.ptr ∧
    (performNoteOn key level part index s).rlc = s.rlc ∧ (performNoteOn key level part index s).hpm = s.hpm ∧
    (performNoteOn key level part index s).mem = s.mem ∧ (performNoteOn key level part index s).pbe = s.pbe ∧
    (performNoteOn key level part index s).tkr = s.tkr ∧
    (performNoteOn key level part index s).pending = s.pending ∧ (performNoteOn key level part index s).now = s.now := by
  unfold performNoteOn; (repeat' split) <;> simp

@[simp] theorem performNoteOff_frame (key : Nat) (s : State) :
    (performNoteOff key s).resetHeld = s.resetHeld ∧ (performNoteOff key s).par = s.par ∧
    (performNoteOff key s).scn = s.scn ∧ (performNoteOff key s).ktr = s.ktr ∧ (performNoteOff key s).ptr = s.ptr ∧
    (performNoteOff key s).rlc = s.rlc ∧ (performNoteOff key s).hpm = s.hpm ∧ (performNoteOff key s).mem = s.mem ∧
    (performNoteOff key s).pbe = s.pbe ∧ (performNoteOff key s).prm = s.prm ∧ (performNoteOff key s).tkr = s.tkr ∧
    (performNoteOff key s).lnk = s.lnk ∧ (performNoteOff key s).pending = s.pending ∧
    (performNoteOff key s).now = s.now := by
  unfold performNoteOff; (repeat' split) <;> simp

@[simp] theorem performPedal_frame (pedal level : Nat) (s : State) :
    (performPedal pedal level s).resetHeld = s.resetHeld ∧ (performPedal pedal level s).par = s.par ∧
    (performPedal pedal level s).scn = s.scn ∧ (performPedal pedal level s).ktr = s.ktr ∧
    (performPedal pedal level s).rlc = s.rlc ∧ (performPedal pedal level s).hpm = s.hpm ∧
    (performPedal pedal level s).mem = s.mem ∧ (performPedal pedal level s).pbe = s.pbe ∧
    (performPedal pedal level s).prm = s.prm ∧ (performPedal pedal level s).tkr = s.tkr ∧
    (performPedal pedal level s).lnk = s.lnk ∧ (performPedal pedal level s).pending = s.pending ∧
    (performPedal pedal level s).now = s.now := by
  unfold performPedal; (repeat' split) <;> simp

@[simp] theorem beat_frame (accent : Bool) (s : State) :
    (beat accent s).resetHeld = s.resetHeld ∧ (beat accent s).par = s.par ∧ (beat accent s).scn = s.scn ∧
    (beat accent s).ktr = s.ktr ∧ (beat accent s).ptr = s.ptr ∧ (beat accent s).rlc = s.rlc ∧
    (beat accent s).vdp = s.vdp ∧ (beat accent s).mem = s.mem ∧ (beat accent s).pbe = s.pbe ∧
    (beat accent s).prm = s.prm ∧ (beat accent s).tkr = s.tkr ∧ (beat accent s).lnk = s.lnk ∧
    (beat accent s).pending = s.pending ∧ (beat accent s).now = s.now := by
  simp [beat]

@[simp] theorem performMark_frame (number index : Nat) (s : State) :
    (performMark number index s).resetHeld = s.resetHeld ∧ (performMark number index s).par = s.par ∧
    (performMark number index s).scn = s.scn ∧ (performMark number index s).ktr = s.ktr ∧
    (performMark number index s).ptr = s.ptr ∧ (performMark number index s).rlc = s.rlc ∧
    (performMark number index s).vdp = s.vdp ∧ (performMark number index s).hpm = s.hpm ∧
    (performMark number index s).mem = s.mem ∧ (performMark number index s).pbe = s.pbe ∧
    (performMark number index s).prm = s.prm ∧ (performMark number index s).tkr = s.tkr ∧
    (performMark number index s).pending = s.pending ∧ (performMark number index s).now = s.now := by
  unfold performMark; (repeat' split) <;> simp

@[simp] theorem performScore_frame (e : ScoreEntry) (index : Nat) (s : State) :
    (performScore e index s).resetHeld = s.resetHeld ∧ (performScore e index s).par = s.par ∧
    (performScore e index s).scn = s.scn ∧ (performScore e index s).ktr = s.ktr ∧
    (performScore e index s).rlc = s.rlc ∧ (performScore e index s).mem = s.mem ∧
    (performScore e index s).tkr = s.tkr ∧ (performScore e index s).pending = s.pending ∧
    (performScore e index s).now = s.now := by
  unfold performScore; (repeat' split) <;> simp

@[simp] theorem moveCursor_frame (target faultIndex : Nat) (s : State) :
    (moveCursor target faultIndex s).resetHeld = s.resetHeld ∧ (moveCursor target faultIndex s).par = s.par ∧
    (moveCursor target faultIndex s).scn = s.scn ∧ (moveCursor target faultIndex s).ktr = s.ktr ∧
    (moveCursor target faultIndex s).rlc = s.rlc ∧ (moveCursor target faultIndex s).hpm = s.hpm ∧
    (moveCursor target faultIndex s).mem = s.mem ∧ (moveCursor target faultIndex s).tkr = s.tkr ∧
    (moveCursor target faultIndex s).pending = s.pending ∧ (moveCursor target faultIndex s).now = s.now := by
  unfold moveCursor; dsimp only; (repeat' split) <;> simp

@[simp] theorem navigate_frame (e : ScoreEntry) (i : Nat) (s : State) :
    (navigate e i s).resetHeld = s.resetHeld ∧ (navigate e i s).par = s.par ∧ (navigate e i s).scn = s.scn ∧
    (navigate e i s).ktr = s.ktr ∧ (navigate e i s).rlc = s.rlc ∧ (navigate e i s).mem = s.mem ∧
    (navigate e i s).tkr = s.tkr ∧ (navigate e i s).pending = s.pending ∧ (navigate e i s).now = s.now := by
  unfold navigate; dsimp only; (repeat' split) <;> simp

@[simp] theorem performNavigation_frame (e : ScoreEntry) (i : Nat) (s : State) :
    (performNavigation e i s).resetHeld = s.resetHeld ∧ (performNavigation e i s).par = s.par ∧
    (performNavigation e i s).scn = s.scn ∧ (performNavigation e i s).ktr = s.ktr ∧
    (performNavigation e i s).rlc = s.rlc ∧ (performNavigation e i s).mem = s.mem ∧
    (performNavigation e i s).tkr = s.tkr ∧ (performNavigation e i s).pending = s.pending ∧
    (performNavigation e i s).now = s.now := by
  unfold performNavigation; dsimp only; (repeat' split) <;> simp

@[simp] theorem scoreStep_frame (e : ScoreEntry) (s : State) :
    (scoreStep e s).resetHeld = s.resetHeld ∧ (scoreStep e s).par = s.par ∧ (scoreStep e s).scn = s.scn ∧
    (scoreStep e s).ktr = s.ktr ∧ (scoreStep e s).rlc = s.rlc ∧ (scoreStep e s).mem = s.mem ∧
    (scoreStep e s).tkr = s.tkr ∧ (scoreStep e s).pending = s.pending ∧ (scoreStep e s).now = s.now := by
  unfold scoreStep; dsimp only; (repeat' split) <;> simp

@[simp] theorem scoreRun_frame (n : Nat) (s : State) :
    (scoreRun n s).resetHeld = s.resetHeld ∧ (scoreRun n s).par = s.par ∧ (scoreRun n s).scn = s.scn ∧
    (scoreRun n s).ktr = s.ktr ∧ (scoreRun n s).rlc = s.rlc ∧ (scoreRun n s).mem = s.mem ∧
    (scoreRun n s).tkr = s.tkr ∧ (scoreRun n s).pending = s.pending ∧ (scoreRun n s).now = s.now := by
  induction n using Nat.strong_induction_on generalizing s with
  | _ n ih =>
    match n, ih with
    | 0, _ => simp [scoreRun]
    | 1, ih =>
      unfold scoreRun; dsimp only
      (repeat' split) <;> simp [ih 0 (by omega)]
    | n + 2, ih =>
      unfold scoreRun; dsimp only
      (repeat' split) <;> simp [ih n (by omega), ih (n + 1) (by omega)]

@[simp] theorem performTake_frame (e : TakeEntry) (offset : Nat) (s : State) :
    (performTake e offset s).resetHeld = s.resetHeld ∧ (performTake e offset s).par = s.par ∧
    (performTake e offset s).scn = s.scn ∧ (performTake e offset s).ktr = s.ktr ∧
    (performTake e offset s).rlc = s.rlc ∧ (performTake e offset s).mem = s.mem ∧
    (performTake e offset s).tkr = s.tkr ∧ (performTake e offset s).pending = s.pending ∧
    (performTake e offset s).now = s.now := by
  unfold performTake; (repeat' split) <;> simp

@[simp] theorem takeStep_frame (s : State) :
    (takeStep s).resetHeld = s.resetHeld ∧ (takeStep s).par = s.par ∧ (takeStep s).scn = s.scn ∧
    (takeStep s).ktr = s.ktr ∧ (takeStep s).rlc = s.rlc ∧ (takeStep s).mem = s.mem ∧ (takeStep s).tkr = s.tkr ∧
    (takeStep s).pending = s.pending ∧ (takeStep s).now = s.now := by
  unfold takeStep; dsimp only; (repeat' split) <;> simp

@[simp] theorem takeRun_frame (n : Nat) (s : State) :
    (takeRun n s).resetHeld = s.resetHeld ∧ (takeRun n s).par = s.par ∧ (takeRun n s).scn = s.scn ∧
    (takeRun n s).ktr = s.ktr ∧ (takeRun n s).rlc = s.rlc ∧ (takeRun n s).mem = s.mem ∧ (takeRun n s).tkr = s.tkr ∧
    (takeRun n s).pending = s.pending ∧ (takeRun n s).now = s.now := by
  induction n generalizing s with
  | zero => simp [takeRun]
  | succ n ih =>
    simp only [takeRun]
    split <;> simp [ih]

@[simp] theorem performRun_frame (s : State) :
    (performRun s).resetHeld = s.resetHeld ∧ (performRun s).par = s.par ∧ (performRun s).scn = s.scn ∧
    (performRun s).ktr = s.ktr ∧ (performRun s).rlc = s.rlc ∧ (performRun s).mem = s.mem ∧
    (performRun s).tkr = s.tkr ∧ (performRun s).pending = s.pending ∧ (performRun s).now = s.now := by
  unfold performRun; (repeat' split) <;> simp

@[simp] theorem countDown_frame (s : State) :
    (countDown s).resetHeld = s.resetHeld ∧ (countDown s).par = s.par ∧ (countDown s).scn = s.scn ∧
    (countDown s).ktr = s.ktr ∧ (countDown s).ptr = s.ptr ∧ (countDown s).rlc = s.rlc ∧ (countDown s).vdp = s.vdp ∧
    (countDown s).hpm = s.hpm ∧ (countDown s).mem = s.mem ∧ (countDown s).prm = s.prm ∧ (countDown s).tkr = s.tkr ∧
    (countDown s).lnk = s.lnk ∧ (countDown s).pending = s.pending ∧ (countDown s).now = s.now := by
  simp [countDown]

@[simp] theorem playUnit_frame (s : State) :
    (playUnit s).resetHeld = s.resetHeld ∧ (playUnit s).par = s.par ∧ (playUnit s).scn = s.scn ∧
    (playUnit s).ktr = s.ktr ∧ (playUnit s).rlc = s.rlc ∧ (playUnit s).mem = s.mem ∧ (playUnit s).tkr = s.tkr ∧
    (playUnit s).pending = s.pending ∧ (playUnit s).now = s.now := by
  unfold playUnit; dsimp only; (repeat' split) <;> simp

@[simp] theorem beatTest_frame (s : State) :
    (beatTest s).resetHeld = s.resetHeld ∧ (beatTest s).par = s.par ∧ (beatTest s).scn = s.scn ∧
    (beatTest s).ktr = s.ktr ∧ (beatTest s).ptr = s.ptr ∧ (beatTest s).rlc = s.rlc ∧ (beatTest s).vdp = s.vdp ∧
    (beatTest s).mem = s.mem ∧ (beatTest s).prm = s.prm ∧ (beatTest s).tkr = s.tkr ∧ (beatTest s).lnk = s.lnk ∧
    (beatTest s).pending = s.pending ∧ (beatTest s).now = s.now := by
  unfold beatTest; dsimp only; (repeat' split) <;> simp

@[simp] theorem accumulate_frame (s : State) :
    (accumulate s).resetHeld = s.resetHeld ∧ (accumulate s).par = s.par ∧ (accumulate s).scn = s.scn ∧
    (accumulate s).ktr = s.ktr ∧ (accumulate s).ptr = s.ptr ∧ (accumulate s).rlc = s.rlc ∧
    (accumulate s).vdp = s.vdp ∧ (accumulate s).hpm = s.hpm ∧ (accumulate s).mem = s.mem ∧
    (accumulate s).prm = s.prm ∧ (accumulate s).tkr = s.tkr ∧ (accumulate s).lnk = s.lnk ∧
    (accumulate s).pending = s.pending ∧ (accumulate s).now = s.now := by
  simp [accumulate]

@[simp] theorem performPulse_frame (s : State) :
    (performPulse s).resetHeld = s.resetHeld ∧ (performPulse s).par = s.par ∧ (performPulse s).scn = s.scn ∧
    (performPulse s).ktr = s.ktr ∧ (performPulse s).rlc = s.rlc ∧ (performPulse s).mem = s.mem ∧
    (performPulse s).tkr = s.tkr ∧ (performPulse s).pending = s.pending ∧ (performPulse s).now = s.now := by
  simp [performPulse]

@[simp] theorem playbackSweep_frame (s : State) :
    (playbackSweep s).resetHeld = s.resetHeld ∧ (playbackSweep s).par = s.par ∧ (playbackSweep s).scn = s.scn ∧
    (playbackSweep s).ktr = s.ktr ∧ (playbackSweep s).rlc = s.rlc ∧ (playbackSweep s).mem = s.mem ∧
    (playbackSweep s).tkr = s.tkr ∧ (playbackSweep s).pending = s.pending ∧ (playbackSweep s).now = s.now := by
  unfold playbackSweep; (repeat' split) <;> simp

@[simp] theorem placeCursor_frame (place : Nat) (s : State) :
    (placeCursor place s).resetHeld = s.resetHeld ∧ (placeCursor place s).par = s.par ∧
    (placeCursor place s).scn = s.scn ∧ (placeCursor place s).ktr = s.ktr ∧ (placeCursor place s).ptr = s.ptr ∧
    (placeCursor place s).rlc = s.rlc ∧ (placeCursor place s).vdp = s.vdp ∧ (placeCursor place s).hpm = s.hpm ∧
    (placeCursor place s).mem = s.mem ∧ (placeCursor place s).prm = s.prm ∧ (placeCursor place s).tkr = s.tkr ∧
    (placeCursor place s).lnk = s.lnk ∧ (placeCursor place s).pending = s.pending ∧
    (placeCursor place s).now = s.now := by
  simp [placeCursor]

@[simp] theorem afterPlacing_frame (s : State) :
    (afterPlacing s).resetHeld = s.resetHeld ∧ (afterPlacing s).par = s.par ∧ (afterPlacing s).scn = s.scn ∧
    (afterPlacing s).ktr = s.ktr ∧ (afterPlacing s).rlc = s.rlc ∧ (afterPlacing s).hpm = s.hpm ∧
    (afterPlacing s).mem = s.mem ∧ (afterPlacing s).tkr = s.tkr ∧ (afterPlacing s).pending = s.pending ∧
    (afterPlacing s).now = s.now := by
  unfold afterPlacing; (repeat' split) <;> simp


end Sys2Proof.Machine
end

