-- ==== Sys2Proof/Laws/FramesKeys.lean ====
section
/-! SUPPORT. What each operation of KTR, RLC, SCN, HPM and LNK leaves as it is, and each sweep and sample event: one
lemma per operation. -/

namespace Sys2Proof.Machine

/-! ### KTR -/

@[simp] theorem noteStrike_frame (s : State) :
    (noteStrike s).resetHeld = s.resetHeld ∧ (noteStrike s).par = s.par ∧ (noteStrike s).scn = s.scn ∧
    (noteStrike s).ptr = s.ptr ∧ (noteStrike s).rlc = s.rlc ∧ (noteStrike s).vdp = s.vdp ∧
    (noteStrike s).hpm = s.hpm ∧ (noteStrike s).mem = s.mem ∧ (noteStrike s).pbe = s.pbe ∧
    (noteStrike s).prm = s.prm ∧ (noteStrike s).tkr = s.tkr ∧ (noteStrike s).lnk = s.lnk ∧
    (noteStrike s).pending = s.pending ∧ (noteStrike s).now = s.now := by
  simp [noteStrike]

@[simp] theorem deliverStrike_frame (k : Key) (level speed : Nat) (repeated : Bool) (interval : Nat) (s : State) :
    (deliverStrike k level speed repeated interval s).resetHeld = s.resetHeld ∧
    (deliverStrike k level speed repeated interval s).par = s.par ∧
    (deliverStrike k level speed repeated interval s).scn = s.scn ∧
    (deliverStrike k level speed repeated interval s).ptr = s.ptr ∧
    (deliverStrike k level speed repeated interval s).rlc = s.rlc ∧
    (deliverStrike k level speed repeated interval s).hpm = s.hpm ∧
    (deliverStrike k level speed repeated interval s).pending = s.pending ∧
    (deliverStrike k level speed repeated interval s).now = s.now := by
  simp [deliverStrike]

@[simp] theorem deliverRelease_frame (k : Key) (fault : Bool) (s : State) :
    (deliverRelease k fault s).resetHeld = s.resetHeld ∧ (deliverRelease k fault s).par = s.par ∧
    (deliverRelease k fault s).scn = s.scn ∧ (deliverRelease k fault s).ktr = s.ktr ∧
    (deliverRelease k fault s).ptr = s.ptr ∧ (deliverRelease k fault s).rlc = s.rlc ∧
    (deliverRelease k fault s).hpm = s.hpm ∧ (deliverRelease k fault s).pbe = s.pbe ∧
    (deliverRelease k fault s).prm = s.prm ∧ (deliverRelease k fault s).pending = s.pending ∧
    (deliverRelease k fault s).now = s.now := by
  simp [deliverRelease]

@[simp] theorem deliverKeyEvent_frame (k : Key) (s : State) (e : KeyEvent) :
    (deliverKeyEvent k s e).resetHeld = s.resetHeld ∧ (deliverKeyEvent k s e).par = s.par ∧
    (deliverKeyEvent k s e).scn = s.scn ∧ (deliverKeyEvent k s e).ptr = s.ptr ∧
    (deliverKeyEvent k s e).rlc = s.rlc ∧ (deliverKeyEvent k s e).hpm = s.hpm ∧
    (deliverKeyEvent k s e).pending = s.pending ∧ (deliverKeyEvent k s e).now = s.now := by
  cases e <;> simp [deliverKeyEvent]

@[simp] theorem replaceKey_frame (k : Key) (r : KeyRecord) (s : State) :
    (replaceKey k r s).resetHeld = s.resetHeld ∧ (replaceKey k r s).par = s.par ∧ (replaceKey k r s).scn = s.scn ∧
    (replaceKey k r s).ptr = s.ptr ∧ (replaceKey k r s).rlc = s.rlc ∧ (replaceKey k r s).vdp = s.vdp ∧
    (replaceKey k r s).hpm = s.hpm ∧ (replaceKey k r s).mem = s.mem ∧ (replaceKey k r s).pbe = s.pbe ∧
    (replaceKey k r s).prm = s.prm ∧ (replaceKey k r s).tkr = s.tkr ∧ (replaceKey k r s).lnk = s.lnk ∧
    (replaceKey k r s).pending = s.pending ∧ (replaceKey k r s).now = s.now := by
  simp [replaceKey]

@[simp] theorem keyArrival_frame (k : Key) (p : Nat) (s : State) :
    (keyArrival k p s).resetHeld = s.resetHeld ∧ (keyArrival k p s).par = s.par ∧ (keyArrival k p s).scn = s.scn ∧
    (keyArrival k p s).ptr = s.ptr ∧ (keyArrival k p s).rlc = s.rlc ∧ (keyArrival k p s).hpm = s.hpm ∧
    (keyArrival k p s).pending = s.pending ∧ (keyArrival k p s).now = s.now := by
  unfold keyArrival
  refine ⟨?_, ?_, ?_, ?_, ?_, ?_, ?_, ?_⟩ <;> exact (foldl_keeps _ _ (fun _ _ => by simp) _ _).trans (by simp)

@[simp] theorem keyFault_frame (k : Key) (s : State) :
    (keyFault k s).resetHeld = s.resetHeld ∧ (keyFault k s).par = s.par ∧ (keyFault k s).scn = s.scn ∧
    (keyFault k s).ptr = s.ptr ∧ (keyFault k s).rlc = s.rlc ∧ (keyFault k s).hpm = s.hpm ∧
    (keyFault k s).pending = s.pending ∧ (keyFault k s).now = s.now := by
  unfold keyFault; dsimp only; (repeat' split) <;> simp

@[simp] theorem keyRecovery_frame (k : Key) (p : Nat) (s : State) :
    (keyRecovery k p s).resetHeld = s.resetHeld ∧ (keyRecovery k p s).par = s.par ∧
    (keyRecovery k p s).scn = s.scn ∧ (keyRecovery k p s).ptr = s.ptr ∧ (keyRecovery k p s).rlc = s.rlc ∧
    (keyRecovery k p s).vdp = s.vdp ∧ (keyRecovery k p s).hpm = s.hpm ∧ (keyRecovery k p s).mem = s.mem ∧
    (keyRecovery k p s).pbe = s.pbe ∧ (keyRecovery k p s).prm = s.prm ∧ (keyRecovery k p s).tkr = s.tkr ∧
    (keyRecovery k p s).lnk = s.lnk ∧ (keyRecovery k p s).pending = s.pending ∧ (keyRecovery k p s).now = s.now := by
  unfold keyRecovery; (repeat' split) <;> simp

@[simp] theorem expireGate_frame (k : Key) (s : State) :
    (expireGate k s).resetHeld = s.resetHeld ∧ (expireGate k s).par = s.par ∧ (expireGate k s).scn = s.scn ∧
    (expireGate k s).ptr = s.ptr ∧ (expireGate k s).rlc = s.rlc ∧ (expireGate k s).vdp = s.vdp ∧
    (expireGate k s).hpm = s.hpm ∧ (expireGate k s).mem = s.mem ∧ (expireGate k s).pbe = s.pbe ∧
    (expireGate k s).prm = s.prm ∧ (expireGate k s).tkr = s.tkr ∧ (expireGate k s).lnk = s.lnk ∧
    (expireGate k s).pending = s.pending ∧ (expireGate k s).now = s.now := by
  unfold expireGate; dsimp only; (repeat' split) <;> simp

@[simp] theorem expireStrikeAge_frame (s : State) :
    (expireStrikeAge s).resetHeld = s.resetHeld ∧ (expireStrikeAge s).par = s.par ∧
    (expireStrikeAge s).scn = s.scn ∧ (expireStrikeAge s).ptr = s.ptr ∧ (expireStrikeAge s).rlc = s.rlc ∧
    (expireStrikeAge s).vdp = s.vdp ∧ (expireStrikeAge s).hpm = s.hpm ∧ (expireStrikeAge s).mem = s.mem ∧
    (expireStrikeAge s).pbe = s.pbe ∧ (expireStrikeAge s).prm = s.prm ∧ (expireStrikeAge s).tkr = s.tkr ∧
    (expireStrikeAge s).lnk = s.lnk ∧ (expireStrikeAge s).pending = s.pending ∧ (expireStrikeAge s).now = s.now := by
  unfold expireStrikeAge; (repeat' split) <;> simp


/-! ### RLC -/

@[simp] theorem enterRail_frame (st : RailState) (s : State) :
    (enterRail st s).resetHeld = s.resetHeld ∧ (enterRail st s).par = s.par ∧ (enterRail st s).scn = s.scn ∧
    (enterRail st s).ktr = s.ktr ∧ (enterRail st s).ptr = s.ptr ∧ (enterRail st s).vdp = s.vdp ∧
    (enterRail st s).hpm = s.hpm ∧ (enterRail st s).mem = s.mem ∧ (enterRail st s).pbe = s.pbe ∧
    (enterRail st s).prm = s.prm ∧ (enterRail st s).tkr = s.tkr ∧ (enterRail st s).lnk = s.lnk ∧
    (enterRail st s).pending = s.pending ∧ (enterRail st s).now = s.now := by
  simp [enterRail]

@[simp] theorem railReport_frame (outcome : RailOutcome) (cause : RailCause) (target : Option RailTarget) (s : State) :
    (railReport outcome cause target s).resetHeld = s.resetHeld ∧ (railReport outcome cause target s).par = s.par ∧
    (railReport outcome cause target s).scn = s.scn ∧ (railReport outcome cause target s).ktr = s.ktr ∧
    (railReport outcome cause target s).ptr = s.ptr ∧ (railReport outcome cause target s).rlc = s.rlc ∧
    (railReport outcome cause target s).vdp = s.vdp ∧ (railReport outcome cause target s).hpm = s.hpm ∧
    (railReport outcome cause target s).mem = s.mem ∧ (railReport outcome cause target s).pbe = s.pbe ∧
    (railReport outcome cause target s).prm = s.prm ∧ (railReport outcome cause target s).tkr = s.tkr ∧
    (railReport outcome cause target s).pending = s.pending ∧ (railReport outcome cause target s).now = s.now := by
  simp [railReport]

@[simp] theorem startMove_frame (target : RailTarget) (s : State) :
    (startMove target s).resetHeld = s.resetHeld ∧ (startMove target s).par = s.par ∧
    (startMove target s).scn = s.scn ∧ (startMove target s).ktr = s.ktr ∧ (startMove target s).ptr = s.ptr ∧
    (startMove target s).vdp = s.vdp ∧ (startMove target s).hpm = s.hpm ∧ (startMove target s).mem = s.mem ∧
    (startMove target s).pbe = s.pbe ∧ (startMove target s).prm = s.prm ∧ (startMove target s).tkr = s.tkr ∧
    (startMove target s).pending = s.pending ∧ (startMove target s).now = s.now := by
  simp [startMove]

@[simp] theorem startWait_frame (target : RailTarget) (origin : WaitOrigin) (s : State) :
    (startWait target origin s).resetHeld = s.resetHeld ∧ (startWait target origin s).par = s.par ∧
    (startWait target origin s).scn = s.scn ∧ (startWait target origin s).ktr = s.ktr ∧
    (startWait target origin s).ptr = s.ptr ∧ (startWait target origin s).vdp = s.vdp ∧
    (startWait target origin s).hpm = s.hpm ∧ (startWait target origin s).mem = s.mem ∧
    (startWait target origin s).pbe = s.pbe ∧ (startWait target origin s).prm = s.prm ∧
    (startWait target origin s).tkr = s.tkr ∧ (startWait target origin s).pending = s.pending ∧
    (startWait target origin s).now = s.now := by
  simp [startWait]

@[simp] theorem endWait_frame (outcome : RailOutcome) (cause : RailCause) (s : State) :
    (endWait outcome cause s).resetHeld = s.resetHeld ∧ (endWait outcome cause s).par = s.par ∧
    (endWait outcome cause s).scn = s.scn ∧ (endWait outcome cause s).ktr = s.ktr ∧
    (endWait outcome cause s).ptr = s.ptr ∧ (endWait outcome cause s).vdp = s.vdp ∧
    (endWait outcome cause s).hpm = s.hpm ∧ (endWait outcome cause s).mem = s.mem ∧
    (endWait outcome cause s).pbe = s.pbe ∧ (endWait outcome cause s).prm = s.prm ∧
    (endWait outcome cause s).tkr = s.tkr ∧ (endWait outcome cause s).pending = s.pending ∧
    (endWait outcome cause s).now = s.now := by
  unfold endWait; dsimp only; (repeat' split) <;> simp

@[simp] theorem haltRail_frame (cause : RailCause) (s : State) :
    (haltRail cause s).resetHeld = s.resetHeld ∧ (haltRail cause s).par = s.par ∧ (haltRail cause s).scn = s.scn ∧
    (haltRail cause s).ktr = s.ktr ∧ (haltRail cause s).ptr = s.ptr ∧ (haltRail cause s).vdp = s.vdp ∧
    (haltRail cause s).hpm = s.hpm ∧ (haltRail cause s).mem = s.mem ∧ (haltRail cause s).pbe = s.pbe ∧
    (haltRail cause s).prm = s.prm ∧ (haltRail cause s).tkr = s.tkr ∧ (haltRail cause s).pending = s.pending ∧
    (haltRail cause s).now = s.now := by
  simp [haltRail]

@[simp] theorem driftHalt_frame (s : State) :
    (driftHalt s).resetHeld = s.resetHeld ∧ (driftHalt s).par = s.par ∧ (driftHalt s).scn = s.scn ∧
    (driftHalt s).ktr = s.ktr ∧ (driftHalt s).ptr = s.ptr ∧ (driftHalt s).vdp = s.vdp ∧ (driftHalt s).hpm = s.hpm ∧
    (driftHalt s).mem = s.mem ∧ (driftHalt s).pbe = s.pbe ∧ (driftHalt s).prm = s.prm ∧ (driftHalt s).tkr = s.tkr ∧
    (driftHalt s).pending = s.pending ∧ (driftHalt s).now = s.now := by
  simp [driftHalt]

@[simp] theorem driftTest_frame (p : Nat) (s : State) :
    (driftTest p s).resetHeld = s.resetHeld ∧ (driftTest p s).par = s.par ∧ (driftTest p s).scn = s.scn ∧
    (driftTest p s).ktr = s.ktr ∧ (driftTest p s).ptr = s.ptr ∧ (driftTest p s).vdp = s.vdp ∧
    (driftTest p s).hpm = s.hpm ∧ (driftTest p s).mem = s.mem ∧ (driftTest p s).pbe = s.pbe ∧
    (driftTest p s).prm = s.prm ∧ (driftTest p s).tkr = s.tkr ∧ (driftTest p s).pending = s.pending ∧
    (driftTest p s).now = s.now := by
  unfold driftTest; dsimp only; (repeat' split) <;> simp

@[simp] theorem deriveRail_frame (p : Nat) (s : State) :
    (deriveRail p s).resetHeld = s.resetHeld ∧ (deriveRail p s).par = s.par ∧ (deriveRail p s).scn = s.scn ∧
    (deriveRail p s).ktr = s.ktr ∧ (deriveRail p s).ptr = s.ptr ∧ (deriveRail p s).vdp = s.vdp ∧
    (deriveRail p s).hpm = s.hpm ∧ (deriveRail p s).mem = s.mem ∧ (deriveRail p s).pbe = s.pbe ∧
    (deriveRail p s).prm = s.prm ∧ (deriveRail p s).tkr = s.tkr ∧ (deriveRail p s).pending = s.pending ∧
    (deriveRail p s).now = s.now := by
  simp [deriveRail]

@[simp] theorem completeMove_frame (st : RailState) (s : State) :
    (completeMove st s).resetHeld = s.resetHeld ∧ (completeMove st s).par = s.par ∧
    (completeMove st s).scn = s.scn ∧ (completeMove st s).ktr = s.ktr ∧ (completeMove st s).ptr = s.ptr ∧
    (completeMove st s).vdp = s.vdp ∧ (completeMove st s).hpm = s.hpm ∧ (completeMove st s).mem = s.mem ∧
    (completeMove st s).pbe = s.pbe ∧ (completeMove st s).prm = s.prm ∧ (completeMove st s).tkr = s.tkr ∧
    (completeMove st s).pending = s.pending ∧ (completeMove st s).now = s.now := by
  simp [completeMove]

@[simp] theorem testRail_frame (p : Nat) (s : State) :
    (testRail p s).resetHeld = s.resetHeld ∧ (testRail p s).par = s.par ∧ (testRail p s).scn = s.scn ∧
    (testRail p s).ktr = s.ktr ∧ (testRail p s).ptr = s.ptr ∧ (testRail p s).vdp = s.vdp ∧
    (testRail p s).hpm = s.hpm ∧ (testRail p s).mem = s.mem ∧ (testRail p s).pbe = s.pbe ∧
    (testRail p s).prm = s.prm ∧ (testRail p s).tkr = s.tkr ∧ (testRail p s).pending = s.pending ∧
    (testRail p s).now = s.now := by
  unfold testRail; (repeat' split) <;> simp

@[simp] theorem railArrival_frame (p : Nat) (s : State) :
    (railArrival p s).resetHeld = s.resetHeld ∧ (railArrival p s).par = s.par ∧ (railArrival p s).scn = s.scn ∧
    (railArrival p s).ktr = s.ktr ∧ (railArrival p s).ptr = s.ptr ∧ (railArrival p s).vdp = s.vdp ∧
    (railArrival p s).hpm = s.hpm ∧ (railArrival p s).mem = s.mem ∧ (railArrival p s).pbe = s.pbe ∧
    (railArrival p s).prm = s.prm ∧ (railArrival p s).tkr = s.tkr ∧ (railArrival p s).pending = s.pending ∧
    (railArrival p s).now = s.now := by
  simp [railArrival]

@[simp] theorem railFault_frame (s : State) :
    (railFault s).resetHeld = s.resetHeld ∧ (railFault s).par = s.par ∧ (railFault s).scn = s.scn ∧
    (railFault s).ktr = s.ktr ∧ (railFault s).ptr = s.ptr ∧ (railFault s).vdp = s.vdp ∧ (railFault s).hpm = s.hpm ∧
    (railFault s).mem = s.mem ∧ (railFault s).pbe = s.pbe ∧ (railFault s).prm = s.prm ∧ (railFault s).tkr = s.tkr ∧
    (railFault s).pending = s.pending ∧ (railFault s).now = s.now := by
  unfold railFault; dsimp only; (repeat' split) <;> simp

@[simp] theorem railRecovery_frame (p : Nat) (s : State) :
    (railRecovery p s).resetHeld = s.resetHeld ∧ (railRecovery p s).par = s.par ∧ (railRecovery p s).scn = s.scn ∧
    (railRecovery p s).ktr = s.ktr ∧ (railRecovery p s).ptr = s.ptr ∧ (railRecovery p s).vdp = s.vdp ∧
    (railRecovery p s).hpm = s.hpm ∧ (railRecovery p s).mem = s.mem ∧ (railRecovery p s).pbe = s.pbe ∧
    (railRecovery p s).prm = s.prm ∧ (railRecovery p s).tkr = s.tkr ∧ (railRecovery p s).pending = s.pending ∧
    (railRecovery p s).now = s.now := by
  unfold railRecovery; dsimp only; (repeat' split) <;> simp

@[simp] theorem requestFromRest_frame (target : RailTarget) (origin : WaitOrigin) (s : State) :
    (requestFromRest target origin s).resetHeld = s.resetHeld ∧ (requestFromRest target origin s).par = s.par ∧
    (requestFromRest target origin s).scn = s.scn ∧ (requestFromRest target origin s).ktr = s.ktr ∧
    (requestFromRest target origin s).ptr = s.ptr ∧ (requestFromRest target origin s).vdp = s.vdp ∧
    (requestFromRest target origin s).hpm = s.hpm ∧ (requestFromRest target origin s).mem = s.mem ∧
    (requestFromRest target origin s).pbe = s.pbe ∧ (requestFromRest target origin s).prm = s.prm ∧
    (requestFromRest target origin s).tkr = s.tkr ∧ (requestFromRest target origin s).pending = s.pending ∧
    (requestFromRest target origin s).now = s.now := by
  unfold requestFromRest; dsimp only; (repeat' split) <;> simp

@[simp] theorem reverseMove_frame (target : RailTarget) (s : State) :
    (reverseMove target s).resetHeld = s.resetHeld ∧ (reverseMove target s).par = s.par ∧
    (reverseMove target s).scn = s.scn ∧ (reverseMove target s).ktr = s.ktr ∧ (reverseMove target s).ptr = s.ptr ∧
    (reverseMove target s).vdp = s.vdp ∧ (reverseMove target s).hpm = s.hpm ∧ (reverseMove target s).mem = s.mem ∧
    (reverseMove target s).pbe = s.pbe ∧ (reverseMove target s).prm = s.prm ∧ (reverseMove target s).tkr = s.tkr ∧
    (reverseMove target s).pending = s.pending ∧ (reverseMove target s).now = s.now := by
  simp [reverseMove]

@[simp] theorem railRequest_frame (target : RailTarget) (s : State) :
    (railRequest target s).resetHeld = s.resetHeld ∧ (railRequest target s).par = s.par ∧
    (railRequest target s).scn = s.scn ∧ (railRequest target s).ktr = s.ktr ∧ (railRequest target s).ptr = s.ptr ∧
    (railRequest target s).vdp = s.vdp ∧ (railRequest target s).hpm = s.hpm ∧ (railRequest target s).mem = s.mem ∧
    (railRequest target s).pbe = s.pbe ∧ (railRequest target s).prm = s.prm ∧ (railRequest target s).tkr = s.tkr ∧
    (railRequest target s).pending = s.pending ∧ (railRequest target s).now = s.now := by
  unfold railRequest; (repeat' split) <;> simp

@[simp] theorem expireRailWait_frame (s : State) :
    (expireRailWait s).resetHeld = s.resetHeld ∧ (expireRailWait s).par = s.par ∧ (expireRailWait s).scn = s.scn ∧
    (expireRailWait s).ktr = s.ktr ∧ (expireRailWait s).ptr = s.ptr ∧ (expireRailWait s).vdp = s.vdp ∧
    (expireRailWait s).hpm = s.hpm ∧ (expireRailWait s).mem = s.mem ∧ (expireRailWait s).pbe = s.pbe ∧
    (expireRailWait s).prm = s.prm ∧ (expireRailWait s).tkr = s.tkr ∧ (expireRailWait s).pending = s.pending ∧
    (expireRailWait s).now = s.now := by
  unfold expireRailWait; (repeat' split) <;> simp

@[simp] theorem expireRailMove_frame (s : State) :
    (expireRailMove s).resetHeld = s.resetHeld ∧ (expireRailMove s).par = s.par ∧ (expireRailMove s).scn = s.scn ∧
    (expireRailMove s).ktr = s.ktr ∧ (expireRailMove s).ptr = s.ptr ∧ (expireRailMove s).vdp = s.vdp ∧
    (expireRailMove s).hpm = s.hpm ∧ (expireRailMove s).mem = s.mem ∧ (expireRailMove s).pbe = s.pbe ∧
    (expireRailMove s).prm = s.prm ∧ (expireRailMove s).tkr = s.tkr ∧ (expireRailMove s).pending = s.pending ∧
    (expireRailMove s).now = s.now := by
  unfold expireRailMove; dsimp only; (repeat' split) <;> simp


/-! ### SCN -/

@[simp] theorem watchGather_frame (c : Channel) (r : Raw) (s : State) :
    (watchGather c r s).resetHeld = s.resetHeld ∧ (watchGather c r s).par = s.par ∧
    (watchGather c r s).ktr = s.ktr ∧ (watchGather c r s).ptr = s.ptr ∧ (watchGather c r s).rlc = s.rlc ∧
    (watchGather c r s).vdp = s.vdp ∧ (watchGather c r s).hpm = s.hpm ∧ (watchGather c r s).mem = s.mem ∧
    (watchGather c r s).pbe = s.pbe ∧ (watchGather c r s).prm = s.prm ∧ (watchGather c r s).tkr = s.tkr ∧
    (watchGather c r s).pending = s.pending := by
  unfold watchGather; dsimp only; (repeat' split) <;> simp

@[simp] theorem closeWatch_frame (s : State) :
    (closeWatch s).resetHeld = s.resetHeld ∧ (closeWatch s).par = s.par ∧ (closeWatch s).ktr = s.ktr ∧
    (closeWatch s).ptr = s.ptr ∧ (closeWatch s).rlc = s.rlc ∧ (closeWatch s).vdp = s.vdp ∧
    (closeWatch s).hpm = s.hpm ∧ (closeWatch s).mem = s.mem ∧ (closeWatch s).pbe = s.pbe ∧
    (closeWatch s).prm = s.prm ∧ (closeWatch s).tkr = s.tkr ∧ (closeWatch s).pending = s.pending := by
  unfold closeWatch; (repeat' split) <;> simp

@[simp] theorem deliverSample_frame (c : Channel) (p : Nat) (s : State) :
    (deliverSample c p s).resetHeld = s.resetHeld ∧ (deliverSample c p s).par = s.par ∧
    (deliverSample c p s).scn = s.scn ∧ (deliverSample c p s).hpm = s.hpm ∧
    (deliverSample c p s).pending = s.pending ∧ (deliverSample c p s).now = s.now := by
  unfold deliverSample; (repeat' split) <;> simp

@[simp] theorem deliverFault_frame (c : Channel) (s : State) :
    (deliverFault c s).resetHeld = s.resetHeld ∧ (deliverFault c s).par = s.par ∧ (deliverFault c s).scn = s.scn ∧
    (deliverFault c s).hpm = s.hpm ∧ (deliverFault c s).pending = s.pending ∧ (deliverFault c s).now = s.now := by
  unfold deliverFault; (repeat' split) <;> simp

@[simp] theorem deliverRecovery_frame (c : Channel) (p : Nat) (s : State) :
    (deliverRecovery c p s).resetHeld = s.resetHeld ∧ (deliverRecovery c p s).par = s.par ∧
    (deliverRecovery c p s).scn = s.scn ∧ (deliverRecovery c p s).hpm = s.hpm ∧
    (deliverRecovery c p s).pending = s.pending ∧ (deliverRecovery c p s).now = s.now := by
  unfold deliverRecovery; (repeat' split) <;> simp

@[simp] theorem faultChannel_frame (c : Channel) (r : Raw) (s : State) :
    (faultChannel c r s).resetHeld = s.resetHeld ∧ (faultChannel c r s).par = s.par ∧
    (faultChannel c r s).hpm = s.hpm ∧ (faultChannel c r s).pending = s.pending := by
  simp [faultChannel]

@[simp] theorem recoverChannel_frame (c : Channel) (r : Raw) (s : State) :
    (recoverChannel c r s).resetHeld = s.resetHeld ∧ (recoverChannel c r s).par = s.par ∧
    (recoverChannel c r s).hpm = s.hpm ∧ (recoverChannel c r s).pending = s.pending := by
  simp [recoverChannel]

@[simp] theorem judgeOk_frame (c : Channel) (r : Raw) (s : State) :
    (judgeOk c r s).resetHeld = s.resetHeld ∧ (judgeOk c r s).par = s.par ∧ (judgeOk c r s).hpm = s.hpm ∧
    (judgeOk c r s).pending = s.pending := by
  unfold judgeOk; dsimp only; (repeat' split) <;> simp

@[simp] theorem judgeFaulted_frame (c : Channel) (r : Raw) (s : State) :
    (judgeFaulted c r s).resetHeld = s.resetHeld ∧ (judgeFaulted c r s).par = s.par ∧
    (judgeFaulted c r s).hpm = s.hpm ∧ (judgeFaulted c r s).pending = s.pending := by
  unfold judgeFaulted; dsimp only; (repeat' split) <;> simp

@[simp] theorem convert_frame (c : Channel) (r : Raw) (s : State) :
    (convert c r s).resetHeld = s.resetHeld ∧ (convert c r s).par = s.par ∧ (convert c r s).hpm = s.hpm ∧
    (convert c r s).pending = s.pending := by
  unfold convert; dsimp only; (repeat' split) <;> simp


/-! ### Sweeps -/

@[simp] theorem dropFrame_frame (s : State) :
    (dropFrame s).resetHeld = s.resetHeld ∧ (dropFrame s).par = s.par ∧ (dropFrame s).scn = s.scn ∧
    (dropFrame s).ktr = s.ktr ∧ (dropFrame s).ptr = s.ptr ∧ (dropFrame s).rlc = s.rlc ∧ (dropFrame s).vdp = s.vdp ∧
    (dropFrame s).hpm = s.hpm ∧ (dropFrame s).mem = s.mem ∧ (dropFrame s).pbe = s.pbe ∧ (dropFrame s).prm = s.prm ∧
    (dropFrame s).tkr = s.tkr ∧ (dropFrame s).pending = s.pending ∧ (dropFrame s).now = s.now := by
  simp [dropFrame]

@[simp] theorem receiverTo_frame (rx : Rx) (s : State) :
    (receiverTo rx s).resetHeld = s.resetHeld ∧ (receiverTo rx s).par = s.par ∧ (receiverTo rx s).scn = s.scn ∧
    (receiverTo rx s).ktr = s.ktr ∧ (receiverTo rx s).ptr = s.ptr ∧ (receiverTo rx s).rlc = s.rlc ∧
    (receiverTo rx s).vdp = s.vdp ∧ (receiverTo rx s).hpm = s.hpm ∧ (receiverTo rx s).mem = s.mem ∧
    (receiverTo rx s).pbe = s.pbe ∧ (receiverTo rx s).prm = s.prm ∧ (receiverTo rx s).tkr = s.tkr ∧
    (receiverTo rx s).pending = s.pending ∧ (receiverTo rx s).now = s.now := by
  simp [receiverTo]

@[simp] theorem receiverDone_frame (s : State) :
    (receiverDone s).resetHeld = s.resetHeld ∧ (receiverDone s).par = s.par ∧ (receiverDone s).scn = s.scn ∧
    (receiverDone s).ktr = s.ktr ∧ (receiverDone s).ptr = s.ptr ∧ (receiverDone s).rlc = s.rlc ∧
    (receiverDone s).vdp = s.vdp ∧ (receiverDone s).hpm = s.hpm ∧ (receiverDone s).mem = s.mem ∧
    (receiverDone s).pbe = s.pbe ∧ (receiverDone s).prm = s.prm ∧ (receiverDone s).tkr = s.tkr ∧
    (receiverDone s).pending = s.pending ∧ (receiverDone s).now = s.now := by
  simp [receiverDone]

@[simp] theorem expireInterByte_frame (s : State) :
    (expireInterByte s).resetHeld = s.resetHeld ∧ (expireInterByte s).par = s.par ∧
    (expireInterByte s).scn = s.scn ∧ (expireInterByte s).ktr = s.ktr ∧ (expireInterByte s).ptr = s.ptr ∧
    (expireInterByte s).rlc = s.rlc ∧ (expireInterByte s).vdp = s.vdp ∧ (expireInterByte s).hpm = s.hpm ∧
    (expireInterByte s).mem = s.mem ∧ (expireInterByte s).pbe = s.pbe ∧ (expireInterByte s).prm = s.prm ∧
    (expireInterByte s).tkr = s.tkr ∧ (expireInterByte s).pending = s.pending ∧ (expireInterByte s).now = s.now := by
  unfold expireInterByte; (repeat' split) <;> simp

@[simp] theorem takeOwedExpiries_frame (s : State) :
    (takeOwedExpiries s).resetHeld = s.resetHeld ∧ (takeOwedExpiries s).par = s.par ∧
    (takeOwedExpiries s).scn = s.scn ∧ (takeOwedExpiries s).ptr = s.ptr ∧ (takeOwedExpiries s).vdp = s.vdp ∧
    (takeOwedExpiries s).hpm = s.hpm ∧ (takeOwedExpiries s).mem = s.mem ∧ (takeOwedExpiries s).pbe = s.pbe ∧
    (takeOwedExpiries s).prm = s.prm ∧ (takeOwedExpiries s).tkr = s.tkr ∧
    (takeOwedExpiries s).pending = s.pending ∧ (takeOwedExpiries s).now = s.now := by
  unfold takeOwedExpiries
  simp only [expireInterByte_frame, expireRailMove_frame, expireRailWait_frame, expireStrikeAge_frame]
  refine ⟨?_, ?_, ?_, ?_, ?_, ?_, ?_, ?_, ?_, ?_, ?_, ?_⟩ <;> exact foldl_keeps _ _ (fun _ _ => by simp) _ _

@[simp] theorem countWarmup_frame (s : State) :
    (countWarmup s).resetHeld = s.resetHeld ∧ (countWarmup s).par = s.par ∧ (countWarmup s).ktr = s.ktr ∧
    (countWarmup s).ptr = s.ptr ∧ (countWarmup s).rlc = s.rlc ∧ (countWarmup s).vdp = s.vdp ∧
    (countWarmup s).hpm = s.hpm ∧ (countWarmup s).mem = s.mem ∧ (countWarmup s).pbe = s.pbe ∧
    (countWarmup s).prm = s.prm ∧ (countWarmup s).tkr = s.tkr ∧ (countWarmup s).lnk = s.lnk ∧
    (countWarmup s).pending = s.pending := by
  unfold countWarmup; (repeat' split) <;> simp

@[simp] theorem advanceSweep_frame (s : State) :
    (advanceSweep s).resetHeld = s.resetHeld ∧ (advanceSweep s).par = s.par ∧ (advanceSweep s).ktr = s.ktr ∧
    (advanceSweep s).ptr = s.ptr ∧ (advanceSweep s).rlc = s.rlc ∧ (advanceSweep s).vdp = s.vdp ∧
    (advanceSweep s).hpm = s.hpm ∧ (advanceSweep s).mem = s.mem ∧ (advanceSweep s).pbe = s.pbe ∧
    (advanceSweep s).prm = s.prm ∧ (advanceSweep s).tkr = s.tkr ∧ (advanceSweep s).lnk = s.lnk ∧
    (advanceSweep s).pending = s.pending := by
  simp [advanceSweep]

@[simp] theorem beginSweep_frame (s : State) :
    (beginSweep s).resetHeld = s.resetHeld ∧ (beginSweep s).par = s.par ∧ (beginSweep s).ptr = s.ptr ∧
    (beginSweep s).vdp = s.vdp ∧ (beginSweep s).hpm = s.hpm ∧ (beginSweep s).mem = s.mem ∧
    (beginSweep s).pbe = s.pbe ∧ (beginSweep s).prm = s.prm ∧ (beginSweep s).tkr = s.tkr ∧
    (beginSweep s).pending = s.pending := by
  unfold beginSweep; dsimp only; (repeat' split) <;> simp

@[simp] theorem takeSamples_frame (samples : List (Channel × Raw)) (s : State) :
    (takeSamples samples s).resetHeld = s.resetHeld ∧ (takeSamples samples s).par = s.par ∧
    (takeSamples samples s).hpm = s.hpm ∧ (takeSamples samples s).pending = s.pending := by
  unfold takeSamples
  refine ⟨?_, ?_, ?_, ?_⟩ <;> exact foldl_keeps _ _ (fun _ _ => by simp) _ _

@[simp] theorem beforePlayback_frame (s : State) :
    (beforePlayback s).resetHeld = s.resetHeld ∧ (beforePlayback s).par = s.par ∧
    (beforePlayback s).hpm = s.hpm ∧ (beforePlayback s).pending = s.pending := by
  unfold beforePlayback; dsimp only; (repeat' split) <;> simp

@[simp] theorem startSweep_frame (s : State) :
    (startSweep s).resetHeld = s.resetHeld ∧ (startSweep s).par = s.par ∧ (startSweep s).pending = s.pending := by
  unfold startSweep; dsimp only; split <;> simp

/-- R1: with no samples before it, PBE's sweep event comes first. -/
theorem startSweep_plain {s : State} (h : s.early = []) :
    startSweep s = practiceSweep (recorderSweep (playbackSweep (beginSweep s))) := by
  simp [startSweep, samplesFirst, beforePlayback, h]

/-- R163: with samples before it, PBE's sweep event comes last. -/
theorem startSweep_after {s : State} {x : Channel × Raw} {xs : List (Channel × Raw)}
    {later : List (List (Channel × Raw))} (h : s.early = (x :: xs) :: later) :
    startSweep s = playbackSweep (takeSamples (x :: xs)
      (linkChoose (practiceSweep (recorderSweep (beginSweep { s with early := later }))))) := by
  simp [startSweep, samplesFirst, beforePlayback, h]

theorem beforePlayback_plain {s : State} (h : s.early = []) : beforePlayback s = beginSweep s := by
  simp [beforePlayback, h]

theorem beforeRecorder_plain {s : State} (h : s.early = []) : beforeRecorder s = playbackSweep (beginSweep s) := by
  simp [beforeRecorder, samplesFirst, beforePlayback, h]


/-! ### HPM -/

@[simp] theorem jackStage_frame (high : Bool) (s : State) :
    (jackStage high s).resetHeld = s.resetHeld ∧ (jackStage high s).par = s.par ∧ (jackStage high s).scn = s.scn ∧
    (jackStage high s).ktr = s.ktr ∧ (jackStage high s).ptr = s.ptr ∧ (jackStage high s).rlc = s.rlc ∧
    (jackStage high s).vdp = s.vdp ∧ (jackStage high s).mem = s.mem ∧ (jackStage high s).pbe = s.pbe ∧
    (jackStage high s).prm = s.prm ∧ (jackStage high s).tkr = s.tkr ∧ (jackStage high s).pending = s.pending ∧
    (jackStage high s).now = s.now := by
  unfold jackStage; dsimp only; (repeat' split) <;> simp

@[simp] theorem gainStage_frame (s : State) :
    (gainStage s).resetHeld = s.resetHeld ∧ (gainStage s).par = s.par ∧ (gainStage s).scn = s.scn ∧
    (gainStage s).ktr = s.ktr ∧ (gainStage s).ptr = s.ptr ∧ (gainStage s).rlc = s.rlc ∧ (gainStage s).vdp = s.vdp ∧
    (gainStage s).mem = s.mem ∧ (gainStage s).pbe = s.pbe ∧ (gainStage s).prm = s.prm ∧ (gainStage s).tkr = s.tkr ∧
    (gainStage s).lnk = s.lnk ∧ (gainStage s).pending = s.pending ∧ (gainStage s).now = s.now := by
  simp [gainStage]

@[simp] theorem limitStage_frame (left right : Int) (s : State) :
    (limitStage left right s).resetHeld = s.resetHeld ∧ (limitStage left right s).par = s.par ∧
    (limitStage left right s).scn = s.scn ∧ (limitStage left right s).ktr = s.ktr ∧
    (limitStage left right s).ptr = s.ptr ∧ (limitStage left right s).rlc = s.rlc ∧
    (limitStage left right s).vdp = s.vdp ∧ (limitStage left right s).mem = s.mem ∧
    (limitStage left right s).pbe = s.pbe ∧ (limitStage left right s).prm = s.prm ∧
    (limitStage left right s).tkr = s.tkr ∧ (limitStage left right s).pending = s.pending ∧
    (limitStage left right s).now = s.now := by
  unfold limitStage; (repeat' split) <;> simp

@[simp] theorem mixStage_frame (l r : Tone) (s : State) :
    (mixStage l r s).resetHeld = s.resetHeld ∧ (mixStage l r s).par = s.par ∧ (mixStage l r s).scn = s.scn ∧
    (mixStage l r s).ktr = s.ktr ∧ (mixStage l r s).ptr = s.ptr ∧ (mixStage l r s).rlc = s.rlc ∧
    (mixStage l r s).vdp = s.vdp ∧ (mixStage l r s).mem = s.mem ∧ (mixStage l r s).pbe = s.pbe ∧
    (mixStage l r s).prm = s.prm ∧ (mixStage l r s).tkr = s.tkr ∧ (mixStage l r s).pending = s.pending ∧
    (mixStage l r s).now = s.now := by
  simp [mixStage]

@[simp] theorem clickStage_frame (s : State) :
    (clickStage s).resetHeld = s.resetHeld ∧ (clickStage s).par = s.par ∧ (clickStage s).scn = s.scn ∧
    (clickStage s).ktr = s.ktr ∧ (clickStage s).ptr = s.ptr ∧ (clickStage s).rlc = s.rlc ∧
    (clickStage s).vdp = s.vdp ∧ (clickStage s).mem = s.mem ∧ (clickStage s).pbe = s.pbe ∧
    (clickStage s).prm = s.prm ∧ (clickStage s).tkr = s.tkr ∧ (clickStage s).lnk = s.lnk ∧
    (clickStage s).pending = s.pending ∧ (clickStage s).now = s.now := by
  simp [clickStage]

@[simp] theorem samplePeriod_frame (f : AudioFrame) (s : State) :
    (samplePeriod f s).resetHeld = s.resetHeld ∧ (samplePeriod f s).par = s.par ∧ (samplePeriod f s).scn = s.scn ∧
    (samplePeriod f s).ktr = s.ktr ∧ (samplePeriod f s).ptr = s.ptr ∧ (samplePeriod f s).rlc = s.rlc ∧
    (samplePeriod f s).vdp = s.vdp ∧ (samplePeriod f s).mem = s.mem ∧ (samplePeriod f s).pbe = s.pbe ∧
    (samplePeriod f s).prm = s.prm ∧ (samplePeriod f s).tkr = s.tkr ∧ (samplePeriod f s).pending = s.pending ∧
    (samplePeriod f s).now = s.now := by
  simp [samplePeriod]


end Sys2Proof.Machine
end

