-- ==== Sys2Proof/Laws/Events.lean ====
section
/-! SUPPORT. What the shared operations of every command do: an event of a running part, the acceptance of an
Action Link command, a report handed to LNK, the voice transmitter's choice, a release evaluation, an append. -/

namespace Sys2Proof.Machine

/-! ### Events and commands -/

/-- An event of a running part: its effect, then the Action Link transmitter's choice (log 4). -/
theorem partEvent_runs {s : State} (h : s.Runs) (f : State → State) : partEvent f s = .next (linkChoose (f s)) := by
  have h' : s.resetHeld = false := h
  simp [partEvent, h']

/-- While RESET_N is asserted an event does nothing (log 6). -/
theorem partEvent_held {s : State} (h : s.resetHeld = true) (f : State → State) : partEvent f s = .next s := by
  simp [partEvent, h]

/-- R189: a command that is taken: its owner's effect, and its one reply at the tail of the reply queue. -/
theorem acceptCommand_takes {s : State} (h : s.Takes) (kind : Byte) (own : State → Answer) :
    partEvent (acceptCommand kind own) s =
      .next (linkChoose (replied kind (own s).code (own s).fields (own s).st)) := by
  obtain ⟨h1, h2⟩ := h
  simp [partEvent, h1, acceptCommand, replyRoom, Config.replyQueueSize, h2, queueReply, replied]

/-- R189: a command before a full reply queue is dropped and counted. -/
theorem acceptCommand_full {s : State} (hr : s.Runs) (h : 4 ≤ s.lnk.replies.length) (kind : Byte)
    (own : State → Answer) :
    partEvent (acceptCommand kind own) s =
      .next (linkChoose { s with lnk := { s.lnk with dropped := saturatingSucc s.lnk.dropped } }) := by
  have hr' : s.resetHeld = false := hr
  simp [partEvent, hr', acceptCommand, replyRoom, Config.replyQueueSize, h.not_gt, State.modLnk]

/-- A command named for what comes about in an event is that event where it comes about. -/
theorem onlyWhen_due {p : State → Bool} {s : State} (h : p s = true) (f : State → State) : onlyWhen p f s = f s := by
  simp [onlyWhen, h]

theorem onlyWhen_not_due {p : State → Bool} {s : State} (h : p s = false) (f : State → State) : onlyWhen p f s = s := by
  simp [onlyWhen, h]

/-! ### Reports (R197, R198) -/

theorem handReport_accepted {r : Report} {s : State} (h : reportAccepted r s = true) :
    handReport r s = s.modLnk fun l => setClassQueue (reportClass r) (classQueue l (reportClass r) ++ [r]) l := by
  simp [handReport, h]

theorem handReport_disabled {r : Report} {s : State} (h : classEnabled s (reportClass r) = false) :
    handReport r s = s := by
  simp [handReport, reportAccepted, h]

theorem handReport_full {r : Report} {s : State} (h : classEnabled s (reportClass r) = true)
    (hf : classCapacity (reportClass r) ≤ (classQueue s.lnk (reportClass r)).length) :
    handReport r s = s.modLnk (reportOverrun (reportClass r)) := by
  simp [handReport, reportAccepted, h, hf.not_gt]

/-- R198: the newest report of a queue is its last. -/
theorem modifyNewest_append (f : Report → Report) (older : List Report) (newest : Report) :
    modifyNewest f (older ++ [newest]) = older ++ [f newest] := by
  induction older with
  | nil => rfl
  | cons a rest ih => cases rest <;> simp_all [modifyNewest]

theorem modifyNewest_length (f : Report → Report) (q : List Report) : (modifyNewest f q).length = q.length := by
  induction q with
  | nil => rfl
  | cons a rest ih => cases rest <;> simp_all [modifyNewest]

/-! ### The transmitters -/

theorem linkChoose_busy {s : State} {f : LinkFrame} (h : s.lnk.tx = some f) : linkChoose s = s := by
  simp [linkChoose, h]

/-- R77: a transmitter that is sending makes no choice. -/
theorem voiceChoose_busy {s : State} {f : VoiceFrame} (h : s.vdp.inFlight = some f) : voiceChoose s = s := by
  simp [voiceChoose, h]

theorem voiceEnqueue_busy {s : State} {f g : VoiceFrame} (h : s.vdp.inFlight = some f) :
    voiceEnqueue g s = pushFrame g s := by
  simp [voiceEnqueue, voiceChoose, pushFrame, h]

/-! ### Release evaluation (R65) -/

/-- A key that is silent or held owes nothing. -/
theorem releaseEval_nothing {k : Key} {s : State} (h : (s.sound k).sounding = false ∨ held s k = true) :
    releaseEval k s = s := by
  rcases h with h | h <;> simp [releaseEval, h]

/-- A sounding key that nothing holds gets its NOTE-OFF while the queue has room. -/
theorem releaseEval_room {k : Key} {s : State} (h1 : (s.sound k).sounding = true) (h2 : held s k = false)
    (h3 : (s.sound k).offPending = false) (h4 : s.vdp.queue.length < 32) :
    releaseEval k s = voiceEnqueue (noteOffFrame s k) (setSound k { s.sound k with sounding := false } s) := by
  simp [releaseEval, h1, h2, h3, Config.voiceQueueSize, h4]

/-- Before a full queue it joins the off-pending set. -/
theorem releaseEval_full {k : Key} {s : State} (h1 : (s.sound k).sounding = true) (h2 : held s k = false)
    (h3 : (s.sound k).offPending = false) (h4 : 32 ≤ s.vdp.queue.length) :
    releaseEval k s = setSound k { s.sound k with offPending := true } s := by
  simp [releaseEval, h1, h2, h3, Config.voiceQueueSize, h4.not_gt]

/-! ### The ring (R180) -/

/-- An append that finds room and leaves some. -/
theorem appendTake_room {e : Entry} {s : State} (h : s.tkr.count + 1 < takeRingSize s) :
    appendTake e s = (writeTake e s).modTkr fun b => { b with count := b.count + 1 } := by
  have hn : ¬ ((writeTake e s).tkr.count + 1 = takeRingSize s) := by
    show ¬ (s.tkr.count + 1 = takeRingSize s)
    omega
  unfold appendTake
  rw [if_pos (by omega)]
  exact if_neg fun hh => hn hh.1

/-- In RING mode a full ring loses its oldest entry. -/
theorem appendTake_full {e : Entry} {s : State} (h : takeRingSize s ≤ s.tkr.count) (hm : s.par.takeMode ≠ 1) :
    appendTake e s = (writeTake e s).modTkr fun b =>
      { b with oldest := (b.oldest + 1) % takeRingSize s, overwrites := saturatingSucc b.overwrites } := by
  unfold appendTake
  rw [if_neg (by omega), if_neg hm]

/-- R174: the fields of the entry TKR writes. -/
theorem takeEntry_takeBytes {delta kind first second : Nat} (h1 : delta < 4096) (h2 : kind < 8) (h3 : first < 128)
    (h4 : second < 128) : takeEntry (takeBytes delta kind first second) = ⟨delta, kind, first, second⟩ := by
  simp [takeEntry, takeBytes, byteOf, BitVec.toNat_ofNat]
  omega

end Sys2Proof.Machine
end

