-- ==== Sys2Proof/Laws/Lines.lean ====
section
/-! SUPPORT. What the bit times of the lines carry: a number read from its bits (R185, R101) and the periods of a slot of
the audio ports (R101). -/

namespace Sys2Proof.Machine

theorem bitsValue_cons (b : Bool) (bits : List Bool) : bitsValue (b :: bits) = 2 * bitsValue bits + b.toNat := by
  cases b
  · simp [bitsValue]
  · simp only [bitsValue, List.foldr_cons, if_true, Bool.toNat_true]
    omega

/-- Bit i of the number whose bits are given. -/
theorem bitsValue_testBit (bits : List Bool) (i : Nat) : (bitsValue bits).testBit i = bits[i]?.getD false := by
  induction bits generalizing i with
  | nil => simp [bitsValue]
  | cons b rest ih =>
    rw [bitsValue_cons]
    cases i with
    | zero => cases b <;> simp [Nat.testBit_zero]
    | succ n =>
      have half : (2 * bitsValue rest + b.toNat) / 2 = bitsValue rest := by
        have small : b.toNat < 2 := by cases b <;> decide
        omega
      rw [Nat.testBit_succ, half, ih, List.getElem?_cons_succ]

@[simp] theorem slotBits_length (t : Tone) : (slotBits t).length = 32 := by simp [slotBits]

/-- R101: the bit periods of a slot: the sample in periods 1 to 24, its most significant bit first, low elsewhere. -/
theorem slotBits_getElem? (t : Tone) (i : Nat) (h : i < 32) :
    (slotBits t)[i]? = some (decide (1 ≤ i ∧ i ≤ 24) && t.getMsbD (i - 1)) := by
  unfold slotBits
  rcases Nat.eq_zero_or_pos i with rfl | h0
  · simp
  · obtain ⟨j, rfl⟩ : ∃ j, i = j + 1 := ⟨i - 1, by omega⟩
    rw [List.cons_append, List.getElem?_cons_succ]
    rcases Nat.lt_or_ge j 24 with hj | hj
    · rw [List.getElem?_append_left (by simpa using hj), List.getElem?_map, List.getElem?_range hj]
      simp
      omega
    · rw [List.getElem?_append_right (by simpa using hj), List.getElem?_replicate_of_lt (by simp; omega)]
      simp
      omega

@[simp] theorem audioFramePeriods_length (left right : Tone) : (audioFramePeriods left right).length = 64 := by
  simp [audioFramePeriods]

end Sys2Proof.Machine
end

