-- ==== Sys2Proof/Laws/Sweep.lean ====
section
/-! SUPPORT. The start of a sweep for a score: what PBE's sweep event does with and without a pulse, and a run whose
first entry is no navigation entry. The pulse modulus is generalized before anything is unfolded: the elaborator
must not unfold a subtraction of 500,000. -/

namespace Sys2Proof.Machine

/-- R135: with a pulse due, PBE's sweep event is that pulse. -/
theorem playbackSweep_pulse {s : State} (h1 : s.pbe.state = .running) (h2 : s.pbe.source = .score)
    (h3 : 500000 ≤ s.pbe.acc + s.pbe.tempo * s.par.tempoScale) : playbackSweep s = performPulse s := by
  unfold playbackSweep; rw [h1, h2]; exact if_pos h3

/-- R135: with none due, A gains and nothing else changes. -/
theorem playbackSweep_gain {s : State} (h1 : s.pbe.state = .running) (h2 : s.pbe.source = .score)
    (h3 : s.pbe.acc + s.pbe.tempo * s.par.tempoScale < 500000) : playbackSweep s = accumulate s := by
  unfold playbackSweep; rw [h1, h2]; exact if_neg (not_le.2 h3)

/-- R141: the beat test changes the beat pulse count, the bar position and the mixer's click, and nothing else. -/
theorem beatTest_pbe (s : State) : (beatTest s).pbe =
    { s.pbe with beatPulse := (beatTest s).pbe.beatPulse, barPosition := (beatTest s).pbe.barPosition } := by
  unfold beatTest beat; dsimp only; (repeat' split) <;> rfl

theorem countDown_pbe (s : State) : (countDown s).pbe = { s.pbe with countdown := s.pbe.countdown - 1 } := rfl

/-- The state a pulse brings to its unit. -/
def atUnit (m : Nat) (s : State) : State := beatTest (s.modPbe fun b => { b with acc := b.acc + pulseGain s - m })

theorem performPulse_eq (s : State) : performPulse s = playUnit (atUnit Config.pulseModulus s) := rfl

/-- What the unit of a pulse finds, for every modulus. -/
theorem atUnit_pbe (m : Nat) (s : State) : (atUnit m s).pbe =
    { s.pbe with
      acc := s.pbe.acc + s.pbe.tempo * s.par.tempoScale - m
      beatPulse := (atUnit m s).pbe.beatPulse
      barPosition := (atUnit m s).pbe.barPosition } := beatTest_pbe _

theorem atUnit_frame (m : Nat) (s : State) :
    (atUnit m s).resetHeld = s.resetHeld ∧ (atUnit m s).par = s.par ∧ (atUnit m s).scn = s.scn ∧
    (atUnit m s).ktr = s.ktr ∧ (atUnit m s).ptr = s.ptr ∧ (atUnit m s).rlc = s.rlc ∧ (atUnit m s).vdp = s.vdp ∧
    (atUnit m s).mem = s.mem ∧ (atUnit m s).prm = s.prm ∧ (atUnit m s).tkr = s.tkr ∧ (atUnit m s).lnk = s.lnk := by
  unfold atUnit; simp

/-- R141: the beat pulse count and the bar position a pulse leaves. -/
theorem atUnit_beat (m : Nat) (s : State) :
    (atUnit m s).pbe.beatPulse = (if 96 ≤ s.pbe.beatPulse + 1 then 0 else s.pbe.beatPulse + 1) ∧
    (atUnit m s).pbe.barPosition =
      (if s.pbe.beatPulse = 0 then
        (if s.par.beatsPerBar ≤ s.pbe.barPosition + 1 then 0 else s.pbe.barPosition + 1)
      else s.pbe.barPosition) := by
  by_cases h : s.pbe.beatPulse = 0 <;> by_cases hm : s.par.metroMode = 2 <;>
    simp [atUnit, beatTest, beat, h, hm, Config.pulsesPerBeat]

/-- R137: a unit that leaves the countdown at 0 performs a run. -/
theorem playUnit_run {s : State} (h : s.pbe.countdown ≤ 1) : playUnit s = performRun (countDown s) := by
  unfold playUnit
  apply if_pos
  rw [countDown_pbe]
  exact Nat.sub_eq_zero_of_le h

/-- R137: a unit above 1 only counts down. -/
theorem playUnit_count {s : State} (h : 1 < s.pbe.countdown) : playUnit s = countDown s := by
  unfold playUnit
  apply if_neg
  rw [countDown_pbe]
  show ¬ s.pbe.countdown - 1 = 0
  omega

/-- R146: a run in which no group was handed to PRM ends with nothing more. -/
theorem endGroup_none {s : State} (h : s.prm.groupKeys = []) : endGroup s = s := by
  have hp : { s.prm with groupKeys := [] } = s.prm := by rw [← h]
  have he : endGroup s = { s with prm := { s.prm with groupKeys := [] } } := by
    simp only [endGroup, h]; rfl
  rw [he, hp]

theorem scoreRun_succ {n : Nat} {s : State} (h : (scoreAt s s.pbe.cursor).isNavigation = false) :
    scoreRun (n + 1) s =
      if runGoesOn (scoreStep (scoreAt s s.pbe.cursor) s) then scoreRun n (scoreStep (scoreAt s s.pbe.cursor) s)
      else scoreStep (scoreAt s s.pbe.cursor) s := by
  conv_lhs => unfold scoreRun
  dsimp only
  rw [if_neg (by rw [h]; exact Bool.false_ne_true)]

/-- R137: a run of one entry that is no navigation entry. -/
theorem scoreRun_one {s : State} (h : (scoreAt s s.pbe.cursor).isNavigation = false)
    (hg : runGoesOn (scoreStep (scoreAt s s.pbe.cursor) s) = false) :
    scoreRun Config.runPlaces s = scoreStep (scoreAt s s.pbe.cursor) s := by
  show scoreRun (63 + 1) s = _
  rw [scoreRun_succ h, hg]; rfl

/-- The blocks that the end of a sweep leaves for PBE as they were. -/
theorem beginSweep_keeps (s : State) :
    (beginSweep s).resetHeld = s.resetHeld ∧ (beginSweep s).par = s.par ∧ (beginSweep s).pbe = s.pbe ∧
    (beginSweep s).prm = s.prm ∧ (beginSweep s).mem = s.mem ∧ (beginSweep s).vdp = s.vdp ∧
    (beginSweep s).ptr = s.ptr ∧ (beginSweep s).tkr = s.tkr ∧ (beginSweep s).hpm = s.hpm ∧
    (beginSweep s).pending = s.pending := by simp

end Sys2Proof.Machine
end

