-- ==== Sys2Proof/Laws/Places.lean ====
section
/-! SUPPORT. The model's searches say what the statements say: keys quiet, marks, SYNC entries and places. -/

namespace Sys2Proof.Machine

/-- R89. -/
theorem keysQuiet_iff (s : State) : keysQuiet s = true ↔ Quiet s := by
  unfold keysQuiet Quiet
  cases h : s.ktr.lastStrike <;> simp

theorem regionSize_eq (s : State) : regionSize s = scoreSize s := rfl

/-- R173: a ring entry by its offset. -/
theorem windowEntry_eq (s : State) (oldest k : Nat) :
    takeEntry (readEntry s.mem (ringEntryIndex s oldest k)) = windowEntry s oldest k := rfl

/-- R125: the search for a MARK finds the lowest index that holds it. -/
theorem findMark_eq_some {s : State} {mark : Nat} {fuel i j : Nat} : findMark s mark i fuel = some j ↔
    i ≤ j ∧ j < i + fuel ∧ (scoreAt s j).kind = 6 ∧ (scoreAt s j).a = mark ∧
      ∀ l, i ≤ l → l < j → ¬ ((scoreAt s l).kind = 6 ∧ (scoreAt s l).a = mark) := by
  induction fuel generalizing i with
  | zero => simp [findMark]; omega
  | succ n ih =>
    rw [findMark]
    split
    · next h =>
      constructor
      · intro e; cases e; exact ⟨le_refl _, by omega, h.1, h.2, fun l h1 h2 => by omega⟩
      · rintro ⟨h1, _, _, _, h5⟩
        rcases Nat.lt_or_ge i j with hl | hl
        · exact absurd h (h5 i (le_refl _) hl)
        · rw [le_antisymm h1 hl]
    · next h =>
      rw [ih]
      constructor
      · rintro ⟨h1, h2, h3, h4, h5⟩
        refine ⟨by omega, by omega, h3, h4, fun l hl1 hl2 => ?_⟩
        rcases Nat.lt_or_ge i l with hl | hl
        · exact h5 l hl hl2
        · have : l = i := by omega
          rw [this]; exact h
      · rintro ⟨h1, h2, h3, h4, h5⟩
        rcases Nat.lt_or_ge i j with hl | hl
        · exact ⟨hl, by omega, h3, h4, fun l hl1 hl2 => h5 l (by omega) hl2⟩
        · have : j = i := by omega
          rw [this] at h3 h4; exact absurd ⟨h3, h4⟩ h

theorem findMark_iff (s : State) (mark i : Nat) : findMark s mark 0 (regionSize s) = some i ↔ MarkAt s mark i := by
  rw [findMark_eq_some, MarkAt, regionSize_eq]
  simp

/-- R149: the search for a SYNC finds the lowest offset that holds it. -/
theorem findSync_eq_some {s : State} {oldest index : Nat} {fuel i j : Nat} :
    findSync s oldest index i fuel = some j ↔
      i ≤ j ∧ j < i + fuel ∧ (windowEntry s oldest j).kind = 5 ∧ (windowEntry s oldest j).syncIndex = index ∧
        ∀ l, i ≤ l → l < j → ¬ ((windowEntry s oldest l).kind = 5 ∧ (windowEntry s oldest l).syncIndex = index) := by
  induction fuel generalizing i with
  | zero => simp [findSync]; omega
  | succ n ih =>
    rw [findSync]
    rw [windowEntry_eq]
    split
    · next h =>
      constructor
      · intro e; cases e; exact ⟨le_refl _, by omega, h.1, h.2, fun l h1 h2 => by omega⟩
      · rintro ⟨h1, _, _, _, h5⟩
        rcases Nat.lt_or_ge i j with hl | hl
        · exact absurd h (h5 i (le_refl _) hl)
        · rw [le_antisymm h1 hl]
    · next h =>
      rw [ih]
      constructor
      · rintro ⟨h1, h2, h3, h4, h5⟩
        refine ⟨by omega, by omega, h3, h4, fun l hl1 hl2 => ?_⟩
        rcases Nat.lt_or_ge i l with hl | hl
        · exact h5 l hl hl2
        · have : l = i := by omega
          rw [this]; exact h
      · rintro ⟨h1, h2, h3, h4, h5⟩
        rcases Nat.lt_or_ge i j with hl | hl
        · exact ⟨hl, by omega, h3, h4, fun l hl1 hl2 => h5 l (by omega) hl2⟩
        · have : j = i := by omega
          rw [this] at h3 h4; exact absurd ⟨h3, h4⟩ h

theorem findSync_iff (s : State) (w : TakeWindow) (index k : Nat) :
    findSync s w.oldest index 0 w.count = some k ↔ SyncAt s w index k := by
  rw [findSync_eq_some, SyncAt]
  simp

/-- R149: the place a mark names. -/
theorem placeOf_iff (s : State) (src : Source) (w : TakeWindow) (mark place : Nat) :
    placeOf s src w mark = some place ↔ Placed s src w mark place := by
  cases src with
  | score =>
    by_cases h : mark = 0
    · simp [placeOf, scorePlace, Placed, h, eq_comm]
    · simp only [placeOf, scorePlace, Placed, h, if_false, Option.map_eq_some_iff, findMark_iff, ne_eq, not_false_eq_true,
        true_and, false_and, false_or]
      constructor <;> rintro ⟨i, hi, rfl⟩ <;> exact ⟨i, hi, rfl⟩
  | take =>
    by_cases h : mark = 0
    · simp [placeOf, Placed, h, eq_comm]
    · simp only [placeOf, scorePlace, Placed, h, if_false, ne_eq, false_and, not_false_eq_true, true_and, false_or]
      cases hf : findMark s mark 0 (regionSize s) with
      | none =>
        have hn : ∀ i, ¬ MarkAt s mark i := fun i hi => by
          have := (findMark_iff s mark i).2 hi; rw [hf] at this; cases this
        simp [hn]
      | some i =>
        have hi := (findMark_iff s mark i).1 hf
        have hu : ∀ j, MarkAt s mark j → j = i := fun j hj => by
          have := (findMark_iff s mark j).2 hj; rw [hf] at this; cases this; rfl
        simp only [Option.map_some]
        constructor
        · intro e
          obtain ⟨k, hk, rfl⟩ := Option.map_eq_some_iff.1 e
          exact ⟨i, k, hi, (findSync_iff s w (i + 1) k).1 hk, rfl⟩
        · rintro ⟨j, k, hj, hk, rfl⟩
          rw [hu j hj] at hk
          rw [(findSync_iff s w (i + 1) k).2 hk]; rfl

end Sys2Proof.Machine
end

