-- ==== Sys2Proof/Laws/Scanner.lean ====
section
/-! SUPPORT. What a conversion does with no watch running (R7, R8), the part of an arrival that is the same in every key
state (R22, R24, R44, R45). -/

namespace Sys2Proof.Machine

/-! ### Channel records -/

theorem setChannel_setChannel (c : Channel) (a b : ChannelRecord) (s : State) :
    setChannel c a (setChannel c b s) = setChannel c a s := by
  simp [setChannel, State.modScn]

theorem channelCal_setChannel (c d : Channel) (a : ChannelRecord) (s : State) :
    channelCal (setChannel c a s) d = channelCal s d := by
  cases d <;> rfl

/-! ### A conversion with no watch running -/

/-- R7, R8: in RUNNING the sample replaces the last raw sample and is judged by the channel's health. -/
theorem convert_unwatched (c : Channel) (r : Raw) (s : State) (running : s.scn.state = .running)
    (unwatched : s.scn.watch = none) :
    convert c r s =
      match (s.channel c).health with
      | .ok => judgeOk c r (setChannel c { s.channel c with lastRaw := r } s)
      | .faulted => judgeFaulted c r (setChannel c { s.channel c with lastRaw := r } s) := by
  have gather : watchGather c r (setChannel c { s.channel c with lastRaw := r } s) =
      setChannel c { s.channel c with lastRaw := r } s := by
    unfold watchGather
    simp only [setChannel, State.modScn, unwatched]
  have state : (setChannel c { s.channel c with lastRaw := r } s).scn.state = .running := running
  unfold convert
  simp only [gather, state, channel_setChannel_self]
  all_goals (cases (s.channel c).health <;> rfl)

/-- R7: a sample of an OK channel that does not fault it is delivered. -/
theorem judgeOk_delivers (c : Channel) (r : Raw) (s : State) (h : faultsNow s c r = false) :
    judgeOk c r s = deliverSample c (normalize (channelCal s c) r)
      (setChannel c { s.channel c with
        persistence := if inWindow (channelCal s c) r then 0 else (s.channel c).persistence + 1 } s) := by
  simp [judgeOk, h]

/-! ### Key records -/

/-- R44: the key's own last strike sweep is kept below an age of 65,535. -/
theorem ageStrike_eq (now : Sweep) (r : KeyRecord) :
    ageStrike now r = { r with lastStrike := r.lastStrike.filter fun l => elapsed now l < 65535 } := by
  unfold ageStrike
  rcases h : r.lastStrike with _ | l
  · cases r
    simp_all
  · by_cases old : 65535 ≤ elapsed now l
    · simp [Config.strikeAge, old, Option.filter, Nat.not_lt.mpr old]
    · have young := Nat.not_le.mp old
      cases r
      simp_all [Config.strikeAge, Option.filter]

/-- R45: a replaced key record moves the GATED count by the key's part in it. -/
theorem replaceKey_eq (k : Key) (r : KeyRecord) (s : State) :
    replaceKey k r s = setKeyRec k r
      { s with ktr := { s.ktr with gatedCount := s.ktr.gatedCount + gatedOne r - gatedOne (s.keyRec k) } } := by
  simp [replaceKey, setKeyRec, State.modKtr]

/-- R45: with the same part in the count, the record alone is replaced. -/
theorem replaceKey_of_gatedOne_eq (k : Key) (r : KeyRecord) (s : State) (h : gatedOne r = gatedOne (s.keyRec k)) :
    replaceKey k r s = setKeyRec k r s := by
  simp [replaceKey_eq, h]

/-- R22, R24: an arrival past INIT is the chain from the record with its positions moved. -/
theorem keyArrival_eq (k : Key) (p : Nat) (moved : KeyRecord) (s : State) (placed : (s.keyRec k).state ≠ .init)
    (h : moved = { s.keyRec k with
      current := p, previous := (s.keyRec k).current
      lastStrike := (s.keyRec k).lastStrike.filter fun l => elapsed s.now l < 65535 }) :
    keyArrival k p s =
      (keyChain (arrivalContext s) 9 ⟨moved, []⟩).events.foldl (deliverKeyEvent k)
        (replaceKey k (adoptAtRest (keyChain (arrivalContext s) 9 ⟨moved, []⟩).record) s) := by
  have same : ({ ageStrike s.now (s.keyRec k) with previous := (s.keyRec k).current, current := p } : KeyRecord) =
      moved := by
    rw [h, ageStrike_eq]
  simp only [keyArrival, arriveKey, placed, if_false]
  rw [show (arrivalContext s).sweep = s.now from rfl, same]

end Sys2Proof.Machine
end

