-- ==== Sys2Proof/Laws/Tables.lean ====
section
/-! SUPPORT. TABLE WRITE and TABLE READ: every record of a run adds to the counts and is taken in the state its
forerunner left, so that a run is its records taken in turn; and the entries of a read, one by one. -/

namespace Sys2Proof.Machine

/-- The result w with the counts of a later one added. -/
def WriteResult.followedBy (w v : WriteResult) : WriteResult :=
  ⟨v.st, w.written + v.written, w.clamped + v.clamped, w.refused + v.refused, w.busy || v.busy⟩

theorem keyOfNumber_isSome {n : Nat} : (keyOfNumber n).isSome = true ↔ 1 ≤ n ∧ n ≤ 88 := by
  unfold keyOfNumber; split <;> simp_all

theorem keyOfNumber_keyNumber (k : Key) : keyOfNumber (keyNumber k) = some k := by
  have h : 1 ≤ keyNumber k ∧ keyNumber k ≤ 88 := ⟨Nat.le_add_left 1 _, k.isLt⟩
  unfold keyOfNumber
  rw [dif_pos h]
  rfl

theorem clampCount_eq {lo hi : Nat} (h : lo ≤ hi) (n : Nat) : clampCount lo hi n = outside lo hi n := by
  unfold clampCount outside clamp; split <;> split <;> omega

/-! ### Runs of records -/

theorem takeCal_adds {a : CalArgs} (h : (keyOfNumber a.key.toNat).isSome = true) (w : WriteResult) :
    takeCal a w = w.followedBy (takenAlone takeCal a w.st) := by
  obtain ⟨k, hk⟩ := Option.isSome_iff_exists.1 h
  by_cases hv : calValid (clampedCal a) = true <;>
    simp [takeCal, takenAlone, WriteResult.followedBy, hk, hv, WriteResult.taken, WriteResult.refuse]

theorem takePcal_adds (a : PcalArgs) (w : WriteResult) :
    takePcal a w = w.followedBy (takenAlone takePcal a w.st) := by
  unfold takenAlone takePcal WriteResult.followedBy
  dsimp only
  (repeat' split) <;> simp_all [WriteResult.taken, WriteResult.refuse, WriteResult.refuseBusy]

theorem takeParam_adds (a : ParamArgs) (w : WriteResult) :
    takeParam a w = w.followedBy (takenAlone takeParam a w.st) := by
  unfold takenAlone takeParam
  dsimp only
  split <;>
    simp only [takePedalAccum, takeHoldOn, takeHoldOff, takePracticeMode, takePartMask, takeTakeSize, takePlainParam,
      WriteResult.taken, WriteResult.followedBy, WriteResult.refuseBusy] <;>
    (try split) <;> simp_all

theorem foldl_inTurn {α : Type} (take : α → WriteResult → WriteResult) (records : List α)
    (h : ∀ a ∈ records, ∀ w, take a w = w.followedBy (takenAlone take a w.st)) (w : WriteResult) :
    records.foldl (fun w a => take a w) w = w.followedBy (takenInTurn (takenAlone take) records w.st) := by
  induction records generalizing w with
  | nil => simp [takenInTurn, WriteResult.followedBy]
  | cons a l ih =>
    simp only [List.foldl_cons, takenInTurn]
    rw [ih (fun b hb => h b (List.mem_cons_of_mem _ hb)), h a (List.mem_cons_self ..)]
    simp [WriteResult.followedBy, Nat.add_assoc, Bool.or_assoc]

/-- R191: a run of records is its records taken in turn. -/
theorem takeRecords_inTurn {α : Type} (take : α → WriteResult → WriteResult) (records : List α) (s : State)
    (h : ∀ a ∈ records, ∀ w, take a w = w.followedBy (takenAlone take a w.st)) :
    takeRecords take records s = takenInTurn (takenAlone take) records s := by
  unfold takeRecords
  rw [foldl_inTurn take records h]
  simp [WriteResult.followedBy]

/-- R190, R191: the reply of a TABLE WRITE. -/
theorem replied_answer (w : WriteResult) : replied 0x02 w.answer.code w.answer.fields w.answer.st = repliedResult w := by
  simp [WriteResult.answer, repliedResult, repliedCounts]

/-! ### Runs of entries read -/

/-- R192: the entries of a read, where an entry of the table reads as `entry` says. -/
theorem readEntries_eq {f entry : Nat → List Byte} {first n : Nat} (h : ∀ i < n, f (first + i) = entry (first + i)) :
    (numbersFrom first n).flatMap f = (List.range n).flatMap fun i => entry (first + i) := by
  unfold numbersFrom
  rw [List.flatMap_map]
  simp only [List.flatMap_def]
  congr 1
  apply List.map_congr_left
  intro i hi
  exact h i (List.mem_range.1 hi)

end Sys2Proof.Machine
end

