-- ==== Sys2Proof/WellFormed.lean ====
section
/-! DEFINITION. Which commands the surroundings of the part can send. Most operands are limited by their
types; what is left is that an Action Link command fits one frame, whose payload is at most 240 bytes
(R186), in the argument widths of 11 sections 11.3, 11.4 and 11.9. -/

namespace Sys2Proof

/-- The payload length in bytes of a command's frame on the Action Link; 0 for events that are no frame. -/
def Instr.payloadBytes : Instr → Nat
  | .deviceReset | .resetPractice | .resetVoices => 1
  | .tableRead code _ _ _ => if code.toNat = 2 ∨ code.toNat = 5 then 5 else 4
  | .calWrite records => 1 + 19 * records.length
  | .pcalWrite records => 1 + 9 * records.length
  | .curveWrite _ _ points => 3 + points.length
  | .loudWrite _ gains => 2 + 2 * gains.length
  | .clickWrite _ _ samples => 3 + 2 * samples.length
  | .paramWrite entries => 1 + 3 * entries.length
  | .warmupWrite _ | .pedalAccumWrite _ | .holdOnWrite _ | .holdOffWrite _ => 4
  | .practiceModeWrite _ | .partMaskWrite _ | .takeSizeWrite _ => 4
  | .rail _ | .locate _ | .arm _ => 1
  | .scoreWrite _ entries => 2 + 4 * entries.length
  | .scoreRead _ _ | .captureRead _ _ => 4
  | .play _ _ => 2
  | .voicePass bytes => bytes.length
  | .watch _ _ => 3
  | .powerOnReset | .ping | .stop | .pause | .resume | .stopCapture | .captureClear => 0
  | .dampAll | .status | .clearFlags | .sweep | .conversion _ _ | .warmupEnd => 0
  | .channelFault _ _ | .channelRecovery _ _ | .gateExpiry _ | .strikeAgeExpiry => 0
  | .pedalGroupComplete _ _ | .railWaitExpiry | .railMoveExpiry | .railDriftHalt _ => 0
  | .outputSamplePeriod _ | .jackAdoption _ | .clickEnd _ | .pulse | .run => 0
  | .deadlineExpiry | .waitTimerExpiry | .staleStrikeAged | .takeGap => 0
  | .voiceFrameCompletion | .holdInChange _ | .byteReceived _ _ | .interByteTimeout => 0
  | .linkFrameCompletion | .resetNRelease => 0

/-- A command that can reach the part: its frame's payload is at most 240 bytes (R186). -/
abbrev Instr.WellFormed (i : Instr) : Prop := i.payloadBytes ≤ 240

end Sys2Proof
end

