-- ==== Sys2Proof/Tests/Slice0.lean ====
section
/-! SUPPORT. Tests: the well-formedness smoke, the spec's worked numbers on small states, and for every statement
that has hypotheses a state and operands that meet all of them, clause by clause (`test_meets_…`). -/

namespace Sys2Proof.Tests

set_option Elab.async false

open Sys2Proof.Machine

/-! ### Small states -/

/-- The state a command leaves. -/
def after (c : Instr) (s : State) : State :=
  match exec c s with
  | .next t => t
  | .fault _ => s
  | .refused _ => s

/-- The part after reset with SCN past its warm-up. -/
def up : State := State.reset.modScn fun b => { b with state := .running }

def withKey (f : KeyRecord → KeyRecord) (s : State) : State := setKeyRec 0 (f (s.keyRec 0)) s
def withPar (f : Params → Params) (s : State) : State := s.modPar f
def withRail (f : Rlc → Rlc) (s : State) : State := s.modRlc f
def withPbe (f : Pbe → Pbe) (s : State) : State := s.modPbe f
def withPrm (f : Prm → Prm) (s : State) : State := s.modPrm f
def withTkr (f : Tkr → Tkr) (s : State) : State := s.modTkr f
def withVdp (f : Vdp → Vdp) (s : State) : State := s.modVdp f
def withLnk (f : Lnk → Lnk) (s : State) : State := s.modLnk f
def withHpm (f : Hpm → Hpm) (s : State) : State := s.modHpm f
def withEntries (start : Nat) (es : List Entry) (s : State) : State := s.setMem (writeRun s.mem start es)

/-- K1 in GATED since a crossing of G1, its gate open to this sweep. -/
def gatedUp : State :=
  (withKey (fun r => { r with state := .gated, current := 2000, gate := some ⟨8, .g1, 0⟩ }) up).modKtr
    fun b => { b with gatedCount := 1 }

/-- A source plays, and with the next sweep event a pulse is due. -/
def playing (source : Source) (countdown : Nat) : State :=
  withPbe (fun b => { b with
    state := .running, source := source, acc := 499000, countdown := countdown, window := some ⟨0, 2⟩ }) up

/-- The bytes of a score entry of part 0 (R121). -/
def scoreBytes (delta kind a b : Nat) : Entry :=
  ⟨byteOf (delta / 4), byteOf (delta % 4 * 64 + kind * 4), byteOf a, byteOf b⟩

def railIn (st : RailState) (origin : Option WaitOrigin) : State :=
  withRail (fun b => { b with state := st, drive := driveOf st, waitOrigin := origin }) up

/-! ### Well-formedness -/

/-- R186: 118 samples of a CLICK fill 239 bytes of payload; 119 would need 241, and are no frame. -/
theorem test_wellFormed_longest : (Instr.clickWrite 0 0 (List.replicate 118 0)).WellFormed := by decide +kernel

theorem test_illFormed_click : ¬ (Instr.clickWrite 0 0 (List.replicate 119 0)).WellFormed := by decide +kernel

theorem test_illFormed_voicePass : ¬ (Instr.voicePass (List.replicate 241 0)).WellFormed := by decide +kernel

/-! ### The spec's worked numbers -/

/-- 11, the CRC of a PING. -/
theorem test_pingFrame : linkFrameBytes ⟨0x01, []⟩ = [0x9E, 0x01, 0x00, 0xF4] := by decide +kernel

/-- 01, the worked cases of normalization. -/
theorem test_normalize :
    [3700, 3600, 2700, 600, 500].map (normalize ⟨3600, 600, 64, 4032⟩) = [0, 0, 1228, 4095, 4095] ∧
      [2000, 350].map (normalize ⟨400, 3600, 64, 4032⟩) = [2048, 0] ∧ normalize ⟨300, 3700, 64, 4032⟩ 3650 = 4035 := by
  decide +kernel

/-- 02, worked cases 1 and 2: the stamps, the speeds and the levels of K52. -/
theorem test_strikeLevels :
    crossingStamp 501 1100 1260 1200 = 8010 ∧ crossingStamp 513 2950 3110 3000 = 8197 ∧
      strikeSpeed ⟨3600, 600, 64, 4032, 500, 1200, 2400, 3000, 700⟩ .g1 (strikeInterval 8010 8197) = 3833 ∧
      strikeLevel ((defaultCurve.set 29 110).set 30 114) 3833 = 114 ∧
      strikeSpeed ⟨3600, 600, 64, 4032, 500, 1200, 2400, 3000, 700⟩ .rpt (strikeInterval 14408 14552) = 1659 ∧
      strikeLevel defaultCurve 1659 = 52 := by
  decide +kernel

/-- 02, worked case 3: a jump across the whole travel is a lift and a strike of one arrival, 10 sixteenths apart. -/
theorem test_jump :
    (arriveKey ⟨701, 24, 2400, defaultCurve⟩ 3200
      { KeyRecord.initial with
        state := .rest, current := 300, cal := ⟨3600, 600, 64, 4032, 500, 1200, 2400, 3000, 700⟩ }).events =
      [.lift, .strike 127 4095 false 65535] := by
  decide +kernel

/-- 06, a frame that saturates: the outputs at M = 30,000 and M = 32,768. -/
theorem test_saturation :
    outOf (withHpm (fun h => { h with gain := 30000, click := some ⟨.a, 0⟩, clickA := h.clickA.set 0 20000 }) up)
        6000000 = 7836914 ∧
      outOf (withHpm (fun h => { h with gain := 30000, click := some ⟨.a, 0⟩, clickA := h.clickA.set 0 20000 }) up)
        (-6000000) = -3149414 ∧
      outputSample 8560000 = 8388607 := by
  decide +kernel

/-- 06, the ramp to LOUD[16]: the last step is the 16 that remain. -/
theorem test_ramp : gainStep 32 0 16912 = 32 ∧ gainStep 32 16896 16912 = 16912 ∧ gainStep 32 23152 0 = 23120 := by
  decide +kernel

/-- 08, the first pulse at 120 beats per minute: A is 4,000 after it. -/
theorem test_firstPulse :
    (after .pulse (withPbe (fun b => { b with state := .running, acc := 492000, countdown := 9 }) up)).pbe.acc = 4000 := by
  decide +kernel

/-- 03, one group of eight: the last arrival makes the position 2097 and the level 65. -/
theorem test_pedalGroup :
    ((pedalArrival .damp 2150 (setPedalRec .damp { up.pedalRec .damp with sum := 14630, count := 7 } up)).pedalRec
      .damp).player = 65 := by
  decide +kernel

/-- 11, two writes and their replies: HOLD_ON 40 lowers HOLD_OFF, TAKE_SIZE is refused BUSY, RAMP_STEP 0 becomes 1. -/
theorem test_paramRun :
    (after (.paramWrite [⟨9, 40⟩, ⟨30, 2⟩, ⟨20, 0⟩]) (playing .score 5)).lnk.tx =
        some ⟨0x82, [4, 0, 2, 0, 2, 0, 1]⟩ ∧
      (after (.paramWrite [⟨9, 40⟩, ⟨30, 2⟩, ⟨20, 0⟩]) (playing .score 5)).par.holdOff = 39 := by
  decide +kernel

/-- The one byte that is left of a good PING frame runs PING; its reply is on ALTX. -/
theorem test_pingByBytes :
    (after (.byteReceived 0xF4 false) (withLnk (fun l => { l with rx := .check 0x01 [] }) up)).lnk.tx =
      some ⟨0x81, [0, 1, 0x21, 0, 0, 0, 0]⟩ := by
  decide +kernel

/-- The first step after reset with a command in the queue is that command. -/
theorem test_stepFromReset :
    step { State.reset with pending := [.ping] } = exec .ping State.reset ∧ step State.reset = .next State.reset :=
  ⟨rfl, rfl⟩

theorem test_resetMemory : Memory.wf State.reset.mem = true := rfl

/-! ### The hypotheses of the statements are met -/

/-- A waiting command, and an empty queue. -/
theorem test_meets_StepTakesTheFrontCommand :
    { up with pending := [.ping] }.pending = .ping :: [] ∧ up.pending = [] := by
  decide +kernel

/-- RESET_N asserted; a full reply queue. -/
theorem test_meets_UntakenCommandsHaveNoEffect :
    State.powerOn.resetHeld = true ∧ Instr.ping ≠ .powerOnReset ∧ Instr.ping ≠ .resetNRelease ∧
      (∀ high, Instr.ping ≠ .holdInChange high) ∧ isAnswered .ping = true ∧
      (withLnk (fun l => { l with replies := List.replicate 4 ⟨1, .ok, []⟩ }) up).Runs ∧
      4 ≤ (withLnk (fun l => { l with replies := List.replicate 4 ⟨1, .ok, []⟩ }) up).lnk.replies.length := by
  decide +kernel

/-- RESET_N asserted; the part running. -/
theorem test_meets_ResetInputResetsAndReleases :
    State.powerOn.resetHeld = true ∧ State.powerOn.vdp.inFlight = none ∧ State.powerOn.vdp.urgent = true ∧ up.Runs := by
  decide +kernel

/-- Both transmitter states. -/
theorem test_meets_DeviceResetLeavesTheTables :
    up.Runs ∧ up.vdp.inFlight = some .allDamp ∧ (withVdp (fun v => { v with inFlight := none }) up).Runs := by
  decide +kernel

/-- The part running, the reply queue empty. -/
theorem test_meets_ResetPracticeClearsPractice :
    up.Takes := by
  decide +kernel

/-- The part running, the reply queue empty. -/
theorem test_meets_AllDampHandling :
    up.Takes := by
  decide +kernel

/-- The part running, the reply queue empty. -/
theorem test_meets_PingAndStatusShowTheState :
    up.Takes := by
  decide +kernel

/-- The part running, the reply queue empty. -/
theorem test_meets_ClearFlagsClears :
    up.Takes := by
  decide +kernel

/-- The part running, the reply queue empty. -/
theorem test_meets_PedalAccumWriteEmptiesGroups :
    up.Takes := by
  decide +kernel

/-- The part running, the reply queue empty. -/
theorem test_meets_HoldWritesTestAtOnce :
    up.Takes := by
  decide +kernel

/-- A code past 5; a read of all 33 entries. -/
theorem test_meets_TableReadShowsTables :
    up.Takes ∧ 5 < (6 : Byte).toNat ∧ 1 ≤ (33 : Half).toNat ∧ (33 : Half).toNat ≤ 33 ∧
      (0 : Byte).toNat + (33 : Half).toNat ≤ 33 := by
  decide +kernel

/-- The last index; an empty run and 80 entries; an index past 32. -/
theorem test_meets_PlainParamWritesStore :
    up.Takes ∧ (32 : Byte).toNat < 33 ∧ (32 : Byte).toNat ∉ [7, 9, 10, 24, 25, 30] ∧
      79 < (List.replicate 80 (ParamArgs.mk 0 0)).length ∧ (∃ a ∈ [ParamArgs.mk 33 0], 33 ≤ a.index.toNat) := by
  decide +kernel

/-- A stopped part; a waiting part whose mode changes, and one whose mode stays. -/
theorem test_meets_ModeWritesReleaseTheWait :
    (withPbe (fun b => { b with state := .waiting }) up).Takes ∧ up.pbe.state = .stopped ∧
      (withPbe (fun b => { b with state := .waiting }) up).pbe.state ≠ .stopped ∧
      min 2 (1 : Half).toNat ≠ up.par.practiceMode ∧ min 2 (0 : Half).toNat = up.par.practiceMode ∧
      min 15 (3 : Half).toNat ≠ up.par.partMask ∧
      (after (.practiceModeWrite 1) (withPbe (fun b => { b with state := .waiting }) up)).pbe.state = .running := by
  decide +kernel

/-- IDLE and STOPPED; a take armed; playback running. -/
theorem test_meets_TakeSizeWriteMovesTheBoundary :
    up.Takes ∧ up.tkr.state = .idle ∧ up.pbe.state = .stopped ∧
      (withTkr (fun b => { b with state := .armed }) up).Takes ∧
      (withTkr (fun b => { b with state := .armed }) up).tkr.state ≠ .idle ∧ (playing .score 1).Takes ∧
      (playing .score 1).pbe.state ≠ .stopped ∧ (after (.takeSizeWrite 3) up).par.takeSize = 3 := by
  decide +kernel

/-- A good and a bad CAL record of K88; PCAL records of a pedal and of the rail, at rest and moving; a zero span. -/
theorem test_meets_CalibrationWritesPlaceTheRecord :
    up.Takes ∧ (CalArgs.mk 88 3600 600 64 4032 600 1400 2600 3300 768).key.toNat = (87 : Key).val + 1 ∧
      (600 < 1400 ∧ 1400 < 2600 ∧ 2600 < 3300 ∧ 3600 ≠ 600) ∧
      clampedCal ⟨88, 3600, 600, 64, 4032, 0, 1400, 2600, 5000, 768⟩ = ⟨3600, 600, 64, 4032, 1, 1400, 2600, 4095, 768⟩ ∧
      ¬ ((1400 : Nat) < 1400) ∧ (2 : Byte).toNat = pedalCode .damp ∧ up.rlc.state ∉ [.engaging, .disengaging] ∧
      (railIn .engaging none).Takes ∧ (railIn .engaging none).rlc.state ∈ [.engaging, .disengaging] ∧
      ((after (.calWrite [⟨88, 3600, 600, 64, 4032, 0, 1400, 2600, 5000, 768⟩]) up).keyRec 87).cal.dmp = 1 ∧
      (after (.pcalWrite [⟨3, 1, 2, 3, 4⟩]) up).rlc.cal = ⟨1, 2, 3, 4⟩ ∧
      (after (.pcalWrite [⟨3, 1, 2, 3, 4⟩]) (railIn .engaging none)).rlc.cal = up.rlc.cal := by
  decide +kernel

/-- Runs that end at the last index of each table. -/
theorem test_meets_TableRunsAreStored :
    up.Takes ∧ (3 : Byte).toNat ≤ 3 ∧ (32 : Byte).toNat + [(200 : Byte)].length ≤ 33 ∧
      (31 : Byte).toNat + [(40000 : Half)].length ≤ 32 ∧ (1 : Byte).toNat ≤ 1 ∧
      (255 : Byte).toNat + [(5 : Half)].length ≤ 256 ∧ (after (.curveWrite 3 32 [200]) up).ktr.curves[3][32] = 127 ∧
      (after (.loudWrite 31 [40000]) up).hpm.loud[31] = 32768 ∧ (after (.clickWrite 1 255 [5]) up).hpm.clickB[255] = 5 := by
  decide +kernel

/-- A target past 2, a faulted sensor, an unsettled rail; requests the same way; waits cancelled and moves reversed. -/
theorem test_meets_RailChecksAndTurnsBack :
    up.Takes ∧ (3 : Byte) ≠ 1 ∧ (3 : Byte) ≠ 2 ∧ (withRail (fun b => { b with faulted := true }) up).Takes ∧
      (withRail (fun b => { b with faulted := true }) up).rlc.faulted = true ∧ up.rlc.faulted = false ∧
      up.rlc.state = .unsettled ∧ (railIn .engaged none).Takes ∧ (railIn .engaged none).rlc.faulted = false ∧
      (railIn .engaged none).rlc.state ∈ [.engaged, .waitToEngage, .engaging] ∧
      (railIn .disengaging none).rlc.state ∈ [.disengaged, .waitToDisengage, .disengaging] ∧
      (railIn .waitToEngage (some .halted)).Takes ∧ (railIn .waitToEngage (some .halted)).rlc.waitOrigin = some .halted ∧
      (railIn .waitToDisengage (some .engaged)).rlc.waitOrigin = some .engaged ∧
      (after (.rail 2) (railIn .waitToEngage (some .halted))).rlc.state = .halted ∧
      (after (.rail 1) (railIn .waitToDisengage (some .engaged))).rlc.state = .engaged ∧
      (after (.rail 2) (railIn .engaging none)).rlc.state = .disengaging ∧
      (after (.rail 1) (railIn .disengaging none)).rlc.drive = .inward := by
  decide +kernel

/-- R89: quiet keys, and a key in GATED. -/
theorem test_quiet : Quiet (railIn .disengaged none) ∧ Quiet (railIn .halted none) ∧
    ¬ Quiet (withRail (fun b => { b with state := .engaged }) gatedUp) := by
  simp only [← keysQuiet_iff]
  decide +kernel

/-- The states of `test_quiet`: a move starts, and with a key in GATED a wait. -/
theorem test_meets_RailRequestFromRest :
    (railIn .disengaged none).Takes ∧ (railIn .disengaged none).rlc.faulted = false ∧
      (railIn .disengaged none).rlc.state = .disengaged ∧ (railIn .halted none).Takes ∧
      (withRail (fun b => { b with state := .engaged }) gatedUp).Takes ∧
      (after (.rail 1) (railIn .disengaged none)).rlc.state = .engaging ∧
      (after (.rail 2) (railIn .halted none)).rlc.moveTimer = some 12000 ∧
      (after (.rail 2) (withRail (fun b => { b with state := .engaged }) gatedUp)).rlc.state = .waitToDisengage := by
  decide +kernel

/-- A run at the end of the region, an empty run, a run past it, and a score that plays. -/
theorem test_meets_ScoreWriteStoresTheRun :
    up.Takes ∧ (12287 : Half).toNat + [scoreBytes 4 1 60 80].length ≤ scoreSize up ∧
      ¬ (up.pbe.state ≠ .stopped ∧ up.pbe.source = .score) ∧ KeepsMemory up ∧
      scoreSize up < (12288 : Half).toNat + [scoreBytes 4 1 60 80].length ∧ (playing .score 1).Takes ∧
      (playing .score 1).pbe.state ≠ .stopped ∧ (playing .score 1).pbe.source = .score ∧
      readEntry (after (.scoreWrite 12287 [scoreBytes 4 1 60 80]) up).mem 12287 = scoreBytes 4 1 60 80 := by
  decide +kernel

/-- Counts 0, 57 and 56, and a start at the end of the region. -/
theorem test_meets_ReadsShowTheScoreAndTheRing :
    up.Takes ∧ (0 : Half) = 0 ∧ 56 < (57 : Half).toNat ∧ 1 ≤ (56 : Half).toNat ∧ (56 : Half).toNat ≤ 56 ∧
      scoreSize up ≤ (12288 : Half).toNat ∧ (12287 : Half).toNat < scoreSize up := by
  decide +kernel

/-- MARK 7 stands at index 3 of this score, and a SYNC of index 4 at offset 1 of its take of two entries. -/
def marked : State :=
  withTkr (fun b => { b with count := 2 })
    (withEntries 12288 [takeBytes 0 1 60 80, takeBytes 0 5 0 4] (withEntries 3 [scoreBytes 0 6 7 0] up))

/-- R149: places that exist, and a mark that does not. -/
theorem test_places : Placed marked .score ⟨0, 2⟩ 7 4 ∧ Placed marked .score ⟨0, 2⟩ 0 0 ∧ Placed marked .take ⟨0, 2⟩ 0 0 ∧
    Placed marked .take ⟨0, 2⟩ 7 2 := by
  simp only [← placeOf_iff]
  decide +kernel

/-- R149, R150: a source past 1, a running part, a take that is not there, and a mark that nothing holds. -/
theorem test_meets_PlayChecks : up.Takes ∧ 1 < (2 : Byte).toNat ∧ (playing .score 1).Takes ∧
    (playing .score 1).pbe.state ≠ .stopped ∧ up.tkr.count = 0 ∧ marked.Takes ∧ marked.pbe.state = .stopped ∧
    marked.tkr.state = .idle ∧ marked.tkr.count ≠ 0 ∧
    (∀ place, ¬ Placed marked .take ⟨marked.tkr.oldest, marked.tkr.count⟩ (8 : Byte).toNat place) ∧
    ∀ place, ¬ Placed marked .score ⟨marked.tkr.oldest, marked.tkr.count⟩ (8 : Byte).toNat place := by
  refine ⟨by decide +kernel, by decide, by decide +kernel, by decide +kernel, by decide +kernel, by decide +kernel,
    by decide +kernel, by decide +kernel, by decide +kernel, ?_, ?_⟩
  · intro place h
    have hn : placeOf marked .take ⟨marked.tkr.oldest, marked.tkr.count⟩ (8 : Byte).toNat = none := by decide +kernel
    rw [← placeOf_iff, hn] at h
    cases h
  · intro place h
    have hn : placeOf marked .score ⟨marked.tkr.oldest, marked.tkr.count⟩ (8 : Byte).toNat = none := by decide +kernel
    rw [← placeOf_iff, hn] at h
    cases h

/-- A MARK at the last index of the score region. -/
def markedLast : State := withEntries 12287 [scoreBytes 0 6 9 0] marked

/-- R149: the place after the last index, and the place after a take's last entry. -/
theorem test_lastPlaces : Placed markedLast .score ⟨0, 2⟩ 9 12288 ∧ Placed marked .take ⟨0, 2⟩ 7 2 := by
  simp only [← placeOf_iff]
  decide +kernel

/-- R150: the states of `test_places` and `test_lastPlaces`: places inside the material and at its end. -/
theorem test_meets_PlayStarts : marked.Takes ∧ marked.pbe.state = .stopped ∧ (4 : Nat) < scoreSize marked ∧
    markedLast.Takes ∧ markedLast.pbe.state = .stopped ∧ scoreSize markedLast ≤ 12288 ∧ marked.tkr.state = .idle ∧
    marked.tkr.count ≠ 0 ∧ (0 : Nat) < marked.tkr.count ∧ marked.tkr.count ≤ 2 ∧
    (after (.play 0 7) marked).pbe.cursor = 4 ∧
    (after (.play 1 0) marked).pbe.countdown = 1 ∧ (after (.play 1 7) marked).pbe.state = .stopped := by
  decide +kernel

/-- A stopped and a playing part. -/
theorem test_meets_StopMakesTheStopSteps :
    up.Takes ∧ up.pbe.state = .stopped ∧ (playing .take 3).Takes ∧ (playing .take 3).pbe.state ≠ .stopped ∧
      (after .stop (playing .take 3)).pbe.state = .stopped := by
  decide +kernel

/-- All four states; a pause that is 5 sweeps old. -/
theorem test_meets_PauseAndResume :
    up.Takes ∧ up.pbe.state = .stopped ∧ (playing .score 3).Takes ∧ (playing .score 3).pbe.state = .running ∧
      (withPbe (fun b => { b with state := .waiting }) up).Takes ∧
      (withPbe (fun b => { b with state := .paused, saved := some .waiting })
        (withPrm (fun b => { b with pauseSweep := some (-5), waitTimer := some 7 }) up)).Takes ∧
      (after .pause (withPbe (fun b => { b with state := .waiting }) up)).pbe.saved = some .waiting ∧
      (after .resume (withPbe (fun b => { b with state := .paused, saved := some .waiting })
        (withPrm (fun b => { b with pauseSweep := some (-5), waitTimer := some 7 }) up))).prm.waitTimer = some 12 := by
  decide +kernel

/-- R154: LOCATE in STOPPED, to a mark that nothing holds, to places inside the material and at its end. -/
theorem test_meets_LocatePlacesTheCursor : marked.Takes ∧ marked.pbe.state = .stopped ∧
    (withPbe (fun b => { b with state := .running }) marked).Takes ∧
    Placed (withPbe (fun b => { b with state := .running }) marked) .score ⟨0, 0⟩ 7 4 ∧
    (withPbe (fun b => { b with state := .running, source := .take, window := some ⟨0, 2⟩ }) marked).Takes ∧
    Placed (withPbe (fun b => { b with state := .running, source := .take, window := some ⟨0, 2⟩ }) marked) .take ⟨0, 2⟩ 7 2 ∧
    (∀ place,
      ¬ Placed (withPbe (fun b => { b with state := .running, source := .take, window := some ⟨0, 1⟩ }) marked) .take ⟨0, 1⟩ 7 place) ∧
    (after (.locate 7) (withPbe (fun b => { b with state := .running }) marked)).pbe.cursor = 4 ∧
    (after (.locate 7) (withPbe (fun b => { b with state := .running, source := .take, window := some ⟨0, 2⟩ }) marked)).pbe.state
      = .stopped := by
  simp only [← placeOf_iff]
  have hn : placeOf (withPbe (fun b => { b with state := .running, source := .take, window := some ⟨0, 1⟩ }) marked)
      .take ⟨0, 1⟩ 7 = none := by decide +kernel
  refine ⟨by decide +kernel, by decide +kernel, by decide +kernel, by decide +kernel, by decide +kernel,
    by decide +kernel, ?_, by decide +kernel, by decide +kernel⟩
  intro place h
  rw [hn] at h
  cases h

/-- Modes 0, 1 and 2; a take that plays; a recorder that is not IDLE. -/
theorem test_meets_ArmStopAndClearCapture :
    up.Takes ∧ ¬ (up.pbe.state ≠ .stopped ∧ up.pbe.source = .take) ∧ 1 < (2 : Byte).toNat ∧ (playing .take 3).Takes ∧
      (playing .take 3).pbe.state ≠ .stopped ∧ (playing .take 3).pbe.source = .take ∧ up.tkr.state = .idle ∧
      (withTkr (fun b => { b with state := .recording }) up).Takes ∧ (after (.arm 1) marked).tkr.count = 2 ∧
      (after (.arm 0) marked).tkr.count = 0 := by
  decide +kernel

/-- A full ring of 1,024 whose reference sweep is 4,094 sweeps old, and a part that records nothing. -/
theorem test_meets_TakeGapIsAppended :
    (withTkr (fun b => { b with state := .recording, reference := some (-4094), count := 1024 })
        (withPar (fun p => { p with takeSize := 0 }) up)).Runs ∧
      KeepsMemory (withTkr (fun b => { b with state := .recording, reference := some (-4094), count := 1024 })
        (withPar (fun p => { p with takeSize := 0 }) up)) ∧
      elapsed (up.now + 1) (-4094) = 4095 ∧ (1024 : Nat) ≤ 1024 * 2 ^ 0 ∧ up.par.takeMode = 0 ∧
      up.tkr.reference = none ∧
      (after .takeGap (withTkr (fun b => { b with state := .recording, reference := some (-4094), count := 1024 })
        (withPar (fun p => { p with takeSize := 0 }) up))).tkr.overwrites = 1 := by
  decide +kernel

/-- The gate closed with both values of LAYER, and open; a lost event, one that is recorded and one that starts a take. -/
theorem test_meets_StrikesAreVoicedAndPlayerEventsRecorded :
    (railIn .disengaged none).rlc.state ∈ [.disengaged, .waitToEngage] ∧ up.par.layer ≠ 1 ∧
      up.rlc.state ∉ [.disengaged, .waitToEngage] ∧ up.tkr.state = .idle ∧ KeepsMemory up ∧
      up.tkr.count + 1 < 1024 * 2 ^ up.par.takeSize ∧ elapsed up.now (-4094) = 4094 ∧
      (voiceStrike 0 90 (railIn .disengaged none)).vdp.queue.length = 3 ∧
      (voiceStrike 0 90 (withPar (fun p => { p with layer := 1 }) (railIn .disengaged none))).vdp.queue.length = 5 ∧
      (playerEvent 1 60 80 (withTkr (fun b => { b with state := .armed }) up)).tkr.count = 1 := by
  decide +kernel

/-- VOICE PASS of 1, 32, 0 and 33 bytes and at 23 and 24 frames; a held key at the same two lengths. -/
theorem test_meets_EnqueueRules :
    up.Takes ∧ (List.replicate 32 (0 : Byte)).length ≤ 32 ∧ 32 < (List.replicate 33 (0 : Byte)).length ∧
      up.vdp.queue.length < 24 ∧ (withVdp (fun v => { v with queue := List.replicate 24 .allDamp }) up).Takes ∧
      held (voiceLift 0 up) 0 = true ∧ up.vdp.inFlight ≠ none ∧ up.vdp.dropWaiting = false ∧
      up.par.reportEnable.testBit 2 = true ∧ up.lnk.classE.length < 16 ∧
      ((noteOn 0 90 .player (voiceLift 0 up)).sound 0).lastLevel = 90 ∧
      (noteOn 0 90 .player (voiceLift 0 (withVdp (fun v => { v with queue := List.replicate 24 .allDamp }) up))).vdp.dropCount
        = 1 := by
  decide +kernel

/-- Every choice: busy, urgent, held back by the pin, the head frame alone, a remembered pedal, an owed NOTE-OFF. -/
theorem test_meets_VoiceTransmitterChooses :
    up.Runs ∧ up.vdp.inFlight ≠ none ∧ State.powerOn.vdp.inFlight = none ∧ State.powerOn.vdp.urgent = true ∧
      (∀ k, (up.sound k).offPending = false) ∧ up.vdp.remembered = ⟨none, none, none⟩ ∧
      up.vdp.queue = .pedal .damp 0 :: [.pedal .soft 0, .pedal .sost 0] ∧
      (voiceChoose (withVdp (fun v => { v with inFlight := none, holdIn := true }) up)).vdp.inFlight = none ∧
      (voiceChoose (withVdp (fun v => { v with inFlight := none, remembered := ⟨none, none, some 9⟩ }) up)).vdp.queue =
        [.pedal .soft 0, .pedal .sost 0, .pedal .damp 9] ∧
      held up 5 = false ∧
      (voiceChoose (setSound 5 ⟨true, false, false, 70, .player, true⟩ (withVdp (fun v => { v with inFlight := none }) up))).vdp.queue
        = [.pedal .soft 0, .pedal .sost 0, .noteOff 5 70 .player] := by
  decide +kernel

/-- Channels 0, 1, 92 and 93; no watch and an active one. -/
theorem test_meets_WatchOpensAndCloses :
    up.Takes ∧ up.scn.watch = none ∧ (4001 : Half) ≠ 0 ∧ 92 < (93 : Byte).toNat ∧
      (92 : Byte).toNat = channelNumber .rail ∧ (1 : Byte).toNat = channelNumber (.key 0) ∧
      (after (.watch 92 4001) up).Takes ∧
      (after (.watch 92 4001) up).scn.watch = some ⟨.rail, 4000, none, [], false⟩ ∧
      (after (.watch 1 0) (after (.watch 92 4001) up)).scn.watch = none := by
  decide +kernel

/-- Each timer at its expiry, and none running. -/
theorem test_meets_TimerExpiries :
    gatedUp.Runs ∧ (gatedUp.keyRec 0).state = .gated ∧ (gatedUp.keyRec 0).gate = some ⟨8, .g1, 0⟩ ∧ gatedUp.now = 0 ∧
      ((after (.gateExpiry 0) gatedUp).keyRec 0).state = .creep ∧
      (after .railWaitExpiry (withRail (fun b => { b with waitTimer := some 0 }) (railIn .waitToEngage (some .disengaged)))).rlc.state
        = .disengaged ∧
      (after .railMoveExpiry (withRail (fun b => { b with moveTimer := some 0 }) (railIn .engaging none))).rlc.state = .halted ∧
      (after .interByteTimeout (withLnk (fun l => { l with rx := .kind, rxTimer := some 0 }) up)).lnk.badFrames = 1 ∧
      (after .strikeAgeExpiry (up.modKtr fun b => { b with lastStrike := some 1, strikeAge := some 0 })).ktr.lastStrike = none ∧
      up.ktr.strikeAge ≠ some up.now ∧ up.rlc.waitTimer ≠ some up.now ∧ up.rlc.moveTimer ≠ some up.now ∧
      up.lnk.rxTimer ≠ some up.now ∧ (up.keyRec 0).state ≠ .gated := by
  decide +kernel

/-- A warm-up at its last sweep and before it; a quiet part. -/
theorem test_meets_SweepAdvancesAndEndsWarmup :
    (State.reset.modScn fun b => { b with warmupCount := 399 }).Runs ∧
      (State.reset.modScn fun b => { b with warmupCount := 399 }).scn.state = .warmup ∧ (400 : Nat) ≤ 399 + 1 ∧
      (after .warmupEnd (State.reset.modScn fun b => { b with warmupCount := 399 })).scn.state = .running ∧
      (after .warmupEnd State.reset).scn.state = .warmup ∧ up.scn.state = .running ∧ up.scn.watch = none ∧
      (∀ k, (up.keyRec k).state ≠ .gated) ∧ up.ktr.strikeAge ≠ some up.now ∧ up.pbe.state ≠ .running ∧
      up.tkr.state ≠ .recording ∧ up.par.practiceMode = 0 ∧ (after .sweep up).scn.sweep = 1 := by
  decide +kernel

/-- A pulse due, with a countdown above 1 and at 1; none due; a stopped part. -/
theorem test_meets_PulseMovesTheClock :
    (playing .score 5).Runs ∧ (playing .score 5).pbe.state = .running ∧ (playing .score 5).pbe.source = .score ∧
      500000 ≤ (playing .score 5).pbe.acc + (playing .score 5).pbe.tempo * (playing .score 5).par.tempoScale ∧
      1 < (playing .score 5).pbe.countdown ∧ (after .pulse (playing .score 5)).pbe.countdown = 4 ∧
      (withPbe (fun b => { b with acc := 0 }) (playing .score 5)).pbe.acc + 120 * 100 < 500000 ∧
      up.pbe.state ≠ .running := by
  decide +kernel

/-- A NOTE_ON, an END, a TEMPO, a NOP, an unknown kind; a NOP at the last index; a GAP in a take, last and not. -/
theorem test_meets_RunPerformsTheEntry :
    (playing .score 1).Runs ∧ (playing .score 1).prm.groupKeys = [] ∧ (playing .score 1).pbe.countdown ≤ 1 ∧
      (scoreAt (playing .score 1) 0).kind = 0 ∧ (after .run (playing .score 1)).pbe.state = .stopped ∧
      (after .run (withEntries 0 [scoreBytes 0 1 40 200, scoreBytes 3 0 0 0] (playing .score 1))).vdp.queue.length = 4 ∧
      (scoreAt (withEntries 0 [scoreBytes 0 1 40 200] up) 0).a = keyNumber 39 ∧ up.vdp.inFlight ≠ none ∧
      (after .run (withEntries 0 [scoreBytes 0 5 1 94, scoreBytes 3 0 0 0] (playing .score 1))).pbe.tempo = 300 ∧
      (after .run (withEntries 0 [scoreBytes 0 7 0 0, scoreBytes 3 0 0 0] (playing .score 1))).pbe.countdown = 3 ∧
      (after .run (withEntries 0 [scoreBytes 0 13 0 0] (playing .score 1))).pbe.state = .stopped ∧
      (after .run (withPbe (fun b => { b with cursor := 12287 }) (withEntries 12287 [scoreBytes 0 7 0 0] (playing .score 1)))).pbe.cursor
        = 12288 ∧
      (after .run (withEntries 12288 [takeBytes 0 4 0 0, takeBytes 9 4 0 0] (playing .take 1))).pbe.countdown = 9 ∧
      (after .run (withPbe (fun b => { b with cursor := 1 })
        (withEntries 12288 [takeBytes 0 4 0 0, takeBytes 9 4 0 0] (playing .take 1)))).pbe.state = .stopped := by
  decide +kernel

/-- JUMP back, CALL and RETURN, REPEAT and LOOP_END with passes left and at the last, and each fault. -/
theorem test_meets_NavigationMovesTheCursor :
    (playing .score 1).pbe.state = .running ∧ (scoreEntry (scoreBytes 0 8 255 254)).signed = -2 ∧
      (navigate (scoreEntry (scoreBytes 0 8 255 254)) 0 (playing .score 1)).pbe.cursor = 0 ∧
      (navigate (scoreEntry (scoreBytes 0 8 255 253)) 0 (playing .score 1)).pbe.state = .stopped ∧
      (navigate (scoreEntry (scoreBytes 0 9 0 50)) 0 (playing .score 1)).pbe.stack = [.call 2] ∧
      (navigate (scoreEntry (scoreBytes 0 10 0 0)) 9 (withPbe (fun b => { b with stack := [.call 2] }) (playing .score 1))).pbe.cursor
        = 2 ∧
      (navigate (scoreEntry (scoreBytes 0 11 0 0)) 5 (playing .score 1)).pbe.stack = [.loop 7 1] ∧
      (navigate (scoreEntry (scoreBytes 0 12 0 0)) 9 (withPbe (fun b => { b with stack := [.loop 7 2] }) (playing .score 1))).pbe.stack
        = [.loop 7 1] ∧
      (navigate (scoreEntry (scoreBytes 0 12 0 0)) 9 (withPbe (fun b => { b with stack := [.loop 7 1] }) (playing .score 1))).pbe.cursor
        = 11 ∧
      (navigate (scoreEntry (scoreBytes 0 9 0 50)) 0
        (withPbe (fun b => { b with stack := List.replicate 8 (.call 2) }) (playing .score 1))).pbe.stackError = true ∧
      (navigate (scoreEntry (scoreBytes 0 10 0 0)) 9 (playing .score 1)).pbe.stackError = true := by
  decide +kernel

/-- WAIT mode, PBE WAITING for K1 and K2, and the wait timer at its expiry. -/
def waitingUp : State :=
  withPar (fun p => { p with practiceMode := 2 })
    (withPbe (fun b => { b with state := .waiting })
      (withPrm (fun b => { b with expected := [⟨0, 0, 3, none⟩, ⟨1, 0, 4, none⟩], waitTimer := some 1 }) up))

/-- MUTE mode in a score that runs, a strike of K3 that turns stale and a note of K4 whose deadline passes. -/
def muteUp : State :=
  withPar (fun p => { p with practiceMode := 1 })
    (withPbe (fun b => { b with state := .running, countdown := 9 })
      (withPrm (fun b => { b with recent := [⟨2, -1600⟩], expected := [⟨3, 0, 5, some 0⟩] }) up))

/-- The two states above: a stale strike, a deadline and the wait timer. -/
theorem test_meets_PracticeSweepResolves :
    muteUp.Runs ∧ waitingUp.Runs ∧ muteUp.par.practiceMode = 1 ∧ waitingUp.par.practiceMode = 2 ∧
      muteUp.pbe.acc + muteUp.pbe.tempo * muteUp.par.tempoScale < 500000 ∧
      (∃ e ∈ muteUp.prm.recent, muteUp.par.early < elapsed (muteUp.now + 1) e.sweep) ∧
      (∃ e ∈ muteUp.prm.expected, e.deadline = some muteUp.now) ∧ muteUp.prm.waitTimer ≠ some (muteUp.now + 1) ∧
      waitingUp.prm.expected ≠ [] ∧ waitingUp.prm.waitTimer = some (waitingUp.now + 1) ∧
      (after .staleStrikeAged muteUp).prm.wrongs = 1 ∧ (after .deadlineExpiry muteUp).prm.misses = 1 ∧
      (after .waitTimerExpiry waitingUp).prm.misses = 2 ∧ (after .waitTimerExpiry waitingUp).pbe.state = .running ∧
      ((after .waitTimerExpiry waitingUp).sound 1).playbackHolder = true := by
  decide +kernel

/-- A strike of an expected key; an expected note in each mode. -/
theorem test_meets_PracticeHitsAndExpectations :
    listening muteUp = true ∧ muteUp.pbe.state = .running ∧ (∀ r ∈ muteUp.prm.recent, elapsed muteUp.now r.sweep ≤ muteUp.par.early) ∧
      muteUp.prm.expected.find? (fun x => x.key == 3) = some ⟨3, 0, 5, some 0⟩ ∧
      (practiceStrike 3 muteUp).prm.hits = 1 ∧
      (∀ r ∈ muteUp.prm.recent, elapsed muteUp.now r.sweep ≤ muteUp.par.early ∧ r.key ≠ 7) ∧
      (∀ e ∈ muteUp.prm.expected, e.key ≠ 7) ∧ muteUp.prm.expected.length < 10 ∧
      (expectedNote 7 4 muteUp).prm.expected.length = 2 ∧ (7 : Key) ∉ waitingUp.prm.groupKeys ∧
      (∀ r ∈ waitingUp.prm.recent, elapsed waitingUp.now r.sweep ≤ waitingUp.par.early ∧ r.key ≠ 7) ∧
      (expectedNote 7 4 waitingUp).prm.groupKeys = [7] := by
  decide +kernel

/-- A record with a span. -/
theorem test_meets_NormalizationIsClamped :
    PcalRecord.pedalDefault.restRaw ≠ PcalRecord.pedalDefault.fullRaw := by
  decide +kernel

/-- A crossing, a jump from above, and the greatest speed. -/
theorem test_meets_StrikeLevelArithmetic :
    (1100 < 1200 ∧ 1200 ≤ 1260) ∧ 1200 ≤ 1300 ∧ 4095 ≤ 4095 ∧ strikeLevel defaultCurve 4095 = 127 := by
  decide +kernel

/-- K1 in INIT, REST below and at DMP, GATED at G2 and LIFTED below its return point. -/
theorem test_meets_KeySamplesMoveTheKey :
    up.Runs ∧ up.scn.state = .running ∧ up.scn.watch = none ∧ (up.channel (.key 0)).health = .ok ∧
      (up.keyRec 0).cal.floor ≤ (64 : Raw).toNat ∧ (4032 : Raw).toNat ≤ (up.keyRec 0).cal.ceil ∧
      (up.keyRec 0).state = .init ∧ ((after (.conversion (.key 0) 3600) up).keyRec 0).state = .rest ∧
      ((after (.conversion (.key 0) 600) up).keyRec 0).state = .startHeld ∧
      normalize (channelCal up (.key 0)) 3160 = 600 ∧
      ((after (.conversion (.key 0) 3160) (withKey (fun r => { r with state := .rest }) up)).keyRec 0).state = .lifted ∧
      ((after (.conversion (.key 0) 3600) (withKey (fun r => { r with state := .rest }) up)).keyRec 0).state = .rest ∧
      3300 ≤ normalize (channelCal gatedUp (.key 0)) 700 ∧ (gatedUp.channel (.key 0)).health = .ok ∧
      (gatedUp.keyRec 0).gate = some ⟨8, .g1, 0⟩ ∧
      ((after (.conversion (.key 0) 700) gatedUp).keyRec 0).state = .struck ∧
      (after (.conversion (.key 0) 700) gatedUp).ktr.gatedCount = 0 ∧
      ((after (.conversion (.key 0) 3600) (withKey (fun r => { r with state := .lifted }) up)).keyRec 0).state = .rest := by
  decide +kernel

/-- A sample in WARMUP; a group that goes on, and one that completes with a level that is adopted and one that is not. -/
theorem test_meets_WarmupAndPedalSamples :
    State.reset.Runs ∧ State.reset.scn.state = .warmup ∧ State.reset.scn.watch = none ∧ up.Runs ∧
      (up.channel (.pedal .damp)).health = .ok ∧ (up.pedalRec .damp).cal.floor ≤ (2000 : Raw).toNat ∧
      (2000 : Raw).toNat ≤ (up.pedalRec .damp).cal.ceil ∧ (up.pedalRec .damp).count + 1 < 2 ^ up.par.pedalAccum ∧
      ((after (.conversion (.pedal .damp) 2000) up).pedalRec .damp).sum = 2048 ∧
      ((after (.pedalGroupComplete .damp 2000) (setPedalRec .damp { up.pedalRec .damp with sum := 14336, count := 7 } up)).pedalRec
        .damp).effective = 64 ∧
      ((after (.pedalGroupComplete .damp 400) (setPedalRec .damp { up.pedalRec .damp with sum := 300, count := 7 } up)).pedalRec
        .damp).player = 0 := by
  decide +kernel

/-- A derivation, a halted rail, the end of a wait, of a move, and the 64th sample outside the band. -/
theorem test_meets_RailSamplesMoveTheRail :
    up.Runs ∧ (up.channel .rail).health = .ok ∧ up.rlc.cal.floor ≤ (3700 : Raw).toNat ∧ (3700 : Raw).toNat ≤ up.rlc.cal.ceil ∧
      up.rlc.state = .unsettled ∧ up.par.railOutLimit < up.par.railInLimit ∧
      (after (.conversion .rail 3700) up).rlc.state = .engaged ∧ (after (.conversion .rail 300) up).rlc.state = .disengaged ∧
      (after (.conversion .rail 2000) up).rlc.state = .halted ∧
      (after (.conversion .rail 2000) (railIn .halted none)).rlc.state = .halted ∧
      (after (.conversion .rail 2000) (railIn .waitToEngage (some .disengaged))).rlc.state = .engaging ∧
      (after (.conversion .rail 3700) (railIn .engaging none)).rlc.state = .engaged ∧
      (after (.railDriftHalt 2000) (withRail (fun b => { b with drift := 63 }) (railIn .engaged none))).rlc.state = .halted ∧
      (after (.railDriftHalt 2000) (withRail (fun b => { b with drift := 62 }) (railIn .engaged none))).rlc.state = .engaged := by
  decide +kernel

/-- A key, a pedal and the rail at the last sample before a fault and before a recovery. -/
theorem test_meets_FaultsAndRecoveriesReachTheOwner :
    up.Runs ∧ (4000 : Nat) < (4033 : Raw).toNat ∧ (channelCal up (.key 0)).ceil < (4033 : Raw).toNat ∧
      up.par.faultPersist ≤ 7 + 1 ∧ up.par.recoverPersist ≤ 63 + 1 ∧
      ((after (.channelFault (.key 0) 4033)
        (setChannel (.key 0) ⟨0, .ok, 7, 0⟩ (withKey (fun r => { r with state := .struck }) up))).keyRec 0).state = .faulted ∧
      ((after (.channelRecovery (.key 0) 600)
        (setChannel (.key 0) ⟨0, .faulted, 0, 63⟩ (withKey (fun r => { r with state := .faulted }) up))).keyRec 0).state
        = .startHeld ∧
      ((after (.channelFault (.pedal .soft) 0) (setChannel (.pedal .soft) ⟨0, .ok, 7, 0⟩
        (setPedalRec .soft { up.pedalRec .soft with player := 9, effective := 9 } up))).pedalRec .soft).effective = 0 ∧
      (after (.channelFault .rail 0) (setChannel .rail ⟨0, .ok, 7, 0⟩ (railIn .engaging none))).rlc.state = .halted ∧
      (after (.channelRecovery .rail 3700) (setChannel .rail ⟨0, .faulted, 0, 63⟩
        (withRail (fun b => { b with faulted := true }) up))).rlc.state = .engaged ∧
      (after (.channelFault .rail 0) up).scn = up.scn := by
  decide +kernel

/-- The 96th reading of a plug, the last sample of a click, and neither. -/
theorem test_meets_SamplePeriodComputes :
    up.Runs ∧ (if (AudioFrame.mk 0 0 true).jackHigh then Jack.plug else .none) ≠ up.hpm.jack ∧
      (after (.jackAdoption ⟨0, 0, true⟩) (withHpm (fun h => { h with jackCount := 95 }) up)).hpm.jack = .plug ∧
      (after (.jackAdoption ⟨0, 0, true⟩) (withHpm (fun h => { h with jackCount := 94 }) up)).hpm.jack = .none ∧
      (after (.clickEnd ⟨0, 0, false⟩) (withHpm (fun h => { h with click := some ⟨.a, 255⟩ }) up)).hpm.click = none ∧
      (after (.clickEnd ⟨0, 0, false⟩) (withHpm (fun h => { h with click := some ⟨.a, 254⟩ }) up)).hpm.click = some ⟨.a, 254⟩ ∧
      (after (.outputSamplePeriod ⟨6000000, -6000000, true⟩)
        (withHpm (fun h => { h with gain := 32768, jack := .plug, loud := h.loud.set 16 32768, click := some ⟨.a, 0⟩ }) up)).hpm.limit
        = true := by
  decide +kernel

/-- Each state of the receiver, a good frame, a bad CRC, a length of 241 and a framing error. -/
theorem test_meets_FramesAreReceived :
    up.Runs ∧ up.lnk.rx = .hunt ∧ (240 : Byte).toNat ≤ 240 ∧ 240 < (241 : Byte).toNat ∧
      (after (.byteReceived 0x9E false) up).lnk.rx = .kind ∧ (after (.byteReceived 0x9E false) up).lnk.rxTimer = some 17 ∧
      (after (.byteReceived 0x10 false) (withLnk (fun l => { l with rx := .kind }) up)).lnk.rx = .length 0x10 ∧
      (after (.byteReceived 240 false) (withLnk (fun l => { l with rx := .length 0x10 }) up)).lnk.rx = .body 0x10 240 [] ∧
      (after (.byteReceived 241 false) (withLnk (fun l => { l with rx := .length 0x10 }) up)).lnk.badFrames = 1 ∧
      (after (.byteReceived 7 false) (withLnk (fun l => { l with rx := .body 0x10 2 [5] }) up)).lnk.rx = .check 0x10 [5, 7] ∧
      (after (.byteReceived 0 false) (withLnk (fun l => { l with rx := .check 0x10 [1] }) up)).lnk.badFrames = 1 ∧
      (after (.byteReceived 0 true) (withLnk (fun l => { l with rx := .kind }) up)).lnk.badFrames = 1 ∧
      (after (.byteReceived (linkCrc 0x10 [1]) false) (withLnk (fun l => { l with rx := .check 0x10 [1] }) up)).lnk =
        (after (.rail 1) up).lnk := by
  decide +kernel

/-- A frame under way, a reply, no frame, each class alone, and turns taken. -/
theorem test_meets_LinkTransmitterChooses :
    up.Runs ∧ up.lnk.tx = none ∧ up.lnk.replies = [] ∧ up.lnk.classE = [] ∧ up.lnk.fairE = false ∧
      reportKind (.ready 0) ≠ 0xF5 ∧ reportKind (.voiceDrop 0 1 .player 1 0) = 0xF5 ∧
      (linkChoose (withLnk (fun l => { l with classE := [.voiceDrop 0 1 .player 1 0] })
        (withVdp (fun v => { v with dropWaiting := true }) up))).vdp.dropWaiting = false ∧
      (linkChoose (withLnk (fun l => { l with classP := [.ready 0], classE := [.voiceDrop 0 1 .player 1 0], fairE := true }) up)).lnk.fairP
        = true ∧
      (linkChoose (withLnk (fun l => { l with classN := [.release 0 false false 0], fairN := true }) up)).lnk.classN = [] := by
  decide +kernel

/-- Each class disabled, with room and full. -/
theorem test_meets_ReportsJoinTheirQueues :
    reportClass (.release 0 false false 0) = .n ∧ reportClass (.ready 0) = .p ∧
      reportClass (.voiceDrop 0 1 .player 1 0) = .e ∧ up.par.reportEnable.testBit 0 = true ∧
      up.par.reportEnable.testBit 1 = true ∧ up.par.reportEnable.testBit 2 = true ∧ Nat.testBit 6 0 = false ∧
      Nat.testBit 5 1 = false ∧ Nat.testBit 3 2 = false ∧ up.lnk.classN.length < 64 ∧
      63 ≤ (List.replicate 63 (Report.ready 0)).length ∧
      (handReport (.ready 0) (withLnk (fun l => { l with classP := List.replicate 32 (.ready 0) }) up)).lnk.overP = 1 := by
  decide +kernel

/-- The damper and the sostenuto pedal at this effective level, and this HOLD and latch. -/
def pedalsAt (level : Nat) (hold : Bool) (latch : Option (List Key)) : State :=
  up.modPtr fun b => { b with
    pedals := { b.pedals with
      sost := { b.pedals.sost with player := level, effective := level }
      damp := { b.pedals.damp with player := level, effective := level } }
    hold := hold
    latch := latch }

/-- A HOLD_ON at HOLD_OFF and one above it, a HOLD_OFF at HOLD_ON and one below; each test at its threshold and one below. -/
theorem test_meets_HoldWritesTestAtOnce_bounds :
    (after (.holdOnWrite 48) up).par.holdOff = 47 ∧ (after (.holdOnWrite 48) up).lnk.tx = some ⟨0x82, [0, 0, 1, 0, 1, 0, 0]⟩ ∧
      (after (.holdOnWrite 49) up).par.holdOff = 48 ∧ (after (.holdOnWrite 49) up).lnk.tx = some ⟨0x82, [0, 0, 1, 0, 0, 0, 0]⟩ ∧
      (after (.holdOffWrite 64) up).par.holdOff = 63 ∧ (after (.holdOffWrite 64) up).lnk.tx = some ⟨0x82, [0, 0, 1, 0, 1, 0, 0]⟩ ∧
      (after (.holdOffWrite 63) up).par.holdOff = 63 ∧ (after (.holdOffWrite 63) up).lnk.tx = some ⟨0x82, [0, 0, 1, 0, 0, 0, 0]⟩ ∧
      (testHold (pedalsAt 64 false none)).ptr.hold = true ∧ (testHold (pedalsAt 63 false none)).ptr.hold = false ∧
      (testHold (pedalsAt 48 true none)).ptr.hold = true ∧ (testHold (pedalsAt 47 true none)).ptr.hold = false ∧
      (testLatch (setSound 4 ⟨true, true, false, 9, .player, false⟩ (pedalsAt 64 false none))).ptr.latch = some [4] ∧
      (testLatch (pedalsAt 63 false none)).ptr.latch = none ∧ (testLatch (pedalsAt 48 false (some [4]))).ptr.latch = some [4] ∧
      (testLatch (setSound 4 ⟨true, false, false, 9, .player, false⟩ (pedalsAt 47 false (some [4])))).vdp.queue =
        up.vdp.queue ++ [.noteOff 4 9 .player] := by
  decide +kernel

/-- K88 with a pending record; the last run of each table and the one past it; the greatest count and the one above. -/
theorem test_meets_TableReadShowsTables_bounds :
    (after (.tableRead 0 0 88 1)
        (setKeyRec 87 { up.keyRec 87 with pendingCal := some ⟨1, 2, 3, 4, 5, 6, 7, 8, 257⟩ } up)).lnk.tx =
        some ⟨0x83, [0, 0, 88, 0, 1, 88, 0, 0, 1, 0, 2, 0, 3, 0, 4, 0, 5, 0, 6, 0, 7, 0, 8, 1, 1]⟩ ∧
      (after (.tableRead 1 0 3 1) up).lnk.tx = some ⟨0x83, [0, 1, 3, 0, 1, 1, 44, 14, 116, 0, 64, 15, 192]⟩ ∧
      (after (.tableRead 2 3 32 1) up).lnk.tx = some ⟨0x83, [0, 2, 3, 32, 0, 1, 127]⟩ ∧
      (after (.tableRead 4 0 31 1) up).lnk.tx = some ⟨0x83, [0, 4, 31, 0, 1, 128, 0]⟩ ∧
      (after (.tableRead 5 1 0 1) up).lnk.tx = some ⟨0x83, [0, 5, 1, 0, 0, 1, 46, 224]⟩ ∧
      [(0, 0, 79, 11), (1, 0, 1, 4), (2, 3, 1, 33), (2, 4, 0, 33), (3, 0, 1, 33), (4, 0, 1, 32), (5, 0, 140, 117),
          (5, 2, 0, 1), (0, 0, 0, 1)].all (fun x : Byte × Byte × Byte × Half =>
        (after (.tableRead x.1 x.2.1 x.2.2.1 x.2.2.2) up).lnk.tx == some ⟨0x83, [3]⟩) = true ∧
      [(0, 0, 78, 12), (1, 0, 0, 5), (2, 3, 0, 34), (3, 0, 0, 34), (4, 0, 0, 33), (5, 0, 0, 118), (5, 1, 0, 0)].all
        (fun x : Byte × Byte × Byte × Half =>
          (after (.tableRead x.1 x.2.1 x.2.2.1 x.2.2.2) up).lnk.tx == some ⟨0x83, [1]⟩) = true ∧
      [(0, 0, 78, 11), (1, 0, 0, 4), (2, 3, 0, 33), (3, 0, 0, 33), (4, 0, 0, 32), (5, 1, 139, 117)].all
        (fun x : Byte × Byte × Byte × Half =>
          (after (.tableRead x.1 x.2.1 x.2.2.1 x.2.2.2) up).lnk.replies.isEmpty &&
            ((after (.tableRead x.1 x.2.1 x.2.2.1 x.2.2.2) up).lnk.tx.map fun f => f.payload.headD 9) == some 0) = true := by
  decide +kernel

/-- 79 entries and 80; index 32 and 33. -/
theorem test_meets_PlainParamWritesStore_runs :
    (after (.paramWrite (List.replicate 79 ⟨20, 7⟩)) up).lnk.tx = some ⟨0x82, [0, 0, 79, 0, 0, 0, 0]⟩ ∧
      (after (.paramWrite (List.replicate 80 ⟨20, 7⟩)) up).lnk.tx = some ⟨0x82, [1]⟩ ∧
      (after (.paramWrite [⟨32, 9⟩]) up).par.reportEnable = 7 ∧
      (after (.paramWrite [⟨20, 7⟩, ⟨33, 9⟩]) up).lnk.tx = some ⟨0x82, [3]⟩ ∧
      (after (.paramWrite [⟨20, 7⟩, ⟨33, 9⟩]) up).par.rampStep = 32 := by
  decide +kernel

/-- Runs of 12 and 13 keys and of 4 and 5 records; keys 0, 88 and 89, records 3 and 4; a run of which the check refuses one. -/
theorem test_meets_CalibrationWritesPlaceTheRecord_runs :
    (after (.calWrite (List.replicate 12 ⟨88, 3600, 600, 64, 4032, 0, 1400, 2600, 5000, 768⟩)) up).lnk.tx =
        some ⟨0x82, [0, 0, 12, 0, 24, 0, 0]⟩ ∧
      (after (.calWrite (List.replicate 13 ⟨88, 3600, 600, 64, 4032, 600, 1400, 2600, 3300, 768⟩)) up).lnk.tx =
        some ⟨0x82, [1]⟩ ∧
      (after (.calWrite [⟨1, 3600, 600, 64, 4032, 600, 1400, 2600, 3300, 9⟩, ⟨89, 3600, 600, 64, 4032, 600, 1400, 2600, 3300, 768⟩])
        up).lnk.tx = some ⟨0x82, [3]⟩ ∧
      (after (.calWrite [⟨0, 3600, 600, 64, 4032, 600, 1400, 2600, 3300, 768⟩]) up).lnk.tx = some ⟨0x82, [3]⟩ ∧
      (after (.calWrite [⟨1, 3600, 600, 64, 4032, 600, 1400, 2600, 3300, 9⟩, ⟨2, 3600, 600, 64, 4032, 1400, 1400, 2600, 3300, 768⟩])
        up).lnk.tx = some ⟨0x82, [0, 0, 1, 0, 0, 0, 1]⟩ ∧
      (after (.pcalWrite (List.replicate 4 ⟨3, 1, 2, 3, 4⟩)) up).lnk.tx = some ⟨0x82, [0, 0, 4, 0, 0, 0, 0]⟩ ∧
      (after (.pcalWrite (List.replicate 5 ⟨3, 1, 2, 3, 4⟩)) up).lnk.tx = some ⟨0x82, [1]⟩ ∧
      (after (.pcalWrite [⟨4, 1, 2, 3, 4⟩]) up).lnk.tx = some ⟨0x82, [3]⟩ ∧
      (after (.pcalWrite [⟨0, 1, 2, 3, 4⟩, ⟨3, 1, 2, 3, 4⟩]) (railIn .engaging none)).lnk.tx = some ⟨0x82, [4, 0, 1, 0, 0, 0, 1]⟩ := by
  decide +kernel

/-- An empty run, a run too long and a run past the end, for each table; a curve 4 and a sound 2. -/
theorem test_meets_TableRunsAreStored_refusals :
    [Instr.curveWrite 0 0 [], .curveWrite 0 0 (List.replicate 34 9), .loudWrite 0 [], .loudWrite 0 (List.replicate 33 9),
          .clickWrite 0 0 [], .clickWrite 0 0 (List.replicate 119 9)].all (fun c => (after c up).lnk.tx == some ⟨0x82, [1]⟩) = true ∧
      [Instr.curveWrite 4 0 [9], .curveWrite 0 32 [9, 9], .loudWrite 31 [9, 9], .clickWrite 2 0 [9],
          .clickWrite 0 255 [9, 9]].all (fun c => (after c up).lnk.tx == some ⟨0x82, [3]⟩) = true := by
  decide +kernel

/-- A take that records into a ring of 1,024, its reference sweep `age` sweeps old. -/
def recording (mode count : Nat) (age : Sweep) : State :=
  withTkr (fun b => { b with state := .recording, reference := some (-age), count := count, writeIndex := count % 1024 })
    (withPar (fun p => { p with takeSize := 0, takeMode := mode }) up)

/-- ONE-SHOT with one place left and with none; a reference one sweep too young. -/
theorem test_meets_TakeGapIsAppended_bounds :
    (after .takeGap (recording 1 1023 4094)).tkr.state = .full ∧ (after .takeGap (recording 1 1023 4094)).tkr.count = 1024 ∧
      (after .takeGap (recording 1 1024 4094)).tkr.state = .full ∧ (after .takeGap (recording 1 1024 4094)).mem = [] ∧
      elapsed ((recording 0 5 4093).now + 1) (-4093) ≠ 4095 ∧ (after .takeGap (recording 0 5 4093)).tkr.count = 5 ∧
      elapsed ((recording 0 5 4095).now + 1) (-4095) ≠ 4095 ∧ (after .takeGap (recording 0 5 4095)).tkr.count = 5 := by
  decide +kernel

/-- A full ring in RING mode; ONE-SHOT with one place left and with none; FULL; an armed SYNC; a place in each state. -/
theorem test_meets_StrikesAreVoicedAndPlayerEventsRecorded_bounds :
    (playerEvent 1 60 80 (recording 0 1024 4095)).tkr.oldest = 1 ∧ (playerEvent 1 60 80 (recording 0 1023 4095)).tkr.count = 1024 ∧
      takeEntry (readEntry (playerEvent 1 60 80 (recording 0 1024 4095)).mem (15360 + 0)) = ⟨4095, 1, 60, 80⟩ ∧
      (playerEvent 1 60 80 (recording 1 1023 5)).lnk.classP = [.captureFull 1024 1024 0] ∧
      (playerEvent 1 60 80 (recording 1 1024 5)).lnk.classP = [.captureFull 1024 1024 0] ∧
      (playerEvent 1 60 80 (recording 1 1024 5)).mem = [] ∧
      playerEvent 1 60 80 (withTkr (fun b => { b with state := .full }) up) = withTkr (fun b => { b with state := .full }) up ∧
      (playerEvent 1 60 80 (withTkr (fun b => { b with state := .armed, armedSync := some 300 }) up)).tkr.count = 2 ∧
      takeEntry (readEntry (playerEvent 1 60 80 (withTkr (fun b => { b with state := .armed, armedSync := some 300 }) up)).mem 12288)
        = ⟨0, 5, 2, 44⟩ ∧
      (playbackPlaced 300 (withTkr (fun b => { b with state := .armed }) up)).tkr.armedSync = some 300 ∧
      (playbackPlaced 16383 (recording 0 7 9)).tkr.count = 8 ∧
      (takeEntry (readEntry (playbackPlaced 16383 (recording 0 7 9)).mem 15367)).syncIndex = 16383 ∧ playbackPlaced 3 up = up := by
  decide +kernel

/-- A release at 31 and at 32 queued frames; a pedal frame in the queue, none at 31 and none at 32; a level that leaves the effective level as it is. -/
theorem test_meets_EnqueueRules_levels :
    (releaseEval 4 (setSound 4 ⟨true, false, false, 9, .player, false⟩
        (withVdp (fun v => { v with queue := List.replicate 31 .allDamp }) up))).vdp.queue.length = 32 ∧
      ((releaseEval 4 (setSound 4 ⟨true, false, false, 9, .player, false⟩
        (withVdp (fun v => { v with queue := List.replicate 32 .allDamp }) up))).sound 4).offPending = true ∧
      held (setSound 4 ⟨true, false, false, 9, .player, false⟩ up) 4 = false ∧
      (releaseEvals [4, 5] (setSound 5 ⟨true, false, false, 8, .playback, false⟩
        (setSound 4 ⟨true, false, false, 9, .player, false⟩ up))).vdp.queue =
        up.vdp.queue ++ [.noteOff 4 9 .player, .noteOff 5 8 .playback] ∧
      (voicePedal .soft 7 up).vdp.queue = [.pedal .damp 0, .pedal .soft 7, .pedal .sost 0] ∧
      (voicePedal .soft 7 (withVdp (fun v => { v with queue := List.replicate 31 .allDamp }) up)).vdp.queue.length = 32 ∧
      (voicePedal .soft 7 (withVdp (fun v => { v with queue := List.replicate 32 .allDamp }) up)).vdp.remembered.soft = some 7 ∧
      (playbackLevel .damp 64 (pedalsAt 20 false none)).ptr.hold = true ∧
      (playbackLevel .damp 20 (pedalsAt 20 false none)).vdp.queue = up.vdp.queue ∧
      ((playbackLevel .sost 19 (pedalsAt 20 false none)).pedalRec .sost).effective = 20 := by
  decide +kernel

/-- A watch of K1 that has gathered this many samples, with these sweeps remaining. -/
def watching (gathered remaining : Nat) (started : Bool) (s : State) : State :=
  s.modScn fun b => { b with
    watch := some ⟨.key 0, remaining, if gathered = 0 then none else some 3, List.replicate gathered 0, started⟩ }

/-- The first sample, the 100th, the last, one before the watch's first sweep, and one of another channel, in WARMUP, OK and FAULTED. -/
theorem test_meets_WatchOpensAndCloses_gathering :
    (after (.conversion (.key 0) 9) (watching 0 2 true State.reset)).scn.watch = some ⟨.key 0, 1, some 0, [9], true⟩ ∧
      (after (.conversion (.key 0) 9) (watching 98 2 true up)).scn.watch =
        some ⟨.key 0, 1, some 3, List.replicate 98 0 ++ [9], true⟩ ∧
      (after (.conversion (.key 0) 9) (watching 99 2 true up)).scn.watch = some ⟨.key 0, 1, none, [], true⟩ ∧
      (handReport (.watch (.key 0) 3 (List.replicate 99 0 ++ [9]) false) up).lnk.classP.length = 1 ∧
      (watchGather (.key 0) 9 (watching 99 1 true up)).lnk.classP = [.watch (.key 0) 3 (List.replicate 99 0 ++ [9]) true] ∧
      (watchGather (.key 0) 9 (watching 0 1 true up)).lnk.classP = [.watch (.key 0) 0 [9] true] ∧
      (watchGather (.key 0) 9 (watching 99 2 true up)).lnk.classP = [.watch (.key 0) 3 (List.replicate 99 0 ++ [9]) false] ∧
      (after (.conversion (.key 0) 9) (watching 5 2 false up)).scn.watch = (watching 5 2 false up).scn.watch ∧
      (after (.conversion (.key 1) 9) (watching 5 2 true up)).scn.watch = (watching 5 2 true up).scn.watch ∧
      (after (.conversion (.key 0) 9) (setChannel (.key 0) ⟨0, .faulted, 0, 0⟩ (watching 5 2 true up))).scn.watch =
        some ⟨.key 0, 1, some 3, List.replicate 5 0 ++ [9], true⟩ := by
  decide +kernel

/-- The READY report, a sweep of the warm-up, each owed expiry, and a watch whose first sweep begins. -/
theorem test_meets_SweepAdvancesAndEndsWarmup_owed :
    (beginSweep (State.reset.modScn fun b => { b with warmupCount := 399 })).lnk.classP = [.ready 1] ∧
      (beginSweep (State.reset.modScn fun b => { b with warmupCount := 398 })).scn.warmupCount = 399 ∧
      ((after .sweep gatedUp).keyRec 0).state = .creep ∧
      (after .sweep (up.modKtr fun b => { b with lastStrike := some 1, strikeAge := some 0 })).ktr.lastStrike = none ∧
      (after .sweep (withRail (fun b => { b with moveTimer := some 0 }) (railIn .engaging none))).rlc.state = .halted ∧
      (after .sweep (withRail (fun b => { b with waitTimer := some 0 }) (railIn .waitToEngage (some .halted)))).rlc.state = .halted ∧
      (after .sweep (withLnk (fun l => { l with rx := .kind, rxTimer := some 0 }) up)).lnk.badFrames = 1 ∧
      (after .sweep (watching 0 2 false up)).scn.watch = some ⟨.key 0, 2, none, [], true⟩ := by
  decide +kernel

/-- A pulse at beat pulse count 0, at bar position 0 and after it, and at count 1; the last count and the last bar position. -/
theorem test_meets_PulseMovesTheClock_click :
    (after .pulse (withPar (fun p => { p with metroMode := 2 }) (playing .score 5))).hpm.click = some ⟨.a, 0⟩ ∧
      (after .pulse (withPbe (fun b => { b with barPosition := 1 })
        (withPar (fun p => { p with metroMode := 2 }) (playing .score 5)))).hpm.click = some ⟨.b, 0⟩ ∧
      (after .pulse (withPbe (fun b => { b with beatPulse := 1 })
        (withPar (fun p => { p with metroMode := 2 }) (playing .score 5)))).hpm.click = none ∧
      (after .pulse (withPbe (fun b => { b with beatPulse := 95 }) (playing .score 5))).pbe.beatPulse = 0 ∧
      (after .pulse (withPbe (fun b => { b with barPosition := 3 }) (playing .score 5))).pbe.barPosition = 0 := by
  decide +kernel

/-- Each kind at the ends of its fields, in a score and in a take; MARK 0 and 1; a run of several entries; a take's last entry. -/
theorem test_meets_RunPerformsTheEntry_kinds :
    (performScore (scoreEntry (scoreBytes 0 1 88 0)) 0 up).vdp.queue.length = 4 ∧
      performScore (scoreEntry (scoreBytes 0 1 89 80)) 0 up = up ∧ performScore (scoreEntry (scoreBytes 0 2 0 80)) 0 up = up ∧
      ((performScore (scoreEntry (scoreBytes 0 2 5 0)) 0 (setSound 4 ⟨true, false, true, 9, .player, false⟩ up)).sound 4).sounding
        = false ∧
      ((performScore (scoreEntry (scoreBytes 0 3 2 200)) 0 up).pedalRec .damp).playback = 127 ∧
      performScore (scoreEntry (scoreBytes 0 3 3 200)) 0 up = up ∧
      (performScore (scoreEntry (scoreBytes 0 4 1 0)) 0 up).hpm.click = some ⟨.a, 0⟩ ∧
      (performScore (scoreEntry (scoreBytes 0 4 0 0)) 0 up).hpm.click = some ⟨.b, 0⟩ ∧
      (performScore (scoreEntry (scoreBytes 0 5 0 0)) 0 up).pbe.tempo = 20 ∧
      (performScore (scoreEntry (scoreBytes 0 6 1 0)) 9 up).lnk.classP = [.play .stopped none .score 9 .mark (some 1) 0] ∧
      performScore (scoreEntry (scoreBytes 0 6 0 0)) 9 up = up ∧
      (performScore (scoreEntry (scoreBytes 0 15 0 0)) 9 up).lnk.classE = [.scoreFault .kind 9 0 0] ∧
      (performScore (scoreEntry (scoreBytes 0 1 40 80)) 9 (withPar (fun p => { p with practiceMode := 1 }) up)).prm.expected.length
        = 1 ∧
      (performTake (takeEntry (takeBytes 0 1 88 80)) 9 up).vdp.queue.length = 4 ∧
      performTake (takeEntry (takeBytes 0 6 88 80)) 9 up = up ∧
      (scoreRun 3 (withEntries 0 [scoreBytes 0 7 0 0, scoreBytes 0 7 0 0, scoreBytes 0 7 0 0] (playing .score 1))).pbe.cursor = 3 ∧
      (scoreRun 2 (withEntries 0 [scoreBytes 0 8 0 5, scoreBytes 0 7 0 0, scoreBytes 0 7 0 0] (playing .score 1))).pbe.cursor = 7 ∧
      (scoreRun 1 (withEntries 0 [scoreBytes 0 8 0 5] (playing .score 1))).pbe.cursor = 0 ∧
      (takeRun 2 (withEntries 12288 [takeBytes 0 5 0 0, takeBytes 0 5 0 0] (playing .take 1))).pbe.state = .stopped := by
  decide +kernel

/-- The close of a WAIT group with a key awaited and with none, with and without a timeout. -/
theorem test_meets_RunPerformsTheEntry_groups :
    (endGroup (withPrm (fun b => { b with groupKeys := [1], expected := [⟨1, 0, 4, none⟩] })
        (withPar (fun p => { p with practiceMode := 2, waitTimeout := 5 }) (playing .score 1)))).prm.waitTimer = some 5 ∧
      (endGroup (withPrm (fun b => { b with groupKeys := [1], expected := [⟨1, 0, 4, none⟩] })
        (withPar (fun p => { p with practiceMode := 2 }) (playing .score 1)))).pbe.state = .waiting ∧
      (endGroup (withPrm (fun b => { b with groupKeys := [1] })
        (withPar (fun p => { p with practiceMode := 2 }) (playing .score 1)))).pbe.state = .running ∧
      (after .run (withPar (fun p => { p with practiceMode := 2 })
        (withEntries 0 [scoreBytes 0 1 40 80, scoreBytes 3 0 0 0] (playing .score 1)))).pbe.state = .waiting := by
  decide +kernel

/-- A navigation entry at the last index; a carry of kind 0, 8, 12, 7 and 13; a carry that lets the JUMP go on and one that stops. -/
theorem test_meets_NavigationMovesTheCursor_carry :
    (performNavigation (scoreEntry (scoreBytes 0 8 0 0)) 12287 (playing .score 1)).lnk.classE = [.scoreFault .range 12287 0 0] ∧
      (performNavigation (scoreEntry (scoreBytes 0 8 0 0)) 0 (playing .score 1)).lnk.classE = [.scoreFault .carry 0 0 0] ∧
      (performNavigation (scoreEntry (scoreBytes 0 8 0 0)) 0 (withEntries 1 [scoreBytes 0 8 0 0] (playing .score 1))).lnk.classE =
        [.scoreFault .carry 0 0 0] ∧
      (performNavigation (scoreEntry (scoreBytes 0 8 0 0)) 0 (withEntries 1 [scoreBytes 0 12 0 0] (playing .score 1))).lnk.classE =
        [.scoreFault .carry 0 0 0] ∧
      (performNavigation (scoreEntry (scoreBytes 0 8 0 5)) 0 (withEntries 1 [scoreBytes 0 7 0 0] (playing .score 1))).pbe.cursor
        = 7 ∧
      (performNavigation (scoreEntry (scoreBytes 0 8 0 5)) 0 (withEntries 1 [scoreBytes 0 13 0 0] (playing .score 1))).lnk.classE =
        [.scoreFault .kind 1 0 0] ∧
      (performNavigation (scoreEntry (scoreBytes 0 8 0 5)) 0 (withEntries 1 [scoreBytes 0 5 0 99] (playing .score 1))).pbe.tempo
        = 99 := by
  decide +kernel

/-- MUTE mode in a score that runs, with these lists. -/
def muteWith (expected : List Expected) (recent : List Recent) : State :=
  withPar (fun p => { p with practiceMode := 1 })
    (withPbe (fun b => { b with state := .running, countdown := 9 })
      (withPrm (fun b => { b with recent := recent, expected := expected }) up))

/-- The recent list at 7 and 8; a strike 0 and EARLY sweeps old; an older entry of the key; the expectation list at 9 and 10; a group key again and one beyond 10; a part that does not listen. -/
theorem test_meets_PracticeHitsAndExpectations_lists :
    (practiceStrike 7 (muteWith [] (List.replicate 7 ⟨5, 0⟩))).prm.recent.length = 8 ∧
      (practiceStrike 7 (muteWith [] (⟨6, -9⟩ :: List.replicate 7 ⟨5, 0⟩))).lnk.classP = [.practice 6 .wrong .evicted 9 none 1 0] ∧
      practiceStrike 7 up = up ∧ listening up = false ∧
      (expectedNote 5 4 (muteWith [] [⟨5, -1600⟩, ⟨6, 0⟩])).lnk.classP = [.practice 5 .hit .early (-1600) (some 4) 1 0] ∧
      (expectedNote 5 4 (muteWith [] [⟨5, -1600⟩, ⟨6, 0⟩])).prm.recent = [⟨6, 0⟩] ∧
      (expectedNote 5 4 (muteWith [] [⟨5, -9⟩, ⟨5, 0⟩])).lnk.classP = [.practice 5 .hit .early 0 (some 4) 1 0] ∧
      (expectedNote 5 4 (muteWith [⟨5, -9, 2, some 3⟩] [])).lnk.classP = [.practice 5 .miss .repeated 9 (some 2) 1 0] ∧
      (expectedNote 80 4 (muteWith ((List.range 9).map fun i => ⟨Fin.ofNat 88 i, 0, i, some 3⟩) [])).prm.expected.length = 10 ∧
      (expectedNote 80 4 (muteWith ((List.range 10).map fun i => ⟨Fin.ofNat 88 i, -9, i, some 3⟩) [])).lnk.classP =
        [.practice 0 .miss .evicted 9 (some 0) 1 0] ∧
      expectedNote 7 4 (withPrm (fun b => { b with groupKeys := [7] }) waitingUp) =
        withPrm (fun b => { b with groupKeys := [7] }) waitingUp ∧
      ((expectedNote 80 4 (withPrm (fun b => { b with
        expected := (List.range 10).map fun i => ⟨Fin.ofNat 88 i, 0, i, none⟩ }) waitingUp)).sound 80).playbackHolder = true ∧
      (practiceStrike 1 (withPrm (fun b => { b with expected := [⟨1, 0, 4, none⟩] }) waitingUp)).pbe.state = .running := by
  decide +kernel

/-- A stopped, a paused and an OFF part, in which the three sweeps do not come about. -/
theorem test_meets_PracticeSweepResolves_silent :
    up.pbe.state = .stopped ∧ (withPbe (fun b => { b with state := .paused }) muteUp).pbe.state = .paused ∧
      (after .staleStrikeAged (withPbe (fun b => { b with state := .paused }) muteUp)).prm.recent.length = 1 ∧
      (after .deadlineExpiry (withPbe (fun b => { b with state := .stopped }) muteUp)).scn.sweep = 0 ∧
      (after .waitTimerExpiry (withPar (fun p => { p with practiceMode := 0 }) waitingUp)).prm.expected.length = 2 := by
  decide +kernel

/-- R163: K1 struck in the sweep in which its note falls due, with EARLY 0, its sample taken before PBE's sweep event: HIT
EARLY with offset 0. The same sample after the sweep start is HIT LATE. -/
def struckFirst : State :=
  withPar (fun p => { p with practiceMode := 1, early := 0 })
    (withEntries 0 [scoreBytes 0 1 1 80, scoreBytes 3 0 0 0]
      ((withKey (fun r => { r with state := .gated, current := 2000, gate := some ⟨8, .g1, 99⟩ }) (playing .score 1)).modKtr
        fun b => { b with gatedCount := 1 }))

theorem test_strikeFirst :
    (startSweep { struckFirst with early := [[(.key 0, 700)]] }).prm.hits = 1 ∧
    (startSweep { struckFirst with early := [[(.key 0, 700)]] }).prm.expected = [] ∧
    (startSweep { struckFirst with early := [[(.key 0, 700)]] }).lnk.classP = [.practice 0 .hit .early 0 (some 0) 1 1] ∧
    (startSweep { struckFirst with early := [[(.key 0, 700)]] }).early = [] ∧
    (startSweep struckFirst).prm.expected.length = 1 ∧
    (convert (.key 0) 700 (startSweep struckFirst)).lnk.classP = [.practice 0 .hit .late 0 (some 0) 1 1] := by
  decide +kernel

/-- K1 in a state at a position, with nothing else of it known. -/
def keyIn (st : KeyState) (position : Nat) : State := withKey (fun r => { r with state := st, current := position }) up

/-- K1's state after a sample of this raw value. -/
def keyAfter (raw : Raw) (s : State) : KeyState := ((after (.conversion (.key 0) raw) s).keyRec 0).state

/-- 02, the default record: raw 2574 is position 1400, G1, and 2592 is 1376, its return point; 3178 is 576 and 3179 is 574, on the
two sides of 576, the return point of DMP; 1695 is 2600, RPT, and 1713 is 2576, its return point; 1183 is 3300, G2. -/
theorem test_positions : [2574, 2592, 2593, 3178, 3179, 1695, 1713, 1714, 1183].map (normalize (channelCal up (.key 0))) =
    [1400, 1376, 1374, 576, 574, 2600, 2576, 2575, 3300] := by
  decide +kernel

/-- Every exit of R22 to R33 at its threshold, the sample before it that leaves the key where it is, and the chains. -/
theorem test_meets_KeySamplesMoveTheKey_states :
    keyAfter 2574 (keyIn .lifted 1000) = .gated ∧ keyAfter 2575 (keyIn .lifted 1000) = .lifted ∧
      ((after (.conversion (.key 0) 2574) (keyIn .lifted 1000)).keyRec 0).gate = some ⟨BitVec.ofNat 32 ((2 ^ 28 - 1) * 16 + 16), .g1, 2399⟩ ∧
      (after (.conversion (.key 0) 2574) (keyIn .lifted 1000)).ktr.gatedCount = 1 ∧
      keyAfter 1695 (keyIn .rearm 2000) = .gated ∧ keyAfter 1697 (keyIn .rearm 2000) = .rearm ∧
      keyAfter 2592 gatedUp = .gated ∧ keyAfter 2593 gatedUp = .lifted ∧
      (after (.conversion (.key 0) 2593) gatedUp).ktr.gatedCount = 0 ∧
      keyAfter 3178 (keyIn .startHeld 900) = .startHeld ∧ keyAfter 3179 (keyIn .startHeld 900) = .rest ∧
      keyAfter 2592 (keyIn .creep 2000) = .creep ∧ keyAfter 2593 (keyIn .creep 2000) = .lifted ∧
      keyAfter 1713 (keyIn .struck 4000) = .struck ∧ keyAfter 1714 (keyIn .struck 4000) = .rearm ∧
      keyAfter 3178 (keyIn .lifted 900) = .lifted ∧ keyAfter 3178 (keyIn .rearm 900) = .rearm ∧
      [keyIn .lifted 900, gatedUp, keyIn .creep 900, keyIn .struck 900, keyIn .rearm 900].all (fun s =>
        keyAfter 3179 s == .rest && (after (.conversion (.key 0) 3179) s).ktr.gatedCount == 0 &&
          (after (.conversion (.key 0) 3179) s).lnk.tx == some (reportFrame (.release 0 false false 0))) = true ∧
      keyAfter 2574 (keyIn .rest 100) = .gated ∧
      [keyIn .rest 100, keyIn .lifted 900, keyIn .rearm 900].all (fun s =>
        keyAfter 1183 s == .struck && (after (.conversion (.key 0) 1183) s).ktr.gatedCount == 0) = true ∧
      ((after (.conversion (.key 0) 1183) (keyIn .rest 100)).sound 0).playerHolder = true := by
  decide +kernel

/-- The edge of each band and one position past it, at 62 samples before; a wait from HALTED and a wait from rest with a key in GATED; a move that continues. -/
theorem test_meets_RailSamplesMoveTheRail_drift :
    [3400, 3401].map (normalize up.rlc.cal) = [3734, 3735] ∧ normalize up.rlc.cal 3289 = 3600 ∧
      normalize up.rlc.cal 3288 = 3599 ∧ normalize up.rlc.cal 715 = 499 ∧ normalize up.rlc.cal 716 = 501 ∧
      (after (.conversion .rail 3289) (withRail (fun b => { b with drift := 62 }) (railIn .engaged none))).rlc.drift = 0 ∧
      (after (.conversion .rail 3288) (withRail (fun b => { b with drift := 62 }) (railIn .engaged none))).rlc.drift = 63 ∧
      (after (.conversion .rail 715) (withRail (fun b => { b with drift := 62 }) (railIn .disengaged none))).rlc.drift = 0 ∧
      (after (.conversion .rail 716) (withRail (fun b => { b with drift := 62 }) (railIn .disengaged none))).rlc.drift = 63 ∧
      (after (.conversion .rail 3288)
        (withRail (fun b => { b with state := .waitToDisengage, waitOrigin := some .engaged, drift := 5 }) gatedUp)).rlc.drift = 6 ∧
      (after (.conversion .rail 3288)
        (withRail (fun b => { b with state := .waitToDisengage, waitOrigin := some .halted, drift := 5 }) gatedUp)).rlc.drift = 5 ∧
      (after (.conversion .rail 3400) (railIn .engaging none)).rlc.state = .engaging ∧
      (after (.conversion .rail 3400) (railIn .engaging none)).rlc.position = 3734 ∧
      (after (.conversion .rail 716) (railIn .disengaging none)).rlc.state = .disengaging := by
  decide +kernel

/-- Both sides; each owner's own report; a fault in a rail wait; recovery of a pedal with N = 1; the samples before a fault and before a recovery. -/
theorem test_meets_FaultsAndRecoveriesReachTheOwner_reports :
    (convert (.key 0) 63 (setChannel (.key 0) ⟨0, .ok, 7, 0⟩ (keyIn .struck 900))).lnk.classE = [.sensorFault (.key 0) .low 63 0] ∧
      (convert (.key 0) 4033 (setChannel (.key 0) ⟨0, .ok, 7, 0⟩ (keyIn .struck 900))).lnk.classE =
        [.sensorFault (.key 0) .high 4033 0] ∧
      (convert (.key 0) 63 (setChannel (.key 0) ⟨0, .ok, 7, 0⟩ (keyIn .struck 900))).lnk.classN = [.release 0 true false 0] ∧
      (convert (.key 0) 63 (setChannel (.key 0) ⟨0, .ok, 7, 0⟩ (keyIn .rest 0))).lnk.classN = [] ∧
      (convert (.pedal .damp) 63 (setChannel (.pedal .damp) ⟨0, .ok, 7, 0⟩ (pedalsAt 9 false none))).lnk.classP =
        [.pedal .damp 0 true 0] ∧
      (convert .rail 63 (setChannel .rail ⟨0, .ok, 7, 0⟩ (railIn .waitToEngage (some .disengaged)))).lnk.classP =
        [.rail .disengaged .cancelled .fault (some .inward) 0 0] ∧
      (convert .rail 63 (setChannel .rail ⟨0, .ok, 7, 0⟩ (railIn .disengaging none))).lnk.classP =
        [.rail .halted .halted .fault (some .outward) 0 0] ∧
      (convert (.key 0) 64 (setChannel (.key 0) ⟨0, .faulted, 0, 63⟩ (keyIn .faulted 0))).lnk.classE = [.sensorRecovered (.key 0) 64 0] ∧
      ((convert (.pedal .damp) 4032 (setChannel (.pedal .damp) ⟨0, .faulted, 0, 63⟩
        (withPar (fun p => { p with pedalAccum := 0 }) up))).pedalRec .damp).effective = 127 ∧
      (convert .rail 3288 (setChannel .rail ⟨0, .faulted, 0, 63⟩ (railIn .engaged none))).rlc.drift = 1 ∧
      (convert (.key 0) 63 (setChannel (.key 0) ⟨0, .ok, 6, 0⟩ (keyIn .struck 900))).channel (.key 0) = ⟨63, .ok, 7, 0⟩ ∧
      (convert (.key 0) 64 (setChannel (.key 0) ⟨0, .ok, 6, 0⟩ (keyIn .struck 900))).channel (.key 0) = ⟨64, .ok, 0, 0⟩ ∧
      (convert (.key 0) 64 (setChannel (.key 0) ⟨0, .faulted, 0, 62⟩ (keyIn .faulted 0))).channel (.key 0) = ⟨64, .faulted, 0, 63⟩ ∧
      (convert (.key 0) 63 (setChannel (.key 0) ⟨0, .faulted, 0, 62⟩ (keyIn .faulted 0))).channel (.key 0) = ⟨63, .faulted, 0, 0⟩ := by
  decide +kernel

/-- The most negative and the greatest sample on HDOUT, read back as TDIN; the clocks standing still. -/
theorem test_meets_SamplePeriodComputes_frame :
    (audioOutput (withHpm (fun h => { h with outLeft := -8388608, outRight := 1 }) up))[1]? = some (false, true) ∧
      (audioOutput (withHpm (fun h => { h with outLeft := -8388608, outRight := 1 }) up))[56]? = some (true, true) ∧
      (audioOutput (withHpm (fun h => { h with outLeft := -8388608, outRight := 1 }) up))[57]? = some (true, false) ∧
      audioOutput State.powerOn = List.replicate 64 (false, false) ∧
      audioFrameOf (slotBits (-8388608) ++ slotBits 8388607) true = ⟨-8388608, 8388607, true⟩ ∧
      audioFrameOf (List.replicate 64 true) false = ⟨-1, -1, false⟩ := by
  decide +kernel

/-- The start byte bit by bit; a low stop bit; an idle line and a frame on ALTX. -/
theorem test_meets_FramesAreReceived_bits :
    serialBits 0x9E = [false, false, true, true, true, true, false, false, true, true] ∧
      readSerial [false, false, true, true, true, true, false, false, true, true] = some (0x9E, false) ∧
      readSerial [false, false, true, true, true, true, false, false, true, false] = some (0x9E, true) ∧
      readSerial (List.replicate 10 true) = none ∧ alrxCommand (serialBits 0) = some (.byteReceived 0 false) ∧
      altxLevels up = [true] ∧ (altxLevels (after .ping up)).length = 110 := by
  decide +kernel

/-- The invariants have states that meet them and move: the state after reset, with a command waiting. -/
theorem test_meets_StepKeeps :
    KeepsMemory { State.reset with pending := [.sweep] } ∧ KeepsThresholds { State.reset with pending := [.sweep] } ∧
    KeepsQueues { State.reset with pending := [.sweep] } ∧ KeepsDrive { State.reset with pending := [.sweep] } ∧
    KeepsGated { State.reset with pending := [.sweep] } ∧ KeepsLevels { State.reset with pending := [.sweep] } ∧
    KeepsOwed { State.reset with pending := [.sweep] } ∧ KeepsPlayback { State.reset with pending := [.sweep] } ∧
    KeepsVoiceLimits { State.reset with pending := [.sweep] } ∧ KeepsRing { State.reset with pending := [.sweep] } ∧
    KeepsPlaces { State.reset with pending := [.sweep] } ∧ KeepsPractice { State.reset with pending := [.sweep] } := by
  refine ⟨by decide +kernel, by decide +kernel, by decide +kernel, by decide +kernel, by decide +kernel, ?_, ?_, ?_, ?_, ?_,
    ?_, ?_⟩
  · intro p; cases p <;> rfl
  · show ∀ k, (State.sound { State.reset with pending := [.sweep] } k).sounding = true →
      held { State.reset with pending := [.sweep] } k = false →
      (State.sound { State.reset with pending := [.sweep] } k).offPending = true
    decide +kernel
  · refine ⟨?_, ?_⟩
    · show ∀ i < 33, paramLo i ≤ paramGet Params.defaults i ∧ paramGet Params.defaults i ≤ paramHi i
      decide +kernel
    · decide +kernel
  · refine ⟨by decide +kernel, fun p => by cases p <;> decide +kernel, fun _ => ⟨fun p => by cases p <;> rfl, ?_⟩⟩
    show ∀ k, (State.sound { State.reset with pending := [.sweep] } k).offPending = false
    decide +kernel
  · exact ⟨by decide +kernel, by decide +kernel, by decide +kernel⟩
  · exact ⟨by decide +kernel, by decide +kernel, by decide +kernel, by decide +kernel, by decide +kernel,
      fun h => absurd rfl h⟩
  · simp [KeepsPractice, PlaysIn, State.reset, State.powerOn, Prm.initial, Pbe.initial]

end Sys2Proof.Tests
end

namespace Sys2Proof.Machine

/-! ## The reset tables and the normalized position (01_sensor_scanning.md) -/

/-- R10: the position is the truncated quotient, clamped. -/
theorem normalize_cast (c : PcalRecord) (r : Raw) :
    (normalize c r : Int) =
      max 0 (min 4095 (Int.tdiv (((r.toNat : Int) - c.restRaw) * 4096) ((c.fullRaw : Int) - c.restRaw))) :=
  Int.toNat_of_nonneg (le_max_left _ _)

theorem normalize_le (c : PcalRecord) (r : Raw) : normalize c r ≤ 4095 := by
  have cast := normalize_cast c r
  omega

/-- Settles O41: the record in effect is the owner's own, and the clamp bounds the quotient. -/
theorem normalizationIsClamped : Obligations.NormalizationIsClamped :=
  ⟨fun _ _ => rfl, fun _ _ => rfl, fun _ => rfl, fun c r _ => ⟨normalize_cast c r, normalize_le c r⟩⟩

/-- R106: the samples of a default sound, whose peak fits a signed sample. -/
theorem defaultClick_toInt {peak : Nat} (half : Nat) (fits : peak < 2 ^ 15) (k : Fin 256) :
    ((defaultClick peak half)[k]).toInt =
      if k.val / half % 2 = 0 then ((peak * (256 - k.val) / 256 : Nat) : Int)
      else -((peak * (256 - k.val) / 256 : Nat) : Int) := by
  have bounded : peak * (256 - k.val) / 256 < 2 ^ 15 := by
    have : peak * (256 - k.val) / 256 ≤ peak * 256 / 256 :=
      Nat.div_le_div_right (Nat.mul_le_mul_left _ (Nat.sub_le ..))
    omega
  simp only [defaultClick, Fin.getElem_fin, Vector.getElem_ofFn]
  split
  · rw [BitVec.toInt_ofNat', Int.bmod_eq_of_le] <;> omega
  · rw [BitVec.toInt_ofInt, Int.bmod_eq_of_le] <;> omega

/-- R46: every key starts from the same record. -/
theorem powerOn_keyRec (k : Key) : State.powerOn.keyRec k = KeyRecord.initial := by
  simp [State.keyRec, State.powerOn, Ktr.initial]

/-- R40: each of the four curves starts with the default points. -/
theorem powerOn_curve (c : Fin 4) (i : Fin 33) :
    State.powerOn.ktr.curves[c][i] = max 1 (min 127 (4 * i.val)) := by
  simp [State.powerOn, Ktr.initial, defaultCurve]

/-- R60: every pedal starts from the same record. -/
theorem powerOn_pedalRec (p : Pedal) : State.powerOn.pedalRec p = PedalRecord.initial := by
  cases p <;> rfl

/-- R83: no key sounds. -/
theorem powerOn_sound (k : Key) : State.powerOn.sound k = SoundRecord.initial := by
  simp [State.sound, State.powerOn, Vdp.initial]

/-- R117: the default gains. -/
theorem powerOn_loud (k : Fin 32) : State.powerOn.hpm.loud[k] = 32768 * k.val / 31 := by
  simp [State.powerOn, Hpm.initial]

/-- Settles O4, chapter by chapter: the indexed tables by their lemmas, each other item by its reset value. -/
theorem resetTables : Obligations.ResetTables := by
  refine ⟨rfl, powerOn_keyRec, powerOn_curve, rfl, rfl, rfl, powerOn_pedalRec, rfl, rfl, powerOn_sound, rfl, rfl, rfl,
    rfl, rfl, rfl, rfl, rfl, rfl, rfl, rfl, rfl, rfl, rfl, powerOn_loud, ?clickA, ?clickB, rfl, rfl, rfl, fun _ => rfl,
    rfl, rfl, rfl, rfl, rfl⟩
  case clickA => exact defaultClick_toInt 6 (by decide)
  case clickB => exact defaultClick_toInt 8 (by decide)

/-! ## The raw watch and the conversion (R2, R4, R7, R8, R14 to R16) -/

/-! ### Channel numbers -/

/-- R2: a channel's number names it. -/
theorem channelOfNumber_channelNumber (c : Channel) : channelOfNumber (channelNumber c) = some c := by
  cases c with
  | key k =>
    have number : channelNumber (.key k) = keyNumber k := rfl
    simp [channelOfNumber, number, keyOfNumber_keyNumber]
  | pedal p => cases p <;> rfl
  | rail => rfl

/-- R2: no other number names a channel. -/
theorem channelOfNumber_eq_none {n : Nat} (out : n = 0 ∨ 92 < n) : channelOfNumber n = none := by
  have noKey : keyOfNumber n = none := dif_neg (by omega)
  simp only [channelOfNumber, noKey]
  split <;> [omega; omega; omega; omega; rfl]

/-! ### Records the scanner leaves alone -/

@[simp] theorem handReport_channel (r : Report) (s : State) (c : Channel) :
    (handReport r s).channel c = s.channel c := by simp [State.channel]

@[simp] theorem setChannel_watch (c : Channel) (r : ChannelRecord) (s : State) :
    (setChannel c r s).scn.watch = s.scn.watch := rfl

@[simp] theorem setChannel_state (c : Channel) (r : ChannelRecord) (s : State) :
    (setChannel c r s).scn.state = s.scn.state := rfl

@[simp] theorem setChannel_sweep (c : Channel) (r : ChannelRecord) (s : State) :
    (setChannel c r s).scn.sweep = s.scn.sweep := rfl

@[simp] theorem setChannel_leds (c : Channel) (r : ChannelRecord) (s : State) :
    (setChannel c r s).scn.leds = s.scn.leds := rfl

@[simp] theorem setChannel_now (c : Channel) (r : ChannelRecord) (s : State) : (setChannel c r s).now = s.now := rfl

/-- R15: gathering a sample touches the watch alone in the scanner. -/
theorem watchGather_scn (c : Channel) (r : Raw) (s : State) :
    (watchGather c r s).scn = { s.scn with watch := (watchGather c r s).scn.watch } := by
  unfold watchGather
  dsimp only
  (repeat' split) <;> simp

@[simp] theorem watchGather_state (c : Channel) (r : Raw) (s : State) :
    (watchGather c r s).scn.state = s.scn.state := by rw [watchGather_scn]

@[simp] theorem watchGather_sweep (c : Channel) (r : Raw) (s : State) :
    (watchGather c r s).scn.sweep = s.scn.sweep := by rw [watchGather_scn]

@[simp] theorem watchGather_leds (c : Channel) (r : Raw) (s : State) :
    (watchGather c r s).scn.leds = s.scn.leds := by rw [watchGather_scn]

@[simp] theorem watchGather_channel (c d : Channel) (r : Raw) (s : State) :
    (watchGather c r s).channel d = s.channel d := by
  unfold State.channel; rw [watchGather_scn]

/-- R7: a judged sample leaves everything in the scanner but the channel records. -/
theorem judgeOk_scn (c : Channel) (r : Raw) (s : State) :
    (judgeOk c r s).scn = { s.scn with channels := (judgeOk c r s).scn.channels } := by
  unfold judgeOk faultChannel
  dsimp only
  split <;> simp [setChannel]

/-- R8: a judged sample leaves everything in the scanner but the channel records. -/
theorem judgeFaulted_scn (c : Channel) (r : Raw) (s : State) :
    (judgeFaulted c r s).scn = { s.scn with channels := (judgeFaulted c r s).scn.channels } := by
  unfold judgeFaulted recoverChannel
  dsimp only
  split <;> simp [setChannel]

/-! ### A conversion by the state of the scanner and the health of the channel -/

/-- R15: what a conversion brings to the judgement: the last raw sample replaced and gathered by the watch. -/
def gathered (c : Channel) (r : Raw) (s : State) : State :=
  watchGather c r (setChannel c { s.channel c with lastRaw := r } s)

@[simp] theorem gathered_channel_self (c : Channel) (r : Raw) (s : State) :
    (gathered c r s).channel c = { s.channel c with lastRaw := r } := by simp [gathered]

theorem convert_warmup {c : Channel} {r : Raw} {s : State} (warming : s.scn.state = .warmup) :
    convert c r s = gathered c r s := by
  simp [convert, gathered, warming]

theorem convert_ok {c : Channel} {r : Raw} {s : State} (running : s.scn.state = .running)
    (ok : (s.channel c).health = .ok) : convert c r s = judgeOk c r (gathered c r s) := by
  simp [convert, gathered, running, ok]

theorem convert_faulted {c : Channel} {r : Raw} {s : State} (running : s.scn.state = .running)
    (faulted : (s.channel c).health = .faulted) : convert c r s = judgeFaulted c r (gathered c r s) := by
  simp [convert, gathered, running, faulted]

/-- R1, R3: a conversion leaves the sweep count and the LED banks. -/
theorem convert_sweep_leds (c : Channel) (r : Raw) (s : State) :
    (convert c r s).scn.sweep = s.scn.sweep ∧ (convert c r s).scn.leds = s.scn.leds := by
  cases st : s.scn.state with
  | warmup => simp [convert_warmup st, gathered]
  | running =>
    cases health : (s.channel c).health with
    | ok => rw [convert_ok st health, judgeOk_scn]; simp [gathered]
    | faulted => rw [convert_faulted st health, judgeFaulted_scn]; simp [gathered]

theorem exec_conversion {s : State} (runs : s.Runs) (c : Channel) (r : Raw) :
    exec (.conversion c r) s = .next (linkChoose (convert c r s)) := partEvent_runs runs _

/-! ### What the watch gathers (R15) -/

/-- The sweep a WATCH report of this sample's buffer starts from: now in an empty buffer, else the one noted. -/
def Watch.FirstIs (w : Watch) (now first : Sweep) : Prop :=
  w.buffer = [] ∧ first = now ∨ w.buffer ≠ [] ∧ w.first = some first

theorem watchAppend_eq {w : Watch} {now first : Sweep} (noted : w.FirstIs now first) (r : Raw) :
    watchAppend now r w =
      ⟨w.channel, w.remaining - 1, some first, w.buffer ++ [r], w.started⟩ := by
  rcases noted with ⟨empty, rfl⟩ | ⟨some, noted⟩ <;> simp_all [watchAppend]

/-- R14, R15: a sample of another channel, or before the first sweep of the watch, is not gathered. -/
theorem watchGather_apart {c : Channel} {s : State}
    (apart : ∀ w, s.scn.watch = some w → w.channel ≠ c ∨ w.started = false) (r : Raw) :
    watchGather c r s = s := by
  unfold watchGather
  split
  · rfl
  · next w watching =>
    rw [if_neg]
    rintro ⟨same, started⟩
    rcases apart w watching with other | fresh
    · exact other same
    · rw [started] at fresh
      cases fresh

section
variable {c : Channel} {w : Watch} {first : Sweep} {s : State} (watching : s.scn.watch = some w)
  (same : w.channel = c) (started : w.started = true) (noted : w.FirstIs s.now first) (r : Raw)
include watching same started noted

/-- R15: the sample joins a buffer that stays below 100. -/
theorem watchGather_appends (more : 1 < w.remaining) (room : w.buffer.length + 1 < 100) :
    watchGather c r s =
      { s with scn := { s.scn with watch := some ⟨c, w.remaining - 1, some first, w.buffer ++ [r], true⟩ } } := by
  have left : w.remaining - 1 ≠ 0 := by omega
  have below : ¬ 100 ≤ w.buffer.length + 1 := by omega
  simp [watchGather, watching, same, started, watchAppend_eq noted, Config.watchReport, left, below, State.modScn]

/-- R15: the hundredth sample sends the buffer and empties it. -/
theorem watchGather_sends (more : 1 < w.remaining) (full : 100 ≤ w.buffer.length + 1) :
    watchGather c r s =
      handReport (.watch c first (w.buffer ++ [r]) false)
        { s with scn := { s.scn with watch := some ⟨c, w.remaining - 1, none, [], true⟩ } } := by
  have left : w.remaining - 1 ≠ 0 := by omega
  simp [watchGather, watching, same, started, watchAppend_eq noted, Config.watchReport, left, full, State.modScn,
    watchReport]

/-- R15: the sample of the last sweep sends the buffer and ends the watch. -/
theorem watchGather_ends (last : w.remaining ≤ 1) :
    watchGather c r s =
      handReport (.watch c first (w.buffer ++ [r]) true) { s with scn := { s.scn with watch := none } } := by
  have none_left : w.remaining - 1 = 0 := by omega
  simp [watchGather, watching, same, started, watchAppend_eq noted, none_left, State.modScn, watchReport]

end

/-! ### The WATCH command (R14, R16) -/

theorem exec_watch {s : State} (takes : s.Takes) (channel : Byte) (count : Half) :
    exec (.watch channel count) s =
      .next (linkChoose (replied 0x50 (ownWatch channel count s).code (ownWatch channel count s).fields
        (ownWatch channel count s).st)) := acceptCommand_takes takes _ _

theorem closeWatch_none {s : State} (idle : s.scn.watch = none) : closeWatch s = s := by
  simp [closeWatch, idle]

/-- R16: closing a watch sends its buffer as a final report. -/
theorem closeWatch_some {s : State} {w : Watch} (watching : s.scn.watch = some w) :
    closeWatch s = handReport (.watch w.channel (w.first.getD s.now) w.buffer true)
      { s with scn := { s.scn with watch := none } } := by
  simp [closeWatch, watching, watchReport, State.modScn]

theorem ownWatch_close (channel : Byte) (s : State) : ownWatch channel 0 s = answerOk (closeWatch s) [] := by
  simp [ownWatch]

theorem ownWatch_badIndex {channel : Byte} {count : Half} (asks : count ≠ 0)
    (out : channel = 0 ∨ 92 < channel.toNat) (s : State) :
    ownWatch channel count s = answerRefused .badIndex s := by
  have unnamed : channelOfNumber channel.toNat = none :=
    channelOfNumber_eq_none (out.imp (fun zero => by simp [zero]) id)
  simp only [ownWatch, if_neg asks, unnamed]

theorem ownWatch_open {channel : Byte} {count : Half} {c : Channel} (asks : count ≠ 0)
    (named : channel.toNat = channelNumber c) (s : State) :
    ownWatch channel count s = answerOk (openWatch c count.toNat s) [] := by
  simp only [ownWatch, if_neg asks, named, channelOfNumber_channelNumber]

/-- A report handed before a scanner field is replaced is handed as well after it, with the scanner it reads. -/
theorem handReport_modScn (r : Report) (f : Scn → Scn) (s : State) :
    (handReport r s).modScn f = handReport r (s.modScn f) := by
  have accepted : reportAccepted r (s.modScn f) = reportAccepted r s := by cases r <;> rfl
  have enabled : classEnabled (s.modScn f) (reportClass r) = classEnabled s (reportClass r) := by cases r <;> rfl
  simp only [handReport, accepted, enabled]
  (repeat' split) <;> rfl

/-- R14: with no watch active, the new one alone. -/
theorem openWatch_none {s : State} (idle : s.scn.watch = none) (c : Channel) (count : Nat) :
    openWatch c count s =
      { s with scn := { s.scn with watch := some ⟨c, min 4000 count, none, [], false⟩ } } := by
  simp [openWatch, closeWatch_none idle, State.modScn, Config.watchMax]

/-- R14, R16: an active watch is closed first. -/
theorem openWatch_some {s : State} {w : Watch} (watching : s.scn.watch = some w) (c : Channel) (count : Nat) :
    openWatch c count s =
      handReport (.watch w.channel (w.first.getD s.now) w.buffer true)
        { s with scn := { s.scn with watch := some ⟨c, min 4000 count, none, [], false⟩ } } := by
  rw [openWatch, closeWatch_some watching, handReport_modScn]
  rfl

/-- Settles O33: WATCH by its owner's four answers, and a conversion by what the watch gathers before the judgement. -/
theorem watchOpensAndCloses : Obligations.WatchOpensAndCloses := by
  refine ⟨?idle, ?closes, ?badIndex, ?opens, ?reopens, ?gathers⟩
  case idle =>
    intro channel s takes idle
    rw [exec_watch takes, ownWatch_close, closeWatch_none idle]
    rfl
  case closes =>
    intro channel w s takes watching
    rw [exec_watch takes, ownWatch_close, closeWatch_some watching]
    rfl
  case badIndex =>
    intro channel count s takes asks out
    rw [exec_watch takes, ownWatch_badIndex asks out]
    rfl
  case opens =>
    intro channel count c s takes asks named idle
    rw [exec_watch takes, ownWatch_open asks named, openWatch_none idle]
    rfl
  case reopens =>
    intro channel count c w s takes asks named watching
    rw [exec_watch takes, ownWatch_open asks named, openWatch_some watching]
    rfl
  case gathers =>
    intro c r g u s runs replaced ways
    have watch : s.scn.watch = u.scn.watch := by rw [replaced]; rfl
    have now : s.now = u.now := by rw [replaced]; rfl
    have isGathered : g = gathered c r s := by
      rw [gathered, ← replaced]
      rw [watch, now] at ways
      rcases ways with ⟨rfl, apart⟩ | ⟨w, first, watching, same, started, noted, ways⟩
      · exact (watchGather_apart apart r).symm
      · rcases ways with ⟨more, room, rfl⟩ | ⟨more, full, rfl⟩ | ⟨last, rfl⟩
        · exact (watchGather_appends watching same started noted r more room).symm
        · exact (watchGather_sends watching same started noted r more full).symm
        · exact (watchGather_ends watching same started noted r last).symm
    subst isGathered
    refine ⟨fun warming => ?_, fun running ok => ⟨?_, ?_⟩, fun running faulted => ⟨?_, ?_⟩⟩
    · rw [exec_conversion runs, convert_warmup warming]
    · rw [exec_conversion runs, convert_ok running ok]
    · rw [judgeOk_scn]
    · rw [exec_conversion runs, convert_faulted running faulted]
    · rw [judgeFaulted_scn]

/-! ## Judgement with no watch running (R7, R8) -/

/-- With no watch running nothing is gathered. -/
theorem gathered_unwatched {c : Channel} {r : Raw} {s : State} (unwatched : s.scn.watch = none) :
    gathered c r s = setChannel c { s.channel c with lastRaw := r } s :=
  watchGather_apart (fun w watching => by rw [setChannel_watch, unwatched] at watching; cases watching) r

/-- R7: a sample inside FLOOR..CEIL. -/
theorem inWindow_true {cal : PcalRecord} {r : Raw} (above : cal.floor ≤ r.toNat) (below : r.toNat ≤ cal.ceil) :
    inWindow cal r = true := by simp [inWindow, above, below]

/-- R7: a sample below FLOOR or above CEIL. -/
theorem inWindow_false {cal : PcalRecord} {r : Raw} (out : r.toNat < cal.floor ∨ cal.ceil < r.toNat) :
    inWindow cal r = false := by
  simp only [inWindow, Bool.and_eq_false_iff, decide_eq_false_iff_not, not_le]
  exact out

/-- R7, R8: the fault and the recovery a sample brings do not depend on the last raw sample. -/
theorem faultsNow_lastRaw (c : Channel) (r x : Raw) (s : State) :
    faultsNow (setChannel c { s.channel c with lastRaw := x } s) c r = faultsNow s c r := by
  simp [faultsNow, channelCal_setChannel]

theorem recoversNow_lastRaw (c : Channel) (r x : Raw) (s : State) :
    recoversNow (setChannel c { s.channel c with lastRaw := x } s) c r = recoversNow s c r := by
  simp [recoversNow, channelCal_setChannel]

/-- R7: an inside sample of an OK channel clears the persistence count and is delivered. -/
theorem convert_delivers_inside {c : Channel} {r : Raw} {s : State} (running : s.scn.state = .running)
    (unwatched : s.scn.watch = none) (ok : (s.channel c).health = .ok)
    (inside : inWindow (channelCal s c) r = true) :
    convert c r s = deliverSample c (normalize (channelCal s c) r)
      (setChannel c { s.channel c with lastRaw := r, persistence := 0 } s) := by
  have sound : faultsNow s c r = false := by simp [faultsNow, inside]
  rw [convert_ok running ok, gathered_unwatched unwatched, judgeOk_delivers _ _ _ (by rw [faultsNow_lastRaw, sound])]
  simp [channelCal_setChannel, setChannel_setChannel, inside]

/-! ## What the blocks leave in the link (R197) -/

/-! ### A report and its class queue -/

theorem classQueue_setClassQueue_ne {c d : ReportClass} (other : c ≠ d) (q : List Report) (l : Lnk) :
    classQueue (setClassQueue d q l) c = classQueue l c := by
  cases d <;> cases c <;> simp_all [classQueue, setClassQueue]

theorem classQueue_reportOverrun_ne {c d : ReportClass} (other : c ≠ d) (l : Lnk) :
    classQueue (reportOverrun d l) c = classQueue l c := by
  cases d <;> cases c <;> simp_all [classQueue, reportOverrun]

/-- R197: a report leaves the queues of the other classes. -/
theorem handReport_other {r : Report} {c : ReportClass} (other : c ≠ reportClass r) (s : State) :
    classQueue (handReport r s).lnk c = classQueue s.lnk c := by
  unfold handReport
  (repeat' split) <;> simp [classQueue_setClassQueue_ne other, classQueue_reportOverrun_ne other]

/-- R197: a report of an enabled class joins a queue with room. -/
theorem handReport_joins {r : Report} {s : State} (enabled : classEnabled s (reportClass r) = true)
    (room : (classQueue s.lnk (reportClass r)).length < classCapacity (reportClass r)) :
    classQueue (handReport r s).lnk (reportClass r) = classQueue s.lnk (reportClass r) ++ [r] := by
  rw [handReport_accepted (by simp [reportAccepted, enabled, room])]
  cases reportClass r <;> rfl

section
variable {r : Report}

theorem handReport_of_classN (isN : reportClass r = .n) (s : State) :
    (handReport r s).lnk.classP = s.lnk.classP ∧ (handReport r s).lnk.classE = s.lnk.classE :=
  ⟨handReport_other (c := .p) (by simp [isN]) s, handReport_other (c := .e) (by simp [isN]) s⟩

theorem handReport_of_classP (isP : reportClass r = .p) (s : State) :
    (handReport r s).lnk.classN = s.lnk.classN ∧ (handReport r s).lnk.classE = s.lnk.classE :=
  ⟨handReport_other (c := .n) (by simp [isP]) s, handReport_other (c := .e) (by simp [isP]) s⟩

theorem handReport_of_classE (isE : reportClass r = .e) (s : State) :
    (handReport r s).lnk.classN = s.lnk.classN ∧ (handReport r s).lnk.classP = s.lnk.classP :=
  ⟨handReport_other (c := .n) (by simp [isE]) s, handReport_other (c := .p) (by simp [isE]) s⟩

variable {s : State}

theorem handReport_joins_classN (isN : reportClass r = .n) (enabled : s.par.reportEnable.testBit 0 = true)
    (room : s.lnk.classN.length < 64) : (handReport r s).lnk.classN = s.lnk.classN ++ [r] := by
  have joins := handReport_joins (r := r) (s := s) (by rw [isN]; exact enabled) (by rw [isN]; exact room)
  rwa [isN] at joins

theorem handReport_joins_classP (isP : reportClass r = .p) (enabled : s.par.reportEnable.testBit 1 = true)
    (room : s.lnk.classP.length < 32) : (handReport r s).lnk.classP = s.lnk.classP ++ [r] := by
  have joins := handReport_joins (r := r) (s := s) (by rw [isP]; exact enabled) (by rw [isP]; exact room)
  rwa [isP] at joins

theorem handReport_joins_classE (isE : reportClass r = .e) (enabled : s.par.reportEnable.testBit 2 = true)
    (room : s.lnk.classE.length < 16) : (handReport r s).lnk.classE = s.lnk.classE ++ [r] := by
  have joins := handReport_joins (r := r) (s := s) (by rw [isE]; exact enabled) (by rw [isE]; exact room)
  rwa [isE] at joins

end

/-! ### The take recorder reports in class P alone -/

@[simp] theorem captureFull_queues (s : State) :
    (captureFull s).lnk.classN = s.lnk.classN ∧ (captureFull s).lnk.classE = s.lnk.classE := by
  have leaves := handReport_of_classP (r := .captureFull s.tkr.count (takeRingSize s) s.now) rfl
  simp [captureFull, leaves]

@[simp] theorem appendTake_queues (e : Entry) (s : State) :
    (appendTake e s).lnk.classN = s.lnk.classN ∧ (appendTake e s).lnk.classE = s.lnk.classE := by
  unfold appendTake; dsimp only; (repeat' split) <;> simp

@[simp] theorem appendTimed_queues (kind first second : Nat) (s : State) :
    (appendTimed kind first second s).lnk.classN = s.lnk.classN ∧
    (appendTimed kind first second s).lnk.classE = s.lnk.classE := by
  unfold appendTimed; dsimp only; (repeat' split) <;> simp

@[simp] theorem startTake_queues (s : State) :
    (startTake s).lnk.classN = s.lnk.classN ∧ (startTake s).lnk.classE = s.lnk.classE := by
  unfold startTake appendSync; dsimp only; (repeat' split) <;> simp

@[simp] theorem playerEvent_queues (kind first second : Nat) (s : State) :
    (playerEvent kind first second s).lnk.classN = s.lnk.classN ∧
    (playerEvent kind first second s).lnk.classE = s.lnk.classE := by
  unfold playerEvent; dsimp only; (repeat' split) <;> simp

/-! ## Samples and notices of a pedal channel (R48, R50, R52, R53, R55) -/

/-! ### Levels -/

@[simp] theorem pedalRec_handReport (r : Report) (s : State) (p : Pedal) :
    (handReport r s).pedalRec p = s.pedalRec p := by simp [State.pedalRec]

/-- R56, R58: the tests of HOLD and of the latch leave the pedal records. -/
@[simp] theorem testPedal_pedalRec (p q : Pedal) (s : State) : (testPedal p s).pedalRec q = s.pedalRec q := by
  unfold State.pedalRec testPedal testHold testLatch
  dsimp only
  (repeat' split) <;> simp

/-- R55: the effective level becomes the greater of the two levels, and the rest of the record stays. -/
theorem recomputeEffective_pedalRec (p : Pedal) (s : State) :
    (recomputeEffective p s).pedalRec p =
      { s.pedalRec p with effective := max (s.pedalRec p).player (s.pedalRec p).playback } := by
  unfold recomputeEffective
  dsimp only
  split
  · next same => rw [same]
  · have voiced : ∀ (level : Nat) (t : State), (voicePedal p level t).pedalRec p = t.pedalRec p := fun _ _ => by
      simp [State.pedalRec]
    rw [testPedal_pedalRec, voiced, pedalRec_setPedalRec_self]

@[simp] theorem playerEvent_pedalRec (kind first second : Nat) (s : State) (p : Pedal) :
    (playerEvent kind first second s).pedalRec p = s.pedalRec p := by simp [State.pedalRec]

/-- R50, R52, R55: the record after an adoption. -/
theorem adoptPlayer_pedalRec (p : Pedal) (level : Nat) (fault : Bool) (s : State) :
    (adoptPlayer p level fault s).pedalRec p =
      { s.pedalRec p with player := level, effective := max level (s.pedalRec p).playback } := by
  simp [adoptPlayer, recomputeEffective_pedalRec]

/-- R176: in IDLE the recorder loses a player event. -/
theorem playerEvent_idle {s : State} (idle : s.tkr.state = .idle) (kind first second : Nat) :
    playerEvent kind first second s = s := by simp [playerEvent, idle]

/-- R50, R52: with the recorder IDLE an adoption hands its PEDAL report and nothing else of class P. -/
theorem adoptPlayer_classP {s : State} (idle : s.tkr.state = .idle) (enabled : s.par.reportEnable.testBit 1 = true)
    (room : s.lnk.classP.length < 32) (p : Pedal) (level : Nat) (fault : Bool) :
    (adoptPlayer p level fault s).lnk.classP = s.lnk.classP ++ [.pedal p level fault s.now] := by
  simp only [adoptPlayer, recomputeEffective_frame]
  rw [playerEvent_idle (by simpa using idle),
    handReport_joins_classP rfl (by simpa using enabled) (by simpa using room)]
  simp

/-! ### Groups -/

/-- R50: when a candidate is adopted. -/
theorem adopts_iff (step player candidate : Nat) :
    adopts step player candidate = true ↔
      player + step ≤ candidate ∨ candidate + step ≤ player ∨
        (candidate = 0 ∨ candidate = 127) ∧ candidate ≠ player := by
  simp [adopts, or_assoc]

/-- R48: a sample that does not complete the group joins it. -/
theorem pedalArrival_joins {p : Pedal} {s : State} (short : (s.pedalRec p).count + 1 < 2 ^ s.par.pedalAccum)
    (pos : Nat) :
    pedalArrival p pos s =
      setPedalRec p
        { s.pedalRec p with sum := (s.pedalRec p).sum + pos, count := (s.pedalRec p).count + 1 } s := by
  have incomplete : groupCompletes p s = false := decide_eq_false (Nat.not_le.2 short)
  simp [pedalArrival, incomplete]

/-- R48, R50: the sample that completes the group empties it and has its mean evaluated. -/
theorem pedalArrival_completes {p : Pedal} {s : State} (full : 2 ^ s.par.pedalAccum ≤ (s.pedalRec p).count + 1)
    (pos : Nat) :
    pedalArrival p pos s =
      evaluatePlayer p (((s.pedalRec p).sum + pos) / 2 ^ s.par.pedalAccum)
        (setPedalRec p { s.pedalRec p with sum := 0, count := 0 } s) := by
  have complete : groupCompletes p s = true := decide_eq_true full
  simp only [pedalArrival, complete, if_true]
  rfl

theorem evaluatePlayer_adopts {p : Pedal} {position : Nat} {s : State}
    (moved : (s.pedalRec p).player + s.par.pedalStep ≤ position / 32 ∨
      position / 32 + s.par.pedalStep ≤ (s.pedalRec p).player ∨
        (position / 32 = 0 ∨ position / 32 = 127) ∧ position / 32 ≠ (s.pedalRec p).player) :
    evaluatePlayer p position s = adoptPlayer p (position / 32) false s :=
  if_pos ((adopts_iff ..).2 moved)

theorem evaluatePlayer_keeps {p : Pedal} {position : Nat} {s : State}
    (still : ¬ ((s.pedalRec p).player + s.par.pedalStep ≤ position / 32 ∨
      position / 32 + s.par.pedalStep ≤ (s.pedalRec p).player ∨
        (position / 32 = 0 ∨ position / 32 = 127) ∧ position / 32 ≠ (s.pedalRec p).player)) :
    evaluatePlayer p position s = s :=
  if_neg (fun adopted => still ((adopts_iff ..).1 adopted))

theorem exec_pedalGroupComplete {s : State} (runs : s.Runs) (p : Pedal) (r : Raw) :
    exec (.pedalGroupComplete p r) s =
      .next (linkChoose (if groupCompleteDue p r s then convert (.pedal p) r s else s)) := partEvent_runs runs _

/-- R48: an inside sample of an OK pedal channel completes its group when the group is one short. -/
theorem groupCompleteDue_iff {p : Pedal} {r : Raw} {s : State} (running : s.scn.state = .running)
    (ok : (s.channel (.pedal p)).health = .ok) (inside : inWindow (s.pedalRec p).cal r = true) :
    groupCompleteDue p r s = true ↔ 2 ^ s.par.pedalAccum ≤ (s.pedalRec p).count + 1 := by
  have delivered : sampleDelivered (.pedal p) r s = true := by
    simp [sampleDelivered, convertsWith, running, ok, faultsNow, channelCal, inside]
  rw [groupCompleteDue, delivered, Bool.true_and]
  exact decide_eq_true_iff

/-- Settles O44: a pedal sample is a delivered arrival, which joins its group or completes it. -/
theorem warmupAndPedalSamples : Obligations.WarmupAndPedalSamples := by
  refine ⟨?warmup, ?pedal⟩
  case warmup =>
    intro c r s runs warming unwatched
    rw [exec_conversion runs, convert_warmup warming, gathered_unwatched unwatched]
  case pedal =>
    rintro p r pos level u s runs running unwatched ok above below rfl rfl rfl
    have inside : inWindow (s.pedalRec p).cal r = true := inWindow_true above below
    have conversion : convert (.pedal p) r s = pedalArrival p (normalize (s.pedalRec p).cal r)
        (setChannel (.pedal p) { s.channel (.pedal p) with lastRaw := r, persistence := 0 } s) :=
      convert_delivers_inside running unwatched ok inside
    have due := groupCompleteDue_iff (r := r) running ok inside
    generalize normalize (s.pedalRec p).cal r = pos at conversion ⊢
    generalize hu : setChannel (.pedal p) { s.channel (.pedal p) with lastRaw := r, persistence := 0 } s = u
      at conversion ⊢
    have record : u.pedalRec p = s.pedalRec p := by rw [← hu]; rfl
    have par : u.par = s.par := by rw [← hu]; rfl
    rw [← record, ← par] at due ⊢
    refine ⟨fun short => ⟨?_, ?_⟩, fun full =>
      ⟨evaluatePlayer p (((u.pedalRec p).sum + pos) / 2 ^ u.par.pedalAccum)
        (setPedalRec p { u.pedalRec p with sum := 0, count := 0 } u),
        ?_, ?_, fun moved => ⟨?_, ?_, ?_⟩, fun still => ?_⟩⟩
    · rw [exec_conversion runs, conversion, pedalArrival_joins short]
    · rw [exec_pedalGroupComplete runs, if_neg (fun now => absurd (due.1 now) (Nat.not_le.2 short))]
    · rw [exec_conversion runs, conversion, pedalArrival_completes full]
    · rw [exec_pedalGroupComplete runs, if_pos (due.2 full), conversion, pedalArrival_completes full]
    · rw [evaluatePlayer_adopts (by simpa using moved), adoptPlayer_pedalRec]
      simp
    · intro idle enabled room
      rw [evaluatePlayer_adopts (by simpa using moved), adoptPlayer_classP (by simpa [← hu] using idle)
        (by simpa using enabled) (by simpa [← hu] using room)]
      simp [← hu]
    · simp [← hu]
    · rw [evaluatePlayer_keeps (by simpa using still)]

/-! ## The release of a faulted key (R34, R43, R64) -/

/-! ### The player holder outlasts every frame sent -/

/-- A sounding record replaced with its player holder kept leaves every player holder. -/
theorem setSound_playerHolder {j : Key} {r : SoundRecord} {s : State}
    (kept : r.playerHolder = (s.sound j).playerHolder) (k : Key) :
    ((setSound j r s).sound k).playerHolder = (s.sound k).playerHolder := by
  by_cases same : k = j
  · rw [same, sound_setSound_self, kept]
  · rw [sound_setSound_ne same]

@[simp] theorem pushFrame_sound (f : VoiceFrame) (s : State) (k : Key) : (pushFrame f s).sound k = s.sound k := (rfl)

@[simp] theorem refillOffPending_playerHolder (ks : List Key) (s : State) (k : Key) :
    ((refillOffPending ks s).sound k).playerHolder = (s.sound k).playerHolder := by
  induction ks generalizing s with
  | nil => rfl
  | cons j ks ih =>
    simp only [refillOffPending]
    (repeat' split) <;> simp [ih, setSound_playerHolder]

@[simp] theorem modVdp_sound {f : Vdp → Vdp} (s : State) (table : (f s.vdp).table = s.vdp.table) (k : Key) :
    (s.modVdp f).sound k = s.sound k := by simp [State.sound, table]

@[simp] theorem refillPedal_sound (s : State) (k : Key) : (refillPedal s).sound k = s.sound k := by
  unfold refillPedal; (repeat' split) <;> rfl

@[simp] theorem voiceChoose_playerHolder (s : State) (k : Key) :
    ((voiceChoose s).sound k).playerHolder = (s.sound k).playerHolder := by
  unfold voiceChoose refill
  dsimp only
  (repeat' split) <;> simp

@[simp] theorem releaseEval_playerHolder (j : Key) (s : State) (k : Key) :
    ((releaseEval j s).sound k).playerHolder = (s.sound k).playerHolder := by
  unfold releaseEval voiceEnqueue
  dsimp only
  (repeat' split) <;> simp [setSound_playerHolder]

/-- R64: a release leaves the key without its player holder. -/
theorem voiceRelease_playerHolder (k : Key) (s : State) : ((voiceRelease k s).sound k).playerHolder = false := by
  unfold voiceRelease
  split
  · simp
  · next clear => simpa using clear

/-! ### A release handed out -/

theorem deliverRelease_playerHolder (k : Key) (fault : Bool) (s : State) :
    ((deliverRelease k fault s).sound k).playerHolder = false := by
  have table : (deliverRelease k fault s).sound k = (voiceRelease k s).sound k := by
    simp [State.sound, deliverRelease]
  rw [table, voiceRelease_playerHolder]

/-- R43: the RELEASE report joins its class. -/
theorem deliverRelease_classN {s : State} (enabled : s.par.reportEnable.testBit 0 = true)
    (room : s.lnk.classN.length < 64) (k : Key) (fault : Bool) :
    (deliverRelease k fault s).lnk.classN = s.lnk.classN ++ [.release k fault false s.now] := by
  rw [deliverRelease, handReport_joins_classN rfl (by simpa using enabled) (by simpa using room)]
  simp

@[simp] theorem deliverRelease_classE (k : Key) (fault : Bool) (s : State) :
    (deliverRelease k fault s).lnk.classE = s.lnk.classE := by
  rw [deliverRelease, (handReport_of_classN rfl _).2]
  simp

/-! ### The fault notice at KTR (R34) -/

@[simp] theorem replaceKey_keyRec_self (k : Key) (r : KeyRecord) (s : State) : (replaceKey k r s).keyRec k = r := by
  rw [replaceKey_eq, keyRec_setKeyRec_self]

/-- R20: adoption takes a pending record and touches nothing else. -/
theorem adoptCal_eq (r : KeyRecord) : adoptCal r = { r with cal := r.pendingCal.getD r.cal, pendingCal := none } := by
  cases r with
  | mk state current previous gate lastStrike cal pending => cases pending <;> rfl

/-- R20, R34: the record a fault leaves. -/
theorem keyFault_keyRec (k : Key) (s : State) :
    (keyFault k s).keyRec k =
      { s.keyRec k with
        state := .faulted, gate := none, lastStrike := none, pendingCal := none
        cal := (s.keyRec k).pendingCal.getD (s.keyRec k).cal } := by
  have released : ∀ t : State, (deliverRelease k true t).keyRec k = t.keyRec k := fun t => by simp [State.keyRec]
  unfold keyFault
  dsimp only
  split <;> simp only [released, replaceKey_keyRec_self, adoptCal_eq]

/-- R45: the GATED count loses a key that was in GATED. -/
theorem keyFault_gatedCount (k : Key) (s : State) :
    (keyFault k s).ktr.gatedCount = s.ktr.gatedCount - (if (s.keyRec k).state = .gated then 1 else 0) := by
  have count : ∀ r : KeyRecord, r.state = .faulted → (replaceKey k r s).ktr.gatedCount =
      s.ktr.gatedCount - (if (s.keyRec k).state = .gated then 1 else 0) := fun r faulted => by
    simp [replaceKey, setKeyRec, gatedOne, faulted]
  unfold keyFault
  dsimp only
  split <;> simp [count, adoptCal_eq]

/-- R34: a lifted key loses its player holder. -/
theorem keyFault_playerHolder {k : Key} {s : State} (lifted : (s.keyRec k).state.isLifted = true) :
    ((keyFault k s).sound k).playerHolder = false := by
  simp only [keyFault, lifted, if_true, deliverRelease_playerHolder]

/-- R34: the release of a lifted key is reported, marked FAULT. -/
theorem keyFault_classN {k : Key} {s : State} (lifted : (s.keyRec k).state.isLifted = true)
    (enabled : s.par.reportEnable.testBit 0 = true) (room : s.lnk.classN.length < 64) :
    (keyFault k s).lnk.classN = s.lnk.classN ++ [.release k true false s.now] := by
  simp only [keyFault, lifted, if_true]
  rw [deliverRelease_classN (by simpa using enabled) (by simpa using room)]
  simp

/-- R34: a key that is not lifted raises nothing. -/
theorem keyFault_unlifted {k : Key} {s : State} (down : (s.keyRec k).state.isLifted = false) :
    (keyFault k s).vdp = s.vdp ∧ (keyFault k s).tkr = s.tkr ∧ (keyFault k s).lnk = s.lnk := by
  simp [keyFault, down]

@[simp] theorem keyFault_classE (k : Key) (s : State) : (keyFault k s).lnk.classE = s.lnk.classE := by
  unfold keyFault; dsimp only; split <;> simp

/-- R22: the states of a lifted key. -/
theorem isLifted_of_mem {st : KeyState} (lifted : st ∈ [.lifted, .gated, .creep, .struck, .rearm]) :
    st.isLifted = true := by
  revert lifted; cases st <;> decide

theorem not_isLifted_of_mem {st : KeyState} (down : st ∈ [.init, .startHeld, .rest, .faulted]) :
    st.isLifted = false := by
  revert down; cases st <;> decide

/-! ## The fault notice at PTR (R52) -/

@[simp] theorem adoptPlayer_classE (p : Pedal) (level : Nat) (fault : Bool) (s : State) :
    (adoptPlayer p level fault s).lnk.classE = s.lnk.classE := by
  simp only [adoptPlayer, recomputeEffective_frame, playerEvent_queues]
  rw [(handReport_of_classP rfl _).2]
  simp

@[simp] theorem emptyGroup_pedalRec (p : Pedal) (s : State) :
    (emptyGroup p s).pedalRec p = { s.pedalRec p with sum := 0, count := 0 } := by simp [emptyGroup]

/-- R52: a pedal at level 0 only loses its group. -/
theorem pedalFault_zero {p : Pedal} {s : State} (zero : (s.pedalRec p).player = 0) :
    pedalFault p s = emptyGroup p s := if_pos zero

/-- R52: a pedal above it adopts level 0, marked FAULT. -/
theorem pedalFault_pressed {p : Pedal} {s : State} (pressed : (s.pedalRec p).player ≠ 0) :
    pedalFault p s = adoptPlayer p 0 true (emptyGroup p s) := if_neg pressed

theorem pedalFault_pedalRec (p : Pedal) (s : State) :
    (pedalFault p s).pedalRec p = { s.pedalRec p with
      sum := 0, count := 0, player := 0
      effective := if (s.pedalRec p).player = 0 then (s.pedalRec p).effective else (s.pedalRec p).playback } := by
  by_cases zero : (s.pedalRec p).player = 0
  · rw [pedalFault_zero zero, emptyGroup_pedalRec, if_pos zero, ← zero]
  · rw [pedalFault_pressed zero, adoptPlayer_pedalRec, emptyGroup_pedalRec, if_neg zero]
    simp

@[simp] theorem pedalFault_classE (p : Pedal) (s : State) : (pedalFault p s).lnk.classE = s.lnk.classE := by
  unfold pedalFault; dsimp only; split <;> simp

/-! ## Waits, halts and the drift watch of the rail (R94 to R97) -/

/-- R94, R97: a wait that ends without a move: the rail is back at its origin. -/
theorem endWait_rlc {s : State} {o : WaitOrigin} (waits : s.rlc.waitOrigin = some o) (outcome : RailOutcome)
    (cause : RailCause) :
    (endWait outcome cause s).rlc =
      { s.rlc with
        state := originState o, drive := .off, waitOrigin := none, waitTimer := none, drift := 0 } := by
  cases o <;> simp [endWait, waits, enterRail, originState, driveOf]

theorem endWait_classP {s : State} {o : WaitOrigin} (waits : s.rlc.waitOrigin = some o)
    (enabled : s.par.reportEnable.testBit 1 = true) (room : s.lnk.classP.length < 32) (outcome : RailOutcome)
    (cause : RailCause) :
    (endWait outcome cause s).lnk.classP =
      s.lnk.classP ++ [.rail (originState o) outcome cause (railTargetOf s.rlc.state) s.rlc.position s.now] := by
  simp only [endWait, waits, railReport]
  rw [handReport_joins_classP rfl (by simpa using enabled) (by simpa using room)]
  simp [enterRail]

/-- R95 to R97: the rail after a halt. -/
theorem haltRail_rlc (cause : RailCause) (s : State) :
    (haltRail cause s).rlc =
      { s.rlc with
        state := .halted, drive := .off, waitOrigin := none, waitTimer := none, moveTimer := none } := by
  simp [haltRail, enterRail, driveOf]

theorem haltRail_classP {s : State} (enabled : s.par.reportEnable.testBit 1 = true)
    (room : s.lnk.classP.length < 32) (cause : RailCause) :
    (haltRail cause s).lnk.classP =
      s.lnk.classP ++ [.rail .halted .halted cause (railTargetOf s.rlc.state) s.rlc.position s.now] := by
  simp only [haltRail, railReport]
  rw [handReport_joins_classP rfl (by simpa using enabled) (by simpa using room)]
  simp [enterRail]

@[simp] theorem railReport_classE (outcome : RailOutcome) (cause : RailCause) (target : Option RailTarget) (s : State) :
    (railReport outcome cause target s).lnk.classE = s.lnk.classE := (handReport_of_classP rfl s).2

@[simp] theorem endWait_classE (outcome : RailOutcome) (cause : RailCause) (s : State) :
    (endWait outcome cause s).lnk.classE = s.lnk.classE := by
  unfold endWait
  split <;> simp

@[simp] theorem haltRail_classE (cause : RailCause) (s : State) :
    (haltRail cause s).lnk.classE = s.lnk.classE := by
  simp [haltRail]

@[simp] theorem railFault_classE (s : State) : (railFault s).lnk.classE = s.lnk.classE := by
  unfold railFault; dsimp only; split <;> simp

/-- R97: where the rail neither waits nor moves, a fault marks it. -/
theorem railFault_still {s : State} (still : s.rlc.state ∈ [.unsettled, .engaged, .disengaged, .halted]) :
    railFault s = s.modRlc fun b => { b with faulted := true, drift := 0 } := by
  have states : s.rlc.state = .unsettled ∨ s.rlc.state = .engaged ∨ s.rlc.state = .disengaged ∨
      s.rlc.state = .halted := by simpa using still
  rcases states with st | st | st | st <;> simp [railFault, st]

/-- R97: a fault cancels a wait. -/
theorem railFault_waiting {s : State} (waits : s.rlc.state = .waitToEngage ∨ s.rlc.state = .waitToDisengage) :
    railFault s = endWait .cancelled .fault (s.modRlc fun b => { b with faulted := true, drift := 0 }) := by
  rcases waits with st | st <;> simp [railFault, st]

/-- R97: a fault halts a move. -/
theorem railFault_moving {s : State} (moves : s.rlc.state = .engaging ∨ s.rlc.state = .disengaging) :
    railFault s = haltRail .fault (s.modRlc fun b => { b with faulted := true, drift := 0 }) := by
  rcases moves with st | st <;> simp [railFault, st]

/-- R96: the drift count a position leaves, by the band of the state. -/
def driftAfter (s : State) (p : Nat) : Nat :=
  match outsideBand s p with
  | none => s.rlc.drift
  | some outside => if outside then s.rlc.drift + 1 else 0

/-- R96: below the limit a position moves the drift count alone. -/
theorem driftTest_below {s : State} (below : s.rlc.drift + 1 < 64) (p : Nat) :
    driftTest p s = s.modRlc fun b => { b with drift := driftAfter s p } := by
  unfold driftTest driftAfter
  rcases outsideBand s p with _ | _ | _
  · rfl
  · rfl
  · have unreached : ¬ 64 ≤ s.rlc.drift + 1 := by omega
    simp only [Config.driftLimit, unreached, State.modRlc_rlc, if_true, if_false]
    rfl

/-- R96: whatever the drift watch does, the position and the sensor mark stay. -/
theorem driftTest_keeps (p : Nat) (s : State) :
    (driftTest p s).rlc.faulted = s.rlc.faulted ∧ (driftTest p s).rlc.position = s.rlc.position := by
  unfold driftTest driftHalt
  dsimp only
  (repeat' split) <;> simp [haltRail_rlc]

/-- R88: the three places of a position where the limits are in order. -/
theorem derivedState_eq {s : State} {p : Nat} {st : RailState} (order : s.par.railOutLimit < s.par.railInLimit)
    (place : s.par.railInLimit ≤ p ∧ st = .engaged ∨ p ≤ s.par.railOutLimit ∧ st = .disengaged ∨
      s.par.railOutLimit < p ∧ p < s.par.railInLimit ∧ st = .halted) : derivedState s p = st := by
  unfold derivedState
  rcases place with ⟨inside, rfl⟩ | ⟨out, rfl⟩ | ⟨above, below, rfl⟩
  · rw [if_pos inside]
  · rw [if_neg (by omega), if_pos out]
  · rw [if_neg (by omega), if_neg (by omega)]

/-- R88: the state and drive a derivation enters, its drift count at 0. -/
def derivedRail (p : Nat) (s : State) : State :=
  (enterRail (derivedState s p) s).modRlc fun b => { b with drift := 0 }

/-- R88: the derived position lies inside its own band, so the drift test leaves the count at 0. -/
theorem deriveRail_eq (p : Nat) (s : State) : deriveRail p s = railReport .settled .none none (derivedRail p s) := by
  have settled : ∀ t : State, t.rlc.drift = 0 → driftAfter t p = 0 → driftTest p t = t := fun t zero after => by
    rw [driftTest_below (by omega), after, ← zero]; rfl
  have report : ∀ t : State, driftAfter (railReport .settled .none none t) p = driftAfter t p := fun t => by
    simp [driftAfter, outsideBand]
  show driftTest p (railReport .settled .none none (derivedRail p s)) = _
  refine settled _ (by simp [derivedRail]) ?_
  rw [report]
  by_cases inside : s.par.railInLimit ≤ p
  · have st : derivedState s p = .engaged := if_pos inside
    have inBand : ¬ p + s.par.railDrift < s.par.railInLimit := by omega
    simp [driftAfter, outsideBand, derivedRail, enterRail, st, inBand]
  · by_cases out : p ≤ s.par.railOutLimit
    · have st : derivedState s p = .disengaged := by simp [derivedState, inside, out]
      have inBand : ¬ s.par.railOutLimit + s.par.railDrift < p := by omega
      simp [driftAfter, outsideBand, derivedRail, enterRail, st, inBand]
    · have st : derivedState s p = .halted := by simp [derivedState, inside, out]
      simp [driftAfter, outsideBand, derivedRail, enterRail, st]

/-! ## The recovery notice (R35, R53, R97) -/

/-- R35: the key record a recovery leaves. -/
theorem keyRecovery_keyRec {k : Key} {s : State} (faulted : (s.keyRec k).state = .faulted) (p : Nat) :
    (keyRecovery k p s).keyRec k =
      { s.keyRec k with
        state := if p < (s.keyRec k).cal.dmp then .rest else .startHeld, current := p, previous := p } := by
  rw [keyRecovery, if_pos faulted, replaceKey_keyRec_self, placeKey]

@[simp] theorem pedalArrival_classE (p : Pedal) (pos : Nat) (s : State) :
    (pedalArrival p pos s).lnk.classE = s.lnk.classE := by
  unfold pedalArrival evaluatePlayer; dsimp only; (repeat' split) <;> simp

theorem setPedalRec_setPedalRec (p : Pedal) (a b : PedalRecord) (s : State) :
    setPedalRec p a (setPedalRec p b s) = setPedalRec p a s := by
  cases p <;> rfl

/-- R53: a group of more than one sample restarts with the position of the recovery. -/
theorem pedalRecovery_joins {p : Pedal} {s : State} (short : 1 < 2 ^ s.par.pedalAccum) (pos : Nat) :
    (pedalRecovery p pos s).pedalRec p = { s.pedalRec p with sum := pos, count := 1 } := by
  rw [pedalRecovery, pedalArrival_joins (by simpa using short), pedalRec_setPedalRec_self]
  simp

/-- R53: a group of one sample completes at once. -/
theorem pedalRecovery_completes {p : Pedal} {s : State} (single : s.par.pedalAccum = 0) (pos : Nat) :
    pedalRecovery p pos s = evaluatePlayer p pos (emptyGroup p s) := by
  rw [pedalRecovery, pedalArrival_completes (by simp [single])]
  simp only [emptyGroup_frame, single, emptyGroup_pedalRec, Nat.zero_add, pow_zero, Nat.div_one]
  simp [emptyGroup, setPedalRec_setPedalRec]

theorem railRecovery_unsettled {s : State} (unsettled : s.rlc.state = .unsettled) (p : Nat) :
    railRecovery p s = railReport .settled .none none
      (derivedRail p (s.modRlc fun b => { b with faulted := false, position := p })) := by
  simp [railRecovery, unsettled, deriveRail_eq]

theorem railRecovery_rest {s : State} (rest : s.rlc.state = .engaged ∨ s.rlc.state = .disengaged) (p : Nat) :
    railRecovery p s = driftTest p (s.modRlc fun b => { b with faulted := false, position := p }) := by
  rcases rest with st | st <;> simp [railRecovery, st]

theorem railRecovery_halted {s : State} (halted : s.rlc.state = .halted) (p : Nat) :
    railRecovery p s = s.modRlc fun b => { b with faulted := false, position := p } := by
  simp [railRecovery, halted]

/-- R97: a recovery clears the sensor mark and stores the position, whatever follows. -/
theorem railRecovery_stores (p : Nat) (s : State) :
    (railRecovery p s).rlc.faulted = false ∧ (railRecovery p s).rlc.position = p := by
  unfold railRecovery
  dsimp only
  split <;> simp [deriveRail_eq, derivedRail, enterRail, driftTest_keeps]

/-- R97: below the drift limit a recovery hands no exception of its own. -/
theorem railRecovery_classE {s : State} (below : s.rlc.drift + 1 < 64) (p : Nat) :
    (railRecovery p s).lnk.classE = s.lnk.classE := by
  unfold railRecovery
  dsimp only
  split
  · simp [deriveRail_eq, derivedRail]
  · rw [driftTest_below (by simpa using below)]; simp
  · rw [driftTest_below (by simpa using below)]; simp
  all_goals simp

/-! ## A sample that faults or recovers its channel (R7, R8, R13) -/

/-- R7, R8: the channel record replaced and the report of it handed, before the owner's notice. -/
def noticed (c : Channel) (x : ChannelRecord) (report : Report) (s : State) : State :=
  handReport report (setChannel c x s)

/-- R7: the state that the owner's fault notice finds. -/
abbrev faultNoticed (c : Channel) (r : Raw) (s : State) : State :=
  noticed c ⟨r, .faulted, 0, 0⟩ (.sensorFault c (sideOf (channelCal s c) r) r s.now) s

/-- R8: the state that the owner's recovery notice finds. -/
abbrev recoveryNoticed (c : Channel) (r : Raw) (s : State) : State :=
  noticed c ⟨r, .ok, 0, 0⟩ (.sensorRecovered c r s.now) s

section
variable (c : Channel) (x : ChannelRecord) (report : Report) (s : State)

@[simp] theorem noticed_frame :
    (noticed c x report s).par = s.par ∧ (noticed c x report s).ktr = s.ktr ∧ (noticed c x report s).ptr = s.ptr ∧
    (noticed c x report s).rlc = s.rlc ∧ (noticed c x report s).vdp = s.vdp ∧ (noticed c x report s).tkr = s.tkr ∧
    (noticed c x report s).now = s.now := by
  simp [noticed]

@[simp] theorem noticed_keyRec (k : Key) : (noticed c x report s).keyRec k = s.keyRec k := by simp [State.keyRec]

@[simp] theorem noticed_pedalRec (p : Pedal) : (noticed c x report s).pedalRec p = s.pedalRec p := by
  simp [State.pedalRec]

theorem noticed_channel_self : (noticed c x report s).channel c = x := by simp [noticed]

theorem noticed_channel_ne {d : Channel} (other : d ≠ c) : (noticed c x report s).channel d = s.channel d := by
  simp [noticed, channel_setChannel_ne other]

/-- R197: the reports of a fault and of a recovery are of class E. -/
@[simp] theorem noticed_fault_queues (side : Side) (r : Raw) (now : Sweep) :
    (noticed c x (.sensorFault c side r now) s).lnk.classN = s.lnk.classN ∧
    (noticed c x (.sensorFault c side r now) s).lnk.classP = s.lnk.classP := by
  have leaves := handReport_of_classE (r := .sensorFault c side r now) rfl
  simp [noticed, leaves]

@[simp] theorem noticed_recovery_queues (r : Raw) (now : Sweep) :
    (noticed c x (.sensorRecovered c r now) s).lnk.classN = s.lnk.classN ∧
    (noticed c x (.sensorRecovered c r now) s).lnk.classP = s.lnk.classP := by
  have leaves := handReport_of_classE (r := .sensorRecovered c r now) rfl
  simp [noticed, leaves]

theorem noticed_classE (isE : reportClass report = .e) (enabled : s.par.reportEnable.testBit 2 = true)
    (room : s.lnk.classE.length < 16) : (noticed c x report s).lnk.classE = s.lnk.classE ++ [report] := by
  rw [noticed, handReport_joins_classE isE (by simpa using enabled) (by simpa using room)]
  simp

end

section
variable {c : Channel} {r : Raw} {s : State} (running : s.scn.state = .running) (unwatched : s.scn.watch = none)
include running unwatched

/-- R7: the conversion that faults a channel. -/
theorem convert_faults (ok : (s.channel c).health = .ok) (outside : inWindow (channelCal s c) r = false)
    (persists : s.par.faultPersist ≤ (s.channel c).persistence + 1) :
    convert c r s = deliverFault c (faultNoticed c r s) := by
  have faults : faultsNow s c r = true := by simp [faultsNow, outside, persists]
  rw [convert_ok running ok, gathered_unwatched unwatched, judgeOk, faultsNow_lastRaw, if_pos faults]
  simp [faultChannel, noticed, channelCal_setChannel, setChannel_setChannel]

/-- R8: the conversion that recovers a channel. -/
theorem convert_recovers (faulted : (s.channel c).health = .faulted) (inside : inWindow (channelCal s c) r = true)
    (persists : s.par.recoverPersist ≤ (s.channel c).recovery + 1) :
    convert c r s = deliverRecovery c (normalize (channelCal s c) r) (recoveryNoticed c r s) := by
  have recovers : recoversNow s c r = true := by simp [recoversNow, inside, persists]
  rw [convert_faulted running faulted, gathered_unwatched unwatched, judgeFaulted, recoversNow_lastRaw,
    if_pos recovers]
  simp [recoverChannel, noticed, channelCal_setChannel, setChannel_setChannel]

/-- R7: an outside sample below FAULT_PERSIST counts and is delivered. -/
theorem convert_delivers_outside (ok : (s.channel c).health = .ok) (outside : inWindow (channelCal s c) r = false)
    (few : (s.channel c).persistence + 1 < s.par.faultPersist) :
    convert c r s = deliverSample c (normalize (channelCal s c) r)
      (setChannel c { s.channel c with lastRaw := r, persistence := (s.channel c).persistence + 1 } s) := by
  have sound : faultsNow s c r = false := by simp [faultsNow, few]
  rw [convert_ok running ok, gathered_unwatched unwatched, judgeOk_delivers _ _ _ (by rw [faultsNow_lastRaw, sound])]
  simp [channelCal_setChannel, setChannel_setChannel, outside]

/-- R8: a sample of a FAULTED channel that does not recover it moves the recovery count alone. -/
theorem convert_stays_faulted (faulted : (s.channel c).health = .faulted) (stays : recoversNow s c r = false) :
    convert c r s = setChannel c
      { s.channel c with
        lastRaw := r, recovery := if inWindow (channelCal s c) r then (s.channel c).recovery + 1 else 0 } s := by
  rw [convert_faulted running faulted, gathered_unwatched unwatched, judgeFaulted, recoversNow_lastRaw, stays]
  simp [channelCal_setChannel, setChannel_setChannel]

end

/-! ### CHANNEL_FAULT and CHANNEL_RECOVERY (log 1) -/

theorem exec_channelFault {s : State} (runs : s.Runs) (c : Channel) (r : Raw) :
    exec (.channelFault c r) s = .next (linkChoose (if channelFaultDue c r s then convert c r s else s)) :=
  partEvent_runs runs _

theorem exec_channelRecovery {s : State} (runs : s.Runs) (c : Channel) (r : Raw) :
    exec (.channelRecovery c r) s = .next (linkChoose (if channelRecoveryDue c r s then convert c r s else s)) :=
  partEvent_runs runs _

theorem channelFaultDue_iff {c : Channel} {r : Raw} {s : State} (running : s.scn.state = .running) :
    channelFaultDue c r s = true ↔
      (s.channel c).health = .ok ∧ inWindow (channelCal s c) r = false ∧
        s.par.faultPersist ≤ (s.channel c).persistence + 1 := by
  simp [channelFaultDue, convertsWith, running, faultsNow]

theorem channelRecoveryDue_iff {c : Channel} {r : Raw} {s : State} (running : s.scn.state = .running) :
    channelRecoveryDue c r s = true ↔
      (s.channel c).health = .faulted ∧ inWindow (channelCal s c) r = true ∧
        s.par.recoverPersist ≤ (s.channel c).recovery + 1 := by
  simp [channelRecoveryDue, convertsWith, running, recoversNow]

/-! ### The owner's answer to a fault -/

section
variable (c : Channel) (n : State)

/-- R13: the owner's answer leaves the channel records and the exceptions. -/
theorem deliverFault_channel (d : Channel) : (deliverFault c n).channel d = n.channel d := by simp [State.channel]

theorem deliverFault_classE : (deliverFault c n).lnk.classE = n.lnk.classE := by
  cases c <;> simp [deliverFault]

/-- R13: the owner's answer leaves the channel records. -/
theorem deliverRecovery_channel (pos : Nat) (d : Channel) : (deliverRecovery c pos n).channel d = n.channel d := by
  simp [State.channel]

/-- R13: a key or a pedal raises no exception at a recovery. -/
theorem deliverRecovery_classE (pos : Nat) (owned : c ≠ .rail) :
    (deliverRecovery c pos n).lnk.classE = n.lnk.classE := by
  cases c with
  | key k => simp [deliverRecovery]
  | pedal p => simp [deliverRecovery, pedalRecovery]
  | rail => exact absurd rfl owned

end

/-- R7: the side a SENSOR FAULT carries. -/
theorem sideOf_eq {cal : PcalRecord} {r : Raw} {side : Side}
    (h : r.toNat < cal.floor ∧ side = .low ∨ cal.floor ≤ r.toNat ∧ side = .high) : sideOf cal r = side := by
  rcases h with ⟨low, rfl⟩ | ⟨high, rfl⟩
  · exact if_pos low
  · exact if_neg (Nat.not_lt.2 high)

/-- R97: a fault cancels the wait of a rail that waits. -/
theorem railFault_cancels {s : State} {way : RailTarget} {o : WaitOrigin} {back : RailState}
    (waits : s.rlc.state = .waitToEngage ∧ way = .inward ∨ s.rlc.state = .waitToDisengage ∧ way = .outward)
    (origin : s.rlc.waitOrigin = some o)
    (returns : o = .engaged ∧ back = .engaged ∨ o = .disengaged ∧ back = .disengaged ∨
      o = .halted ∧ back = .halted) :
    (railFault s).rlc = { s.rlc with
      state := back, drive := .off, faulted := true, drift := 0, waitOrigin := none, waitTimer := none } ∧
    (s.par.reportEnable.testBit 1 = true → s.lnk.classP.length < 32 →
      (railFault s).lnk.classP =
        s.lnk.classP ++ [.rail back .cancelled .fault (some way) s.rlc.position s.now]) := by
  have back_eq : originState o = back := by
    rcases returns with ⟨rfl, rfl⟩ | ⟨rfl, rfl⟩ | ⟨rfl, rfl⟩ <;> rfl
  have target : railTargetOf s.rlc.state = some way := by
    rcases waits with ⟨st, rfl⟩ | ⟨st, rfl⟩ <;> rw [st] <;> rfl
  rw [railFault_waiting (waits.imp And.left And.left)]
  constructor
  · rw [endWait_rlc (by simpa using origin), back_eq]
    simp
  · intro enabled room
    rw [endWait_classP (by simpa using origin) (by simpa using enabled) (by simpa using room), back_eq]
    simp [target]

/-- R97: a fault halts the move of a rail that moves. -/
theorem railFault_halts {s : State} {way : RailTarget}
    (moves : s.rlc.state = .engaging ∧ way = .inward ∨ s.rlc.state = .disengaging ∧ way = .outward) :
    (railFault s).rlc = { s.rlc with
      state := .halted, drive := .off, faulted := true, drift := 0, waitOrigin := none, waitTimer := none
      moveTimer := none } ∧
    (s.par.reportEnable.testBit 1 = true → s.lnk.classP.length < 32 →
      (railFault s).lnk.classP =
        s.lnk.classP ++ [.rail .halted .halted .fault (some way) s.rlc.position s.now]) := by
  have target : railTargetOf s.rlc.state = some way := by
    rcases moves with ⟨st, rfl⟩ | ⟨st, rfl⟩ <;> rw [st] <;> rfl
  rw [railFault_moving (moves.imp And.left And.left)]
  constructor
  · rw [haltRail_rlc]
    simp
  · intro enabled room
    rw [haltRail_classP (by simpa using enabled) (by simpa using room)]
    simp [target]

/-- R96: a rest state's drift count after a position. -/
theorem driftAfter_rest {s : State} {p : Nat} {outside : Bool}
    (band : s.rlc.state = .engaged ∧ outside = decide (p + s.par.railDrift < s.par.railInLimit) ∨
      s.rlc.state = .disengaged ∧ outside = decide (s.par.railOutLimit + s.par.railDrift < p)) :
    driftAfter s p = if outside then s.rlc.drift + 1 else 0 := by
  rcases band with ⟨st, rfl⟩ | ⟨st, rfl⟩ <;> simp [driftAfter, outsideBand, st]

/-- R88, R97: an unsettled rail settles where its recovery finds it. -/
theorem railRecovery_settles {s : State} {pos : Nat} {st : RailState} (unsettled : s.rlc.state = .unsettled)
    (order : s.par.railOutLimit < s.par.railInLimit)
    (place : s.par.railInLimit ≤ pos ∧ st = .engaged ∨ pos ≤ s.par.railOutLimit ∧ st = .disengaged ∨
      s.par.railOutLimit < pos ∧ pos < s.par.railInLimit ∧ st = .halted) :
    (railRecovery pos s).rlc =
      { s.rlc with state := st, drive := .off, position := pos, faulted := false, drift := 0 } ∧
    (s.par.reportEnable.testBit 1 = true → s.lnk.classP.length < 32 →
      (railRecovery pos s).lnk.classP = s.lnk.classP ++ [.rail st .settled .none none pos s.now]) := by
  have state : ∀ f : Rlc → Rlc, derivedState (s.modRlc f) pos = st := fun f => derivedState_eq order place
  have off : driveOf st = .off := by rcases place with ⟨_, rfl⟩ | ⟨_, rfl⟩ | ⟨_, _, rfl⟩ <;> rfl
  rw [railRecovery_unsettled unsettled]
  constructor
  · simp [derivedRail, enterRail, state, off]
  · intro enabled room
    rw [railReport,
      handReport_joins_classP rfl (by simpa [derivedRail] using enabled) (by simpa [derivedRail] using room)]
    simp [derivedRail, enterRail, state]

/-- Settles O46: the conversion is the owner's answer to the noticed state, the delivery, or the count alone. -/
theorem faultsAndRecoveriesReachTheOwner : Obligations.FaultsAndRecoveriesReachTheOwner := by
  rintro c r pos s runs running unwatched rfl
  refine ⟨?faults, ?recovers, ?judgedOk, ?judgedFaulted, ?noFault, ?noRecovery⟩
  case faults =>
    intro ok outside persists
    have outside' : inWindow (channelCal s c) r = false := inWindow_false outside
    have conversion := convert_faults running unwatched ok outside' persists
    have due := (channelFaultDue_iff running).2 ⟨ok, outside', persists⟩
    refine ⟨_, ?_, by rw [exec_conversion runs, conversion], ?_, ?_, ?_, ?key, ?pedal, ?rail⟩
    · rw [exec_channelFault runs, if_pos due, conversion]
    · rw [deliverFault_channel, noticed_channel_self]
    · intro d other
      rw [deliverFault_channel, noticed_channel_ne _ _ _ _ other]
    · intro side sided enabled room
      rw [deliverFault_classE, noticed_classE _ _ _ _ rfl enabled room, sideOf_eq sided]
    case key =>
      rintro k rfl
      simp only [deliverFault, keyFault_keyRec, keyFault_gatedCount, noticed_keyRec, noticed_frame, true_and]
      refine ⟨fun lifted => ?_, fun down => ?_⟩
      · refine ⟨keyFault_playerHolder (by simpa using isLifted_of_mem lifted), fun enabled room => ?_⟩
        rw [keyFault_classN (by simpa using isLifted_of_mem lifted) (by simpa using enabled) (by simpa using room)]
        simp
      · obtain ⟨vdp, tkr, lnk⟩ := keyFault_unlifted (s := faultNoticed (.key k) r s)
          (by simpa using not_isLifted_of_mem down)
        rw [vdp, tkr, lnk]
        simp
    case pedal =>
      rintro p rfl
      simp only [deliverFault, pedalFault_pedalRec, noticed_pedalRec, true_and]
      refine ⟨fun zero => ?_, fun pressed idle enabled room => ?_⟩
      · rw [pedalFault_zero (by simpa using zero)]
        simp
      · rw [pedalFault_pressed (by simpa using pressed), adoptPlayer_classP (by simpa using idle)
          (by simpa using enabled) (by simpa using room)]
        simp
    case rail =>
      rintro rfl
      simp only [deliverFault]
      refine ⟨fun still => ?_, fun way => ⟨fun waits o back origin returns => ?_, fun moves => ?_⟩⟩
      · rw [railFault_still (by simpa using still)]
        simp
      · simpa using railFault_cancels (s := faultNoticed .rail r s) (by simpa using waits) (by simpa using origin)
          returns
      · simpa using railFault_halts (s := faultNoticed .rail r s) (by simpa using moves)
  case recovers =>
    intro faulted above below persists
    have inside : inWindow (channelCal s c) r = true := inWindow_true above below
    have conversion := convert_recovers running unwatched faulted inside persists
    have due := (channelRecoveryDue_iff running).2 ⟨faulted, inside, persists⟩
    generalize normalize (channelCal s c) r = pos at conversion ⊢
    refine ⟨_, ?_, by rw [exec_conversion runs, conversion], ?_, ?_, ?_, ?key, ?pedal, ?rail⟩
    · rw [exec_channelRecovery runs, if_pos due, conversion]
    · rw [deliverRecovery_channel, noticed_channel_self]
    · intro d other
      rw [deliverRecovery_channel, noticed_channel_ne _ _ _ _ other]
    · intro enabled room owned
      rw [deliverRecovery_classE _ _ _ owned, noticed_classE _ _ _ _ rfl enabled room]
    case key =>
      rintro k rfl down
      rw [deliverRecovery, keyRecovery_keyRec (by simpa using down)]
      simp
    case pedal =>
      rintro p rfl
      refine ⟨fun short => ?_, fun single => ⟨fun moved => ?_, fun still => ?_⟩⟩
      · rw [deliverRecovery, pedalRecovery_joins (by simpa using short)]
        simp
      · rw [deliverRecovery, pedalRecovery_completes (by simpa using single),
          evaluatePlayer_adopts (by simpa using moved), adoptPlayer_pedalRec]
        simp
      · rw [deliverRecovery, pedalRecovery_completes (by simpa using single),
          evaluatePlayer_keeps (by simpa using still)]
        simp
    case rail =>
      rintro rfl
      simp only [deliverRecovery]
      obtain ⟨cleared, stored⟩ := railRecovery_stores pos (recoveryNoticed .rail r s)
      refine ⟨cleared, stored, fun st unsettled order place => ?_, fun few enabled room => ?_,
        fun outside few band => ?_, fun halted => ?_⟩
      · simpa using railRecovery_settles (s := recoveryNoticed .rail r s) (by simpa using unsettled)
          (by simpa using order) (by simpa using place)
      · rw [railRecovery_classE (by simpa using few), noticed_classE _ _ _ _ rfl enabled room]
      · rw [railRecovery_rest (by simpa using band.imp And.left And.left),
          driftTest_below (by simpa using few), driftAfter_rest (by simpa using band)]
        simp
      · rw [railRecovery_halted (by simpa using halted)]
        simp
  case judgedOk =>
    refine fun ok => ⟨fun outside few => ?_, fun above below => ?_⟩
    · rw [exec_conversion runs, convert_delivers_outside running unwatched ok (inWindow_false outside) few]
    · rw [exec_conversion runs, convert_delivers_inside running unwatched ok (inWindow_true above below)]
  case judgedFaulted =>
    refine fun faulted => ⟨fun outside => ?_, fun above below few => ?_⟩
    · have out := inWindow_false outside
      rw [exec_conversion runs, convert_stays_faulted running unwatched faulted (by simp [recoversNow, out]), out]
      rfl
    · have inside : inWindow (channelCal s c) r = true := inWindow_true above below
      rw [exec_conversion runs, convert_stays_faulted running unwatched faulted (by simp [recoversNow, few]), inside]
      rfl
  case noFault =>
    intro sound
    have undue : ¬ channelFaultDue c r s = true := fun due => by
      obtain ⟨ok, outside, persists⟩ := (channelFaultDue_iff running).1 due
      rcases sound with faulted | few | ⟨above, below⟩
      · rw [ok] at faulted; cases faulted
      · omega
      · rw [inWindow_true above below] at outside; cases outside
    rw [exec_channelFault runs, if_neg undue]
  case noRecovery =>
    intro stays
    have undue : ¬ channelRecoveryDue c r s = true := fun due => by
      obtain ⟨faulted, inside, persists⟩ := (channelRecoveryDue_iff running).1 due
      rcases stays with ok | few | outside
      · rw [faulted] at ok; cases ok
      · omega
      · rw [inWindow_false outside] at inside; cases inside
    rw [exec_channelRecovery runs, if_neg undue]

/-! ## The receiver through a sweep start (R187, R188): no report and no block's sweep event touches it -/

@[simp] theorem handReport_receiver (r : Report) (s : State) :
    (handReport r s).lnk.rx = s.lnk.rx ∧ (handReport r s).lnk.rxTimer = s.lnk.rxTimer ∧
    (handReport r s).lnk.badFrames = s.lnk.badFrames := by
  unfold handReport
  (repeat' split) <;> cases h : reportClass r <;> simp [setClassQueue, reportOverrun]

/-- What every step of a fold leaves of the receiver, the fold leaves. -/
theorem foldl_receiver {α : Type} (f : State → α → State)
    (keeps : ∀ s a, (f s a).lnk.rx = s.lnk.rx ∧ (f s a).lnk.rxTimer = s.lnk.rxTimer ∧
      (f s a).lnk.badFrames = s.lnk.badFrames) (l : List α) (s : State) :
    (l.foldl f s).lnk.rx = s.lnk.rx ∧ (l.foldl f s).lnk.rxTimer = s.lnk.rxTimer ∧
    (l.foldl f s).lnk.badFrames = s.lnk.badFrames :=
  ⟨foldl_keeps (fun t => t.lnk.rx) f (fun t a => (keeps t a).1) l s,
    foldl_keeps (fun t => t.lnk.rxTimer) f (fun t a => (keeps t a).2.1) l s,
    foldl_keeps (fun t => t.lnk.badFrames) f (fun t a => (keeps t a).2.2) l s⟩

/-! ### VDP and PRM -/

@[simp] theorem noteOn_receiver (k : Key) (level : Nat) (src : NoteSource) (s : State) :
    (noteOn k level src s).lnk.rx = s.lnk.rx ∧ (noteOn k level src s).lnk.rxTimer = s.lnk.rxTimer ∧
    (noteOn k level src s).lnk.badFrames = s.lnk.badFrames := by
  unfold noteOn voiceDrop; dsimp only; (repeat' split) <;> simp

@[simp] theorem waitRelease_receiver (s : State) :
    (waitRelease s).lnk.rx = s.lnk.rx ∧ (waitRelease s).lnk.rxTimer = s.lnk.rxTimer ∧
    (waitRelease s).lnk.badFrames = s.lnk.badFrames := by
  unfold waitRelease playReport; (repeat' split) <;> simp

@[simp] theorem resolve_receiver (k : Key) (result : PracticeResult) (cause : PracticeCause) (offset : Int)
    (index : Option Nat) (s : State) :
    (resolve k result cause offset index s).lnk.rx = s.lnk.rx ∧
    (resolve k result cause offset index s).lnk.rxTimer = s.lnk.rxTimer ∧
    (resolve k result cause offset index s).lnk.badFrames = s.lnk.badFrames := by
  simp [resolve]

@[simp] theorem examine_receiver (s : State) :
    (examine s).lnk.rx = s.lnk.rx ∧ (examine s).lnk.rxTimer = s.lnk.rxTimer ∧
    (examine s).lnk.badFrames = s.lnk.badFrames := by
  exact foldl_receiver _ (fun _ _ => by simp [resolveWrong]) _ _

@[simp] theorem expectedNote_receiver (k : Key) (index : Nat) (s : State) :
    (expectedNote k index s).lnk.rx = s.lnk.rx ∧ (expectedNote k index s).lnk.rxTimer = s.lnk.rxTimer ∧
    (expectedNote k index s).lnk.badFrames = s.lnk.badFrames := by
  unfold expectedNote expectedMute expectedWait missEvicted missRepeated creditEarly resolveMiss guideNote
  dsimp only
  (repeat' split) <;> simp

@[simp] theorem endGroup_receiver (s : State) :
    (endGroup s).lnk.rx = s.lnk.rx ∧ (endGroup s).lnk.rxTimer = s.lnk.rxTimer ∧
    (endGroup s).lnk.badFrames = s.lnk.badFrames := by
  unfold endGroup closeGroup playReport; dsimp only; (repeat' split) <;> simp

@[simp] theorem expireDeadlines_receiver (s : State) :
    (expireDeadlines s).lnk.rx = s.lnk.rx ∧ (expireDeadlines s).lnk.rxTimer = s.lnk.rxTimer ∧
    (expireDeadlines s).lnk.badFrames = s.lnk.badFrames := by
  exact foldl_receiver _ (fun _ _ => by simp [resolveMiss]) _ _

@[simp] theorem expireWait_receiver (s : State) :
    (expireWait s).lnk.rx = s.lnk.rx ∧ (expireWait s).lnk.rxTimer = s.lnk.rxTimer ∧
    (expireWait s).lnk.badFrames = s.lnk.badFrames := by
  unfold expireWait
  simp only [waitRelease_receiver]
  exact foldl_receiver _ (fun _ _ => by simp [missTimeout, resolveMiss, guideNote]) _ _

@[simp] theorem practiceSweep_receiver (s : State) :
    (practiceSweep s).lnk.rx = s.lnk.rx ∧ (practiceSweep s).lnk.rxTimer = s.lnk.rxTimer ∧
    (practiceSweep s).lnk.badFrames = s.lnk.badFrames := by
  unfold practiceSweep; dsimp only; (repeat' split) <;> simp

/-! ### TKR -/

@[simp] theorem appendTake_receiver (e : Entry) (s : State) :
    (appendTake e s).lnk.rx = s.lnk.rx ∧ (appendTake e s).lnk.rxTimer = s.lnk.rxTimer ∧
    (appendTake e s).lnk.badFrames = s.lnk.badFrames := by
  unfold appendTake captureFull; dsimp only; (repeat' split) <;> simp

@[simp] theorem recorderSweep_receiver (s : State) :
    (recorderSweep s).lnk.rx = s.lnk.rx ∧ (recorderSweep s).lnk.rxTimer = s.lnk.rxTimer ∧
    (recorderSweep s).lnk.badFrames = s.lnk.badFrames := by
  unfold recorderSweep appendTimed; dsimp only; (repeat' split) <;> simp

/-! ### PBE -/

@[simp] theorem stopSteps_receiver (cause : PlayCause) (s : State) :
    (stopSteps cause s).lnk.rx = s.lnk.rx ∧ (stopSteps cause s).lnk.rxTimer = s.lnk.rxTimer ∧
    (stopSteps cause s).lnk.badFrames = s.lnk.badFrames := by
  unfold stopSteps playReport; dsimp only; (repeat' split) <;> simp

@[simp] theorem scoreFault_receiver (cause : ScoreCause) (index : Nat) (s : State) :
    (scoreFault cause index s).lnk.rx = s.lnk.rx ∧ (scoreFault cause index s).lnk.rxTimer = s.lnk.rxTimer ∧
    (scoreFault cause index s).lnk.badFrames = s.lnk.badFrames := by
  simp [scoreFault]

@[simp] theorem performNoteOn_receiver (key level part index : Nat) (s : State) :
    (performNoteOn key level part index s).lnk.rx = s.lnk.rx ∧
    (performNoteOn key level part index s).lnk.rxTimer = s.lnk.rxTimer ∧
    (performNoteOn key level part index s).lnk.badFrames = s.lnk.badFrames := by
  unfold performNoteOn playbackOn; dsimp only; (repeat' split) <;> simp

@[simp] theorem performScore_receiver (e : ScoreEntry) (index : Nat) (s : State) :
    (performScore e index s).lnk.rx = s.lnk.rx ∧ (performScore e index s).lnk.rxTimer = s.lnk.rxTimer ∧
    (performScore e index s).lnk.badFrames = s.lnk.badFrames := by
  unfold performScore performMark; (repeat' split) <;> simp

@[simp] theorem moveCursor_receiver (target faultIndex : Nat) (s : State) :
    (moveCursor target faultIndex s).lnk.rx = s.lnk.rx ∧
    (moveCursor target faultIndex s).lnk.rxTimer = s.lnk.rxTimer ∧
    (moveCursor target faultIndex s).lnk.badFrames = s.lnk.badFrames := by
  unfold moveCursor; dsimp only; (repeat' split) <;> simp

@[simp] theorem navigate_receiver (e : ScoreEntry) (i : Nat) (s : State) :
    (navigate e i s).lnk.rx = s.lnk.rx ∧ (navigate e i s).lnk.rxTimer = s.lnk.rxTimer ∧
    (navigate e i s).lnk.badFrames = s.lnk.badFrames := by
  unfold navigate; dsimp only; (repeat' split) <;> simp

@[simp] theorem performNavigation_receiver (e : ScoreEntry) (i : Nat) (s : State) :
    (performNavigation e i s).lnk.rx = s.lnk.rx ∧ (performNavigation e i s).lnk.rxTimer = s.lnk.rxTimer ∧
    (performNavigation e i s).lnk.badFrames = s.lnk.badFrames := by
  unfold performNavigation; dsimp only; (repeat' split) <;> simp

@[simp] theorem scoreStep_receiver (e : ScoreEntry) (s : State) :
    (scoreStep e s).lnk.rx = s.lnk.rx ∧ (scoreStep e s).lnk.rxTimer = s.lnk.rxTimer ∧
    (scoreStep e s).lnk.badFrames = s.lnk.badFrames := by
  unfold scoreStep; dsimp only; (repeat' split) <;> simp

@[simp] theorem scoreRun_receiver (n : Nat) (s : State) :
    (scoreRun n s).lnk.rx = s.lnk.rx ∧ (scoreRun n s).lnk.rxTimer = s.lnk.rxTimer ∧
    (scoreRun n s).lnk.badFrames = s.lnk.badFrames := by
  induction n using Nat.twoStepInduction generalizing s with
  | zero => simp [scoreRun]
  | one => unfold scoreRun; dsimp only; (repeat' split) <;> simp [scoreRun]
  | more n ih ih' => unfold scoreRun; dsimp only; (repeat' split) <;> simp [ih, ih']

@[simp] theorem takeStep_receiver (s : State) :
    (takeStep s).lnk.rx = s.lnk.rx ∧ (takeStep s).lnk.rxTimer = s.lnk.rxTimer ∧
    (takeStep s).lnk.badFrames = s.lnk.badFrames := by
  unfold takeStep performTake; dsimp only; (repeat' split) <;> simp

@[simp] theorem takeRun_receiver (n : Nat) (s : State) :
    (takeRun n s).lnk.rx = s.lnk.rx ∧ (takeRun n s).lnk.rxTimer = s.lnk.rxTimer ∧
    (takeRun n s).lnk.badFrames = s.lnk.badFrames := by
  induction n generalizing s with
  | zero => simp [takeRun]
  | succ n ih =>
    simp only [takeRun]
    split <;> simp [ih]

@[simp] theorem playUnit_receiver (s : State) :
    (playUnit s).lnk.rx = s.lnk.rx ∧ (playUnit s).lnk.rxTimer = s.lnk.rxTimer ∧
    (playUnit s).lnk.badFrames = s.lnk.badFrames := by
  unfold playUnit performRun; dsimp only; (repeat' split) <;> simp

@[simp] theorem playbackSweep_receiver (s : State) :
    (playbackSweep s).lnk.rx = s.lnk.rx ∧ (playbackSweep s).lnk.rxTimer = s.lnk.rxTimer ∧
    (playbackSweep s).lnk.badFrames = s.lnk.badFrames := by
  unfold playbackSweep performPulse; (repeat' split) <;> simp

/-! ## The start of a sweep (R1, R4, R5, R30, R44, R94, R95, R188) -/

/-! ### Expiries that are not due -/

theorem expireGate_idle {k : Key} {s : State} (idle : (s.keyRec k).state ≠ .gated) : expireGate k s = s := by
  simp [expireGate, gateExpiryDue, idle]

/-- With no gate open and no timer at its expiry nothing is owed. -/
theorem takeOwedExpiries_none {s : State} (gates : ∀ k, (s.keyRec k).state ≠ .gated)
    (age : s.ktr.strikeAge ≠ some s.now) (wait : s.rlc.waitTimer ≠ some s.now)
    (move : s.rlc.moveTimer ≠ some s.now) (byte : s.lnk.rxTimer ≠ some s.now) : takeOwedExpiries s = s := by
  have noGate : allKeys.foldl (fun t k => expireGate k t) s = s :=
    List.foldl_fixed' (fun k => expireGate_idle (gates k)) _
  simp [takeOwedExpiries, noGate, expireStrikeAge, age, expireRailWait, wait, expireRailMove, move, expireInterByte,
    byte]

/-! ### The gates that expire at the end of a sweep (R30) -/

/-- A gate's expiry leaves the records of the other keys. -/
theorem expireGate_keyRec_ne {j k : Key} (other : k ≠ j) (s : State) : (expireGate j s).keyRec k = s.keyRec k := by
  unfold expireGate
  split
  · rw [replaceKey_eq, keyRec_setKeyRec_ne other]; rfl
  · rfl

/-- R30: a key in GATED goes to CREEP at its gate's expiry. -/
theorem expireGate_keyRec_self {k : Key} {s : State} (due : gateExpiryDue s k = true) :
    (expireGate k s).keyRec k = { s.keyRec k with state := .creep, gate := none } := by
  rw [expireGate, if_pos due, replaceKey_keyRec_self]

/-- A key outside GATED keeps its record through every gate's expiry. -/
theorem expireGates_keyRec_idle {k : Key} (keys : List Key) {s : State} (idle : (s.keyRec k).state ≠ .gated) :
    (keys.foldl (fun t j => expireGate j t) s).keyRec k = s.keyRec k := by
  refine foldl_invariant (fun t => t.keyRec k = s.keyRec k) _ (fun t j same => ?_) keys s rfl
  by_cases self : k = j
  · rw [← self, expireGate_idle (by rw [same]; exact idle), same]
  · rw [expireGate_keyRec_ne self, same]

/-- R30: of the keys taken in turn, one whose gate expires now ends in CREEP. -/
theorem expireGates_keyRec_due {k : Key} {keys : List Key} (listed : k ∈ keys) {s : State}
    (due : gateExpiryDue s k = true) :
    (keys.foldl (fun t j => expireGate j t) s).keyRec k = { s.keyRec k with state := .creep, gate := none } := by
  induction keys generalizing s with
  | nil => cases listed
  | cons j keys ih =>
    rw [List.foldl_cons]
    by_cases self : k = j
    · subst self
      rw [expireGates_keyRec_idle keys (by rw [expireGate_keyRec_self due]; exact KeyState.noConfusion),
        expireGate_keyRec_self due]
    · have same := expireGate_keyRec_ne self s
      rw [ih (List.mem_of_ne_of_mem self listed) (by simpa [gateExpiryDue, same] using due), same]

theorem gateExpiryDue_of {k : Key} {g : Gate} {s : State} (gated : (s.keyRec k).state = .gated)
    (gate : (s.keyRec k).gate = some g) (expires : g.expiry = s.now) : gateExpiryDue s k = true := by
  simp [gateExpiryDue, gated, gate, expires]

/-! ### What the owed expiries leave, block by block -/

/-- The ending sweep after the expiries of its gates. -/
def gatesExpired (s : State) : State := allKeys.foldl (fun t k => expireGate k t) s

@[simp] theorem gatesExpired_frame (s : State) :
    (gatesExpired s).rlc = s.rlc ∧ (gatesExpired s).lnk = s.lnk ∧ (gatesExpired s).now = s.now ∧
    (gatesExpired s).ktr.strikeAge = s.ktr.strikeAge := by
  have strikeAge : ∀ (t : State) (k : Key), (expireGate k t).ktr.strikeAge = t.ktr.strikeAge := fun t k => by
    unfold expireGate; split <;> simp [replaceKey, setKeyRec]
  unfold gatesExpired
  refine ⟨foldl_keeps State.rlc _ ?_ _ _, foldl_keeps State.lnk _ ?_ _ _, foldl_keeps State.now _ ?_ _ _,
    foldl_keeps (fun t => t.ktr.strikeAge) _ strikeAge _ _⟩ <;> simp

theorem takeOwedExpiries_eq (s : State) :
    takeOwedExpiries s = expireInterByte (expireRailMove (expireRailWait (expireStrikeAge (gatesExpired s)))) := rfl

/-- R30: a key whose gate expires in the ending sweep. -/
theorem takeOwedExpiries_gate {k : Key} {s : State} (due : gateExpiryDue s k = true) :
    (takeOwedExpiries s).keyRec k = { s.keyRec k with state := .creep, gate := none } := by
  have keys : ∀ t : State, (expireStrikeAge t).keyRec k = t.keyRec k := fun t => by
    unfold expireStrikeAge; split <;> rfl
  have ktr : (takeOwedExpiries s).keyRec k = (expireStrikeAge (gatesExpired s)).keyRec k := by
    simp [takeOwedExpiries_eq, State.keyRec]
  rw [ktr, keys]
  exact expireGates_keyRec_due (List.mem_finRange k) due

/-- R44: the strike age that expires in the ending sweep. -/
theorem takeOwedExpiries_strikeAge {s : State} (due : s.ktr.strikeAge = some s.now) :
    (takeOwedExpiries s).ktr.lastStrike = none ∧ (takeOwedExpiries s).ktr.strikeAge = none := by
  simp [takeOwedExpiries_eq, expireStrikeAge, due]

@[simp] theorem expireRailWait_moveTimer (s : State) : (expireRailWait s).rlc.moveTimer = s.rlc.moveTimer := by
  unfold expireRailWait endWait
  dsimp only
  (repeat' split) <;> simp [enterRail]

/-- R95: a move whose timer expires in the ending sweep is halted. -/
theorem takeOwedExpiries_move {s : State} (due : s.rlc.moveTimer = some s.now) :
    (takeOwedExpiries s).rlc.state = .halted := by
  simp [takeOwedExpiries_eq, expireRailMove, due, haltRail_rlc]

/-- R94: a wait whose timer expires in the ending sweep, with no move timed, returns to its origin. -/
theorem takeOwedExpiries_wait {s : State} {o : WaitOrigin} (due : s.rlc.waitTimer = some s.now)
    (still : s.rlc.moveTimer = none) (waits : s.rlc.waitOrigin = some o) :
    (takeOwedExpiries s).rlc.state = originState o := by
  have ended : (expireRailWait (expireStrikeAge (gatesExpired s))).rlc.state = originState o := by
    rw [expireRailWait, if_pos (by simpa using due), endWait_rlc (by simpa using waits)]
  simpa [takeOwedExpiries_eq, expireRailMove, still] using ended

@[simp] theorem expireRailWait_receiver (s : State) :
    (expireRailWait s).lnk.rx = s.lnk.rx ∧ (expireRailWait s).lnk.rxTimer = s.lnk.rxTimer ∧
    (expireRailWait s).lnk.badFrames = s.lnk.badFrames := by
  unfold expireRailWait endWait railReport; dsimp only; (repeat' split) <;> simp

@[simp] theorem expireRailMove_receiver (s : State) :
    (expireRailMove s).lnk.rx = s.lnk.rx ∧ (expireRailMove s).lnk.rxTimer = s.lnk.rxTimer ∧
    (expireRailMove s).lnk.badFrames = s.lnk.badFrames := by
  unfold expireRailMove haltRail railReport; dsimp only; split <;> simp

/-- R188: a frame whose timer expires in the ending sweep is abandoned. -/
theorem takeOwedExpiries_interByte {s : State} (due : s.lnk.rxTimer = some s.now) :
    (takeOwedExpiries s).lnk.rx = .hunt ∧
      (takeOwedExpiries s).lnk.badFrames = min 65535 (s.lnk.badFrames + 1) := by
  simp [takeOwedExpiries_eq, expireInterByte, due, dropFrame, saturatingSucc, Config.countMax]

/-! ### The beginning of the next sweep -/

@[simp] theorem beginSweep_owed (s : State) :
    (beginSweep s).ktr = (takeOwedExpiries s).ktr ∧ (beginSweep s).rlc = (takeOwedExpiries s).rlc ∧
    (beginSweep s).lnk.rx = (takeOwedExpiries s).lnk.rx ∧
    (beginSweep s).lnk.badFrames = (takeOwedExpiries s).lnk.badFrames := by
  unfold beginSweep; dsimp only; split <;> simp

theorem beginSweep_scn (s : State) :
    (beginSweep s).scn = (advanceSweep (countWarmup (takeOwedExpiries s))).scn := by
  unfold beginSweep; dsimp only; split <;> simp

/-- R1: the sweep count advances by one, and the LED banks stay. -/
theorem beginSweep_sweep_leds (s : State) :
    (beginSweep s).scn.sweep = s.scn.sweep + 1 ∧ (beginSweep s).scn.leds = s.scn.leds := by
  rw [beginSweep_scn, advanceSweep, countWarmup]
  (repeat' split) <;> simp

/-- R4: whether the warm-up ends is read from the scanner and WARMUP alone. -/
theorem warmupEndDue_eq (s : State) : warmupEndDue s = warmupEnds s := by simp [warmupEndDue, warmupEnds]

/-- R4: the warm-up ends with the sweep that reaches WARMUP. -/
theorem warmupEnds_iff (s : State) :
    warmupEnds s = true ↔ s.scn.state = .warmup ∧ s.par.warmup ≤ s.scn.warmupCount + 1 := by simp [warmupEnds]

/-- R4, R5: the scanner and its channels at the beginning of the first RUNNING sweep. -/
theorem beginSweep_ends {s : State} (ends : warmupEnds s = true) :
    (beginSweep s).scn.state = .running ∧
      ∀ c, (beginSweep s).channel c = { s.channel c with health := .ok, persistence := 0, recovery := 0 } := by
  have warming := ((warmupEnds_iff s).1 ends).1
  have ends' : warmupEnds (takeOwedExpiries s) = true := by rw [← ends]; exact warmupEndDue_eq s
  simp [State.channel, beginSweep_scn, advanceSweep, countWarmup, warming, ends']

section
variable {s : State} (gates : ∀ k, (s.keyRec k).state ≠ .gated) (age : s.ktr.strikeAge ≠ some s.now)
  (wait : s.rlc.waitTimer ≠ some s.now) (move : s.rlc.moveTimer ≠ some s.now) (byte : s.lnk.rxTimer ≠ some s.now)
include gates age wait move byte

/-- R1, R14: with nothing owed, a RUNNING sweep begins with its number and the watch that gathers from it. -/
theorem beginSweep_running (running : s.scn.state = .running) :
    beginSweep s = { s with scn := { s.scn with
      sweep := s.scn.sweep + 1, watch := s.scn.watch.map fun v => { v with started := true } } } := by
  simp [beginSweep, takeOwedExpiries_none gates age wait move byte, countWarmup, warmupEnds, running, advanceSweep,
    State.modScn]

/-- R4: a sweep that does not end the warm-up counts one more of it. -/
theorem beginSweep_warming (warming : s.scn.state = .warmup) (early : s.scn.warmupCount + 1 < s.par.warmup) :
    beginSweep s = { s with scn := { s.scn with
      warmupCount := s.scn.warmupCount + 1, sweep := s.scn.sweep + 1
      watch := s.scn.watch.map fun v => { v with started := true } } } := by
  have goesOn : ¬ s.par.warmup ≤ s.scn.warmupCount + 1 := by omega
  simp [beginSweep, takeOwedExpiries_none gates age wait move byte, countWarmup, warmupEnds, warming, goesOn,
    advanceSweep, State.modScn]

/-- R4, R5, R193: the sweep that ends the warm-up hands the READY report of the next. -/
theorem beginSweep_ready (warming : s.scn.state = .warmup) (last : s.par.warmup ≤ s.scn.warmupCount + 1) :
    beginSweep s = handReport (.ready (s.scn.sweep + 1)) { s with scn := { s.scn with
      state := .running, warmupCount := s.scn.warmupCount + 1, sweep := s.scn.sweep + 1
      watch := s.scn.watch.map fun v => { v with started := true }
      channels := s.scn.channels.map fun r => { r with health := .ok, persistence := 0, recovery := 0 } } } := by
  simp [beginSweep, takeOwedExpiries_none gates age wait move byte, countWarmup, warmupEnds, warming, last,
    advanceSweep, State.modScn, State.now]

end

/-! ### The sweep events -/

theorem exec_sweep {s : State} (runs : s.Runs) : exec .sweep s = .next (linkChoose (startSweep s)) :=
  partEvent_runs runs _

theorem exec_warmupEnd {s : State} (runs : s.Runs) :
    exec .warmupEnd s = .next (linkChoose (if warmupEnds s then startSweep s else s)) := by
  rw [← warmupEndDue_eq]
  exact partEvent_runs runs _

/-- R2: the samples taken before PBE leave the sweep count and the LED banks. -/
theorem takeSamples_sweep_leds (samples : List (Channel × Raw)) (s : State) :
    (takeSamples samples s).scn.sweep = s.scn.sweep ∧ (takeSamples samples s).scn.leds = s.scn.leds :=
  ⟨foldl_keeps (fun t => t.scn.sweep) _ (fun _ _ => by simp [convert_sweep_leds]) _ _,
    foldl_keeps (fun t => t.scn.leds) _ (fun _ _ => by simp [convert_sweep_leds]) _ _⟩

/-- R1: whatever comes before PBE's sweep event, a sweep start advances the sweep count by one. -/
theorem startSweep_sweep_leds (s : State) :
    (startSweep s).scn.sweep = s.scn.sweep + 1 ∧ (startSweep s).scn.leds = s.scn.leds := by
  have before : (beforePlayback s).scn.sweep = s.scn.sweep + 1 ∧ (beforePlayback s).scn.leds = s.scn.leds := by
    unfold beforePlayback
    dsimp only
    (repeat' split) <;> simp [takeSamples_sweep_leds, beginSweep_sweep_leds]
  unfold startSweep
  dsimp only
  split <;> simp [before]

theorem playbackSweep_still {s : State} (still : s.pbe.state ≠ .running) : playbackSweep s = s := by
  unfold playbackSweep
  split <;> simp_all

theorem recorderSweep_still {s : State} (still : s.tkr.state ≠ .recording) : recorderSweep s = s := by
  simp [recorderSweep, gapDue, still]

/-- R157: in mode OFF PRM does not listen. -/
theorem practiceSweep_off {s : State} (off : s.par.practiceMode = 0) : practiceSweep s = s := by
  simp [practiceSweep, listening, off]

/-- Settles O35: a sweep start is the owed expiries, the warm-up count and the advance, then the blocks' sweep events,
none of which touches what the statement reads. -/
theorem sweepAdvancesAndEndsWarmup : Obligations.SweepAdvancesAndEndsWarmup := by
  refine ⟨?advances, ?ends, ?goesOn, ?quiet, ?begins, ?owed, ?after, ?samples⟩
  case advances =>
    intro s runs
    obtain ⟨sweep, leds⟩ := startSweep_sweep_leds s
    exact ⟨_, exec_sweep runs, sweep, by simp, leds, by simpa using runs⟩
  case ends =>
    intro s runs plain warming last
    have ends : warmupEnds s = true := (warmupEnds_iff s).2 ⟨warming, last⟩
    obtain ⟨running, channels⟩ := beginSweep_ends ends
    have scn : (startSweep s).scn = (beginSweep s).scn := by rw [startSweep_plain plain]; simp
    refine ⟨_, exec_sweep runs, by rw [exec_warmupEnd runs, if_pos ends], ?_, (startSweep_sweep_leds s).1,
      fun c => ?_⟩
    · rw [scn, running]
    · rw [← channels c, State.channel, State.channel, scn]
  case goesOn =>
    intro s runs goesOn
    have undue : ¬ warmupEnds s = true := fun ends => by
      obtain ⟨warming, last⟩ := (warmupEnds_iff s).1 ends
      rcases goesOn with running | early
      · rw [warming] at running; cases running
      · omega
    rw [exec_warmupEnd runs, if_neg undue]
  case quiet =>
    intro s runs plain running unwatched gates age wait move byte still idle off
    have begins := beginSweep_running gates age wait move byte running
    rw [unwatched] at begins
    rw [exec_sweep runs, startSweep_plain plain, begins, playbackSweep_still (by exact still),
      recorderSweep_still (by exact idle), practiceSweep_off (by exact off)]
    simp [unwatched]
  case begins =>
    rintro w s runs rfl gates age wait move byte
    exact ⟨beginSweep_running gates age wait move byte, beginSweep_warming gates age wait move byte,
      beginSweep_ready gates age wait move byte⟩
  case owed =>
    intro s runs plain
    refine ⟨_, exec_sweep runs, startSweep_plain plain, ?_, ?_, ?_, ?_, ?_⟩ <;> rw [startSweep_plain plain]
    · intro k g gated gate expires
      rw [← takeOwedExpiries_gate (gateExpiryDue_of gated gate expires)]
      simp [State.keyRec]
    · intro due
      simpa using takeOwedExpiries_strikeAge due
    · intro due _
      simpa using takeOwedExpiries_move due
    · intro o due still waits
      simpa using takeOwedExpiries_wait due still waits
    · intro due
      simpa using takeOwedExpiries_interByte due
  case after =>
    intro x xs later s runs named
    rw [exec_sweep runs, startSweep_after named]
  case samples =>
    intro c r rest s t runs converted
    rw [exec_conversion runs] at converted
    cases converted
    exact ⟨rfl, rfl⟩

end Sys2Proof.Machine

namespace Sys2Proof.Machine

/-! ## The GATED count (R45) -/

/-! ### The count and the records of the keys -/

/-- R45: KTR's GATED count is the number of its keys in GATED. -/
def Ktr.CountsGated (b : Ktr) : Prop := b.gatedCount = (allKeys.map fun k => gatedOne b.keys[k]).sum

theorem keepsGated_iff (s : State) : KeepsGated s ↔ s.ktr.CountsGated := Iff.rfl

/-- One summand replaced: the sum over the keys gains the new one and loses the old one. -/
theorem sum_allKeys_replace {f g : Key → Nat} (k : Key) (others : ∀ j, j ≠ k → g j = f j) :
    (allKeys.map g).sum + f k = (allKeys.map f).sum + g k := by
  have rest : ∑ j ∈ Finset.univ.erase k, g j = ∑ j ∈ Finset.univ.erase k, f j :=
    Finset.sum_congr rfl fun j off => others j (Finset.ne_of_mem_erase off)
  have gk := Finset.add_sum_erase Finset.univ g (Finset.mem_univ k)
  have fk := Finset.add_sum_erase Finset.univ f (Finset.mem_univ k)
  rw [Fin.sum_univ_def] at gk fk
  unfold allKeys
  omega

/-- A key in GATED is among the keys the sum counts. -/
theorem le_sum_allKeys (f : Key → Nat) (k : Key) : f k ≤ (allKeys.map f).sum :=
  List.single_le_sum (by simp) _ (List.mem_map_of_mem (List.mem_finRange k))

/-- R45: the count after one record is replaced, from the counts of the old and of the new record. -/
theorem sum_gatedOne_setKeyRec (k : Key) (r : KeyRecord) (s : State) :
    (allKeys.map fun j => gatedOne ((setKeyRec k r s).keyRec j)).sum + gatedOne (s.keyRec k) =
      (allKeys.map fun j => gatedOne (s.keyRec j)).sum + gatedOne r := by
  have replaced := sum_allKeys_replace (f := fun j => gatedOne (s.keyRec j))
    (g := fun j => gatedOne ((setKeyRec k r s).keyRec j)) k
    (fun j other => by rw [keyRec_setKeyRec_ne other])
  simpa using replaced

theorem replaceKey_countsGated (k : Key) (r : KeyRecord) {s : State} (counts : s.ktr.CountsGated) :
    (replaceKey k r s).ktr.CountsGated := by
  have sum := sum_gatedOne_setKeyRec k r s
  have old := le_sum_allKeys (fun j => gatedOne (s.keyRec j)) k
  have count : s.ktr.gatedCount = (allKeys.map fun j => gatedOne (s.keyRec j)).sum := counts
  show s.ktr.gatedCount + gatedOne r - gatedOne (s.keyRec k) =
    (allKeys.map fun j => gatedOne ((setKeyRec k r s).keyRec j)).sum
  omega

/-- A record replaced by one of the same part in the count. -/
theorem setKeyRec_countsGated {k : Key} {r : KeyRecord} {s : State} (same : gatedOne r = gatedOne (s.keyRec k))
    (counts : s.ktr.CountsGated) : (setKeyRec k r s).ktr.CountsGated := by
  rw [← replaceKey_of_gatedOne_eq k r s same]
  exact replaceKey_countsGated k r counts

theorem initial_countsGated : Ktr.initial.CountsGated := by
  simp [Ktr.CountsGated, Ktr.initial, KeyRecord.initial, gatedOne]

/-! ### Conversions and notices of a key -/

theorem deliverKeyEvent_countsGated (k : Key) {s : State} (counts : s.ktr.CountsGated) (e : KeyEvent) :
    (deliverKeyEvent k s e).ktr.CountsGated := by
  cases e with
  | lift => simpa [deliverKeyEvent] using counts
  | strike level speed repeated interval =>
    simp only [deliverKeyEvent, deliverStrike, handReport_frame, playerEvent_frame, practiceStrike_frame,
      voiceStrike_frame]
    exact counts
  | release fault => simpa [deliverKeyEvent] using counts

theorem keyArrival_countsGated (k : Key) (p : Nat) {s : State} (counts : s.ktr.CountsGated) :
    (keyArrival k p s).ktr.CountsGated :=
  foldl_invariant (fun t : State => t.ktr.CountsGated) _ (fun _ e held => deliverKeyEvent_countsGated k held e) _ _
    (replaceKey_countsGated k _ counts)

theorem keyFault_countsGated (k : Key) {s : State} (counts : s.ktr.CountsGated) :
    (keyFault k s).ktr.CountsGated := by
  unfold keyFault
  dsimp only
  split <;> simpa using replaceKey_countsGated k _ counts

theorem keyRecovery_countsGated (k : Key) (p : Nat) {s : State} (counts : s.ktr.CountsGated) :
    (keyRecovery k p s).ktr.CountsGated := by
  unfold keyRecovery
  split
  · exact replaceKey_countsGated k _ counts
  · exact counts

theorem deliverSample_countsGated (c : Channel) (p : Nat) {s : State} (counts : s.ktr.CountsGated) :
    (deliverSample c p s).ktr.CountsGated := by
  cases c with
  | key k => exact keyArrival_countsGated k p counts
  | pedal q => simpa [deliverSample] using counts
  | rail => simpa [deliverSample] using counts

theorem deliverFault_countsGated (c : Channel) {s : State} (counts : s.ktr.CountsGated) :
    (deliverFault c s).ktr.CountsGated := by
  cases c with
  | key k => exact keyFault_countsGated k counts
  | pedal q => simpa [deliverFault] using counts
  | rail => simpa [deliverFault] using counts

theorem deliverRecovery_countsGated (c : Channel) (p : Nat) {s : State} (counts : s.ktr.CountsGated) :
    (deliverRecovery c p s).ktr.CountsGated := by
  cases c with
  | key k => exact keyRecovery_countsGated k p counts
  | pedal q => simpa [deliverRecovery] using counts
  | rail => simpa [deliverRecovery] using counts

theorem judgeOk_countsGated (c : Channel) (r : Raw) {s : State} (counts : s.ktr.CountsGated) :
    (judgeOk c r s).ktr.CountsGated := by
  unfold judgeOk faultChannel
  dsimp only
  split
  · exact deliverFault_countsGated c (by simpa using counts)
  · exact deliverSample_countsGated c _ (by simpa using counts)

theorem judgeFaulted_countsGated (c : Channel) (r : Raw) {s : State} (counts : s.ktr.CountsGated) :
    (judgeFaulted c r s).ktr.CountsGated := by
  unfold judgeFaulted recoverChannel
  dsimp only
  split
  · exact deliverRecovery_countsGated c _ (by simpa using counts)
  · simpa using counts

theorem convert_countsGated (c : Channel) (r : Raw) {s : State} (counts : s.ktr.CountsGated) :
    (convert c r s).ktr.CountsGated := by
  have gathers : (gathered c r s).ktr.CountsGated := by simpa [gathered] using counts
  cases st : s.scn.state with
  | warmup => rw [convert_warmup st]; exact gathers
  | running =>
    cases health : (s.channel c).health with
    | ok => rw [convert_ok st health]; exact judgeOk_countsGated c r gathers
    | faulted => rw [convert_faulted st health]; exact judgeFaulted_countsGated c r gathers

/-! ### Timers and sweeps -/

theorem expireGate_countsGated (k : Key) {s : State} (counts : s.ktr.CountsGated) :
    (expireGate k s).ktr.CountsGated := by
  unfold expireGate
  split
  · exact replaceKey_countsGated k _ counts
  · exact counts

theorem expireStrikeAge_countsGated {s : State} (counts : s.ktr.CountsGated) :
    (expireStrikeAge s).ktr.CountsGated := by
  unfold expireStrikeAge
  split <;> exact counts

theorem takeOwedExpiries_countsGated {s : State} (counts : s.ktr.CountsGated) :
    (takeOwedExpiries s).ktr.CountsGated := by
  have gates : (gatesExpired s).ktr.CountsGated :=
    foldl_invariant (fun t : State => t.ktr.CountsGated) _ (fun _ k held => expireGate_countsGated k held) _ _ counts
  rw [takeOwedExpiries_eq]
  simpa using expireStrikeAge_countsGated gates

theorem beginSweep_countsGated {s : State} (counts : s.ktr.CountsGated) : (beginSweep s).ktr.CountsGated := by
  simpa using takeOwedExpiries_countsGated counts

theorem takeSamples_countsGated (samples : List (Channel × Raw)) {s : State} (counts : s.ktr.CountsGated) :
    (takeSamples samples s).ktr.CountsGated :=
  foldl_invariant (fun t : State => t.ktr.CountsGated) _
    (fun _ x held => by simpa using convert_countsGated x.1 x.2 held) _ _ counts

theorem beforePlayback_countsGated {s : State} (counts : s.ktr.CountsGated) :
    (beforePlayback s).ktr.CountsGated := by
  have begins (later : List (List (Channel × Raw))) : (beginSweep { s with early := later }).ktr.CountsGated :=
    beginSweep_countsGated counts
  unfold beforePlayback
  split
  · exact beginSweep_countsGated counts
  · next samples later _ =>
    dsimp only
    split
    · exact begins later
    · refine takeSamples_countsGated samples ?_
      simp only [linkChoose_frame, practiceSweep_frame, recorderSweep_frame]
      exact begins later

theorem startSweep_countsGated {s : State} (counts : s.ktr.CountsGated) : (startSweep s).ktr.CountsGated := by
  have played : (playbackSweep (beforePlayback s)).ktr.CountsGated := by
    simp only [playbackSweep_frame]
    exact beforePlayback_countsGated counts
  unfold startSweep
  dsimp only
  split
  · exact played
  · simp only [practiceSweep_frame, recorderSweep_frame]
    exact played

/-! ### The owners of the commands -/

section
variable (s : State)

@[simp] theorem ownTableRead_st (code sel first : Byte) (count : Half) :
    (ownTableRead code sel first count s).st = s := by
  unfold ownTableRead readPlain readSelected
  dsimp only
  (repeat' split) <;> rfl

@[simp] theorem ownScoreRead_st (start count : Half) : (ownScoreRead start count s).st = s := by
  unfold ownScoreRead
  dsimp only
  (repeat' split) <;> rfl

@[simp] theorem ownCaptureRead_st (offset count : Half) : (ownCaptureRead offset count s).st = s := by
  unfold ownCaptureRead
  dsimp only
  split <;> rfl

@[simp] theorem ownRail_ktr (target : Byte) : (ownRail target s).st.ktr = s.ktr := by
  unfold ownRail
  (repeat' split) <;> simp [answerOk, answerRefused]

@[simp] theorem ownScoreWrite_ktr (start : Half) (entries : List Entry) :
    (ownScoreWrite start entries s).st.ktr = s.ktr := by
  unfold ownScoreWrite
  (repeat' split) <;> simp [answerOk, answerRefused]

@[simp] theorem ownPlay_ktr (source mark : Byte) : (ownPlay source mark s).st.ktr = s.ktr := by
  have plays : ∀ src place, (playFrom src place s).ktr = s.ktr := fun src place => by
    simp only [playFrom, tellRecorder, fixWindow]
    cases src <;> (repeat' split) <;> simp [practicePlay]
  unfold ownPlay
  (repeat' split) <;> simp [answerOk, answerRefused, plays]

@[simp] theorem ownStop_ktr : (ownStop s).st.ktr = s.ktr := by
  unfold ownStop
  split <;> simp [answerOk]

@[simp] theorem ownPause_ktr : (ownPause s).st.ktr = s.ktr := by
  unfold ownPause
  split <;> simp [answerOk, answerRefused, pauseFrom, practicePause]

@[simp] theorem ownResume_ktr : (ownResume s).st.ktr = s.ktr := by
  unfold ownResume
  split <;> simp [answerOk, answerRefused, resumeSteps]

@[simp] theorem ownLocate_ktr (mark : Byte) : (ownLocate mark s).st.ktr = s.ktr := by
  have locates : ∀ place, (locateAt place s).ktr = s.ktr := fun place => by
    simp only [locateAt, tellRecorder]
    split <;> simp
  unfold ownLocate
  (repeat' split) <;> simp [answerOk, answerRefused, locates]

@[simp] theorem ownArm_ktr (mode : Byte) : (ownArm mode s).st.ktr = s.ktr := by
  unfold ownArm armRecorder
  (repeat' split) <;> simp [armAnswer, answerOk, answerRefused]

@[simp] theorem ownStopCapture_ktr : (ownStopCapture s).st.ktr = s.ktr := by
  unfold ownStopCapture answerOk
  dsimp only
  split <;> simp

@[simp] theorem ownCaptureClear_ktr : (ownCaptureClear s).st.ktr = s.ktr := by
  unfold ownCaptureClear
  split <;> simp [answerOk, answerRefused]

@[simp] theorem ownVoicePass_ktr (bytes : List Byte) : (ownVoicePass bytes s).st.ktr = s.ktr := by
  unfold ownVoicePass
  (repeat' split) <;> simp [answerOk, answerRefused]

@[simp] theorem ownDampAll_ktr : (ownDampAll s).st.ktr = s.ktr := by simp [ownDampAll, answerOk]

@[simp] theorem ownWatch_ktr (channel : Byte) (count : Half) : (ownWatch channel count s).st.ktr = s.ktr := by
  unfold ownWatch
  (repeat' split) <;> simp [answerOk, answerRefused, openWatch]

@[simp] theorem ownClearFlags_ktr : (ownClearFlags s).st.ktr = s.ktr := by
  simp [ownClearFlags, answerOk, clearAllFlags]

@[simp] theorem ownResetPractice_ktr : (ownResetPractice s).st.ktr = s.ktr := by
  simp [ownResetPractice, answerOk, resetMonitor, resetPlayback]

@[simp] theorem ownResetVoices_ktr : (ownResetVoices s).st.ktr = s.ktr := by
  simp [ownResetVoices, answerOk]

end

/-! ### TABLE WRITE -/

/-- R19: a CAL record placed leaves the key in its state. -/
theorem placeCal_state (c : CalRecord) (r : KeyRecord) : (placeCal c r).state = r.state := by
  unfold placeCal
  split <;> rfl

theorem takeCal_countsGated (a : CalArgs) {w : WriteResult} (counts : w.st.ktr.CountsGated) :
    (takeCal a w).st.ktr.CountsGated := by
  unfold takeCal
  split
  · exact counts
  · split
    · exact setKeyRec_countsGated (by simp only [gatedOne, placeCal_state]) counts
    · exact counts

theorem takePcal_ktr (a : PcalArgs) (w : WriteResult) : (takePcal a w).st.ktr = w.st.ktr := by
  unfold takePcal
  dsimp only
  (repeat' split) <;> simp [WriteResult.taken, WriteResult.refuse, WriteResult.refuseBusy, placePedalCal, placeRailCal]

theorem takeParam_ktr (a : ParamArgs) (w : WriteResult) : (takeParam a w).st.ktr = w.st.ktr := by
  unfold takeParam
  dsimp only
  split
  · simp [takePedalAccum, WriteResult.taken, storeParam]
  · simp [takeHoldOn, WriteResult.taken, testThresholds]
  · simp [takeHoldOff, WriteResult.taken, testThresholds]
  · simp [takePracticeMode, WriteResult.taken, storeParam]
  · simp [takePartMask, WriteResult.taken, storeParam]
  · unfold takeTakeSize
    split <;> simp [WriteResult.taken, WriteResult.refuseBusy, moveBoundary]
  · simp [takePlainParam, WriteResult.taken, storeParam]

/-! ### Owners and frames that keep a property (R187, R189) -/

/-- The owner of a command keeps a property of the state. -/
def OwnerKeeps (P : State → Prop) (own : State → Answer) : Prop := ∀ s, P s → P (own s).st

theorem OwnerKeeps.of_st {P : State → Prop} {own : State → Answer} (same : ∀ s, (own s).st = s) :
    OwnerKeeps P own := fun s held => by rw [same]; exact held

section
variable {P : State → Prop} (payload : List Byte)

theorem OwnerKeeps.formNone {own : State → Answer} (keeps : OwnerKeeps P own) :
    OwnerKeeps P (formNone own payload) := fun s held => by
  unfold Machine.formNone
  split
  · exact keeps s held
  · exact held

theorem OwnerKeeps.formByte {own : Byte → State → Answer} (keeps : ∀ a, OwnerKeeps P (own a)) :
    OwnerKeeps P (formByte own payload) := fun s held => by
  unfold Machine.formByte
  split
  · exact keeps _ s held
  · exact held

theorem OwnerKeeps.formTwoBytes {own : Byte → Byte → State → Answer} (keeps : ∀ a b, OwnerKeeps P (own a b)) :
    OwnerKeeps P (formTwoBytes own payload) := fun s held => by
  unfold Machine.formTwoBytes
  split
  · exact keeps _ _ s held
  · exact held

theorem OwnerKeeps.formTwoHalves {own : Half → Half → State → Answer} (keeps : ∀ a b, OwnerKeeps P (own a b)) :
    OwnerKeeps P (formTwoHalves own payload) := fun s held => by
  unfold Machine.formTwoHalves
  split
  · exact keeps _ _ s held
  · exact held

theorem OwnerKeeps.formByteHalf {own : Byte → Half → State → Answer} (keeps : ∀ a b, OwnerKeeps P (own a b)) :
    OwnerKeeps P (formByteHalf own payload) := fun s held => by
  unfold Machine.formByteHalf
  split
  · exact keeps _ _ s held
  · exact held

theorem OwnerKeeps.withRecords {α : Type} {own : List α → State → Answer} (keeps : ∀ rs, OwnerKeeps P (own rs))
    (records : Option (List α)) : OwnerKeeps P (withRecords records own) := fun s held => by
  unfold Machine.withRecords
  split
  · exact keeps _ s held
  · exact held

theorem OwnerKeeps.formScoreWrite (keeps : ∀ start entries, OwnerKeeps P (ownScoreWrite start entries)) :
    OwnerKeeps P (formScoreWrite payload) := fun s held => by
  unfold Machine.formScoreWrite
  split
  · exact OwnerKeeps.withRecords (keeps _) _ s held
  · exact held

end

/-- What every record of a run keeps, the run keeps. -/
theorem takeRecords_keeps {α : Type} {P : State → Prop} {take : α → WriteResult → WriteResult}
    (keeps : ∀ a w, P w.st → P (take a w).st) (records : List α) {s : State} (held : P s) :
    P (takeRecords take records s).answer.st :=
  foldl_invariant (fun w : WriteResult => P w.st) _ (fun w a => keeps a w) _ _ held

/-! ### The owners keep the GATED count -/

theorem OwnerKeeps.gated_of_ktr {own : State → Answer} (same : ∀ s, (own s).st.ktr = s.ktr) :
    OwnerKeeps KeepsGated own := fun s counts => by
  rw [keepsGated_iff, same]
  exact counts

theorem ownCalWrite_keepsGated (records : List CalArgs) : OwnerKeeps KeepsGated (ownCalWrite records) :=
  fun s counts => by
    unfold ownCalWrite
    (repeat' split)
    · exact counts
    · exact counts
    · exact takeRecords_keeps (P := KeepsGated) (fun a _ held => takeCal_countsGated a held) _ counts

theorem ownPcalWrite_keepsGated (records : List PcalArgs) : OwnerKeeps KeepsGated (ownPcalWrite records) :=
  fun s counts => by
    unfold ownPcalWrite
    (repeat' split)
    · exact counts
    · exact counts
    · exact takeRecords_keeps (P := KeepsGated)
        (fun a w held => by rw [keepsGated_iff, takePcal_ktr]; exact held) _ counts

theorem ownParamWrite_keepsGated (entries : List ParamArgs) : OwnerKeeps KeepsGated (ownParamWrite entries) :=
  fun s counts => by
    unfold ownParamWrite
    (repeat' split)
    · exact counts
    · exact counts
    · exact takeRecords_keeps (P := KeepsGated)
        (fun a w held => by rw [keepsGated_iff, takeParam_ktr]; exact held) _ counts

/-- R40: a curve write leaves the keys and their count. -/
theorem ownCurveWrite_keepsGated (curve first : Byte) (points : List Byte) :
    OwnerKeeps KeepsGated (ownCurveWrite curve first points) := fun s counts => by
  unfold ownCurveWrite
  dsimp only
  (repeat' split) <;> exact counts

theorem ownLoudWrite_keepsGated (first : Byte) (gains : List Half) :
    OwnerKeeps KeepsGated (ownLoudWrite first gains) := fun s counts => by
  unfold ownLoudWrite
  dsimp only
  (repeat' split) <;> exact counts

theorem ownClickWrite_keepsGated (sound first : Byte) (samples : List Half) :
    OwnerKeeps KeepsGated (ownClickWrite sound first samples) := .gated_of_ktr fun s => by
  have stores (snd : Sound) : (storeClick snd first.toNat samples s).ktr = s.ktr := by cases snd <;> rfl
  unfold ownClickWrite
  (repeat' split) <;> simp [answerRefused, WriteResult.answer, WriteResult.taken, stores]

theorem ownTableWriteFrame_keepsGated (payload : List Byte) : OwnerKeeps KeepsGated (ownTableWriteFrame payload) :=
  fun s counts => by
    unfold ownTableWriteFrame
    split
    · exact counts
    · split
      · exact OwnerKeeps.withRecords ownCalWrite_keepsGated _ s counts
      · exact OwnerKeeps.withRecords ownPcalWrite_keepsGated _ s counts
      · exact ownCurveWrite_keepsGated _ _ _ s counts
      · exact OwnerKeeps.withRecords ownParamWrite_keepsGated _ s counts
      · exact OwnerKeeps.withRecords (ownLoudWrite_keepsGated _) _ s counts
      · exact OwnerKeeps.withRecords (ownClickWrite_keepsGated _ _) _ s counts
      · exact counts

/-- R192: a TABLE READ frame changes nothing. -/
theorem ownTableReadFrame_st (payload : List Byte) (s : State) : (ownTableReadFrame payload s).st = s := by
  unfold ownTableReadFrame
  (repeat' split) <;> simp [answerRefused]

theorem ownReset_ktr (scope : Byte) (s : State) : (ownReset scope s).st.ktr = s.ktr := by
  unfold ownReset
  (repeat' split) <;> simp [answerRefused]

theorem ownerOf_keepsGated (kind : Byte) (payload : List Byte) : OwnerKeeps KeepsGated (ownerOf kind payload) := by
  unfold ownerOf
  split
  · exact .formNone payload (.of_st fun _ => rfl)
  · exact ownTableWriteFrame_keepsGated payload
  · exact .of_st (ownTableReadFrame_st payload)
  · exact .formByte payload fun a => .gated_of_ktr (ownRail_ktr · a)
  · exact .formScoreWrite payload fun a b => .gated_of_ktr (ownScoreWrite_ktr · a b)
  · exact .formTwoHalves payload fun a b => .of_st (ownScoreRead_st · a b)
  · exact .formTwoBytes payload fun a b => .gated_of_ktr (ownPlay_ktr · a b)
  · exact .formNone payload (.gated_of_ktr ownStop_ktr)
  · exact .formNone payload (.gated_of_ktr ownPause_ktr)
  · exact .formNone payload (.gated_of_ktr ownResume_ktr)
  · exact .formByte payload fun a => .gated_of_ktr (ownLocate_ktr · a)
  · exact .formByte payload fun a => .gated_of_ktr (ownArm_ktr · a)
  · exact .formNone payload (.gated_of_ktr ownStopCapture_ktr)
  · exact .formTwoHalves payload fun a b => .of_st (ownCaptureRead_st · a b)
  · exact .formNone payload (.gated_of_ktr ownCaptureClear_ktr)
  · exact .gated_of_ktr (ownVoicePass_ktr · payload)
  · exact .formNone payload (.gated_of_ktr ownDampAll_ktr)
  · exact .formByteHalf payload fun a b => .gated_of_ktr (ownWatch_ktr · a b)
  · exact .formNone payload (.of_st fun _ => rfl)
  · exact .formNone payload (.gated_of_ktr ownClearFlags_ktr)
  · exact .formByte payload fun a => .gated_of_ktr (ownReset_ktr a)

/-! ### Every event -/

/-- R45: an event keeps the GATED count. -/
def EventKeepsGated (event : State → Host.Outcome State Fault Refusal) : Prop :=
  ∀ s t, KeepsGated s → event s = .next t → KeepsGated t

theorem EventKeepsGated.of_effect {effect : State → State} (keeps : ∀ s, KeepsGated s → KeepsGated (effect s)) :
    EventKeepsGated (partEvent effect) := fun s t counts next => by
  have chosen (u : State) (held : KeepsGated u) : KeepsGated (linkChoose u) := by
    rw [keepsGated_iff, show (linkChoose u).ktr = u.ktr by simp]
    exact held
  simp only [partEvent, Host.Outcome.next.injEq] at next
  subst next
  split
  · exact counts
  · exact chosen _ (keeps s counts)

theorem EventKeepsGated.of_ktr {effect : State → State} (same : ∀ s, (effect s).ktr = s.ktr) :
    EventKeepsGated (partEvent effect) :=
  .of_effect fun s counts => by
    rw [keepsGated_iff, same]
    exact counts

/-- R189: a command keeps the count when its owner does: the reply and the dropped count are the link's. -/
theorem acceptCommand_keepsGated {own : State → Answer} (keeps : OwnerKeeps KeepsGated own) (kind : Byte) {s : State}
    (counts : KeepsGated s) : KeepsGated (acceptCommand kind own s) := by
  unfold acceptCommand
  split
  · exact keeps s counts
  · exact counts

theorem EventKeepsGated.of_owner {own : State → Answer} (keeps : OwnerKeeps KeepsGated own) (kind : Byte) :
    EventKeepsGated (partEvent (acceptCommand kind own)) :=
  .of_effect fun _ counts => acceptCommand_keepsGated keeps kind counts

/-- An event named for what comes about in a larger one keeps what the larger one keeps. -/
theorem EventKeepsGated.of_onlyWhen {effect : State → State} (keeps : ∀ s, KeepsGated s → KeepsGated (effect s))
    (due : State → Bool) : EventKeepsGated (partEvent (onlyWhen due effect)) :=
  .of_effect fun s counts => by
    unfold onlyWhen
    split
    · exact keeps s counts
    · exact counts

/-- R46, R196: a DEVICE RESET leaves KTR's reset table. -/
theorem deviceReset_keepsGated (s : State) : KeepsGated (deviceReset s) := by
  rw [keepsGated_iff, deviceReset, (voiceChoose_frame _).2.2.2.1]
  exact initial_countsGated

theorem takeCommand_keepsGated (kind : Byte) (payload : List Byte) {s : State} (counts : KeepsGated s) :
    KeepsGated (takeCommand kind payload s) := by
  unfold takeCommand
  split
  · exact deviceReset_keepsGated s
  · exact acceptCommand_keepsGated (ownerOf_keepsGated kind payload) kind counts

theorem takeByte_keepsGated (b : Byte) {s : State} (counts : KeepsGated s) : KeepsGated (takeByte b s) := by
  unfold takeByte checkFrame
  cases s.lnk.rx with
  | hunt => dsimp only; split <;> exact counts
  | kind => exact counts
  | length k => dsimp only; (repeat' split) <;> exact counts
  | body k len got => dsimp only; split <;> exact counts
  | check k payload =>
    dsimp only
    split
    · exact takeCommand_keepsGated k payload counts
    · exact counts

theorem receiveByte_keepsGated (b : Byte) (framingError : Bool) {s : State} (counts : KeepsGated s) :
    KeepsGated (receiveByte b framingError s) := by
  unfold receiveByte takeBadByte
  (repeat' split)
  · exact counts
  · exact counts
  · exact takeByte_keepsGated b counts

theorem releaseReset_ktr (s : State) : (releaseReset s).ktr = s.ktr := by
  unfold releaseReset
  split <;> simp

theorem exec_keepsGated (i : Instr) : EventKeepsGated (exec i) := by
  have convert (c : Channel) (r : Raw) (s : State) (counts : KeepsGated s) : KeepsGated (convert c r s) :=
    convert_countsGated c r counts
  have sweep (s : State) (counts : KeepsGated s) : KeepsGated (startSweep s) := startSweep_countsGated counts
  have period (f : AudioFrame) (s : State) (counts : KeepsGated s) : KeepsGated (samplePeriod f s) := by
    rw [keepsGated_iff, show (samplePeriod f s).ktr = s.ktr by simp]
    exact counts
  cases i with
  | powerOnReset => rintro s t - ⟨⟩; exact initial_countsGated
  | deviceReset => exact .of_effect fun s _ => deviceReset_keepsGated s
  | resetPractice => exact .of_owner (.gated_of_ktr ownResetPractice_ktr) _
  | resetVoices => exact .of_owner (.gated_of_ktr ownResetVoices_ktr) _
  | ping => exact .of_owner (.of_st fun _ => rfl) _
  | tableRead code sel first count => exact .of_owner (.of_st (ownTableRead_st · code sel first count)) _
  | calWrite records => exact .of_owner (ownCalWrite_keepsGated records) _
  | pcalWrite records => exact .of_owner (ownPcalWrite_keepsGated records) _
  | curveWrite curve first points => exact .of_owner (ownCurveWrite_keepsGated curve first points) _
  | loudWrite first gains => exact .of_owner (ownLoudWrite_keepsGated first gains) _
  | clickWrite sound first samples => exact .of_owner (ownClickWrite_keepsGated sound first samples) _
  | paramWrite entries => exact .of_owner (ownParamWrite_keepsGated entries) _
  | warmupWrite value => exact .of_owner (ownParamWrite_keepsGated _) _
  | pedalAccumWrite value => exact .of_owner (ownParamWrite_keepsGated _) _
  | holdOnWrite value => exact .of_owner (ownParamWrite_keepsGated _) _
  | holdOffWrite value => exact .of_owner (ownParamWrite_keepsGated _) _
  | practiceModeWrite value => exact .of_owner (ownParamWrite_keepsGated _) _
  | partMaskWrite value => exact .of_owner (ownParamWrite_keepsGated _) _
  | takeSizeWrite value => exact .of_owner (ownParamWrite_keepsGated _) _
  | rail target => exact .of_owner (.gated_of_ktr (ownRail_ktr · target)) _
  | scoreWrite start entries => exact .of_owner (.gated_of_ktr (ownScoreWrite_ktr · start entries)) _
  | scoreRead start count => exact .of_owner (.of_st (ownScoreRead_st · start count)) _
  | play source mark => exact .of_owner (.gated_of_ktr (ownPlay_ktr · source mark)) _
  | stop => exact .of_owner (.gated_of_ktr ownStop_ktr) _
  | pause => exact .of_owner (.gated_of_ktr ownPause_ktr) _
  | resume => exact .of_owner (.gated_of_ktr ownResume_ktr) _
  | locate mark => exact .of_owner (.gated_of_ktr (ownLocate_ktr · mark)) _
  | arm mode => exact .of_owner (.gated_of_ktr (ownArm_ktr · mode)) _
  | stopCapture => exact .of_owner (.gated_of_ktr ownStopCapture_ktr) _
  | captureRead offset count => exact .of_owner (.of_st (ownCaptureRead_st · offset count)) _
  | captureClear => exact .of_owner (.gated_of_ktr ownCaptureClear_ktr) _
  | voicePass bytes => exact .of_owner (.gated_of_ktr (ownVoicePass_ktr · bytes)) _
  | dampAll => exact .of_owner (.gated_of_ktr ownDampAll_ktr) _
  | watch channel count => exact .of_owner (.gated_of_ktr (ownWatch_ktr · channel count)) _
  | status => exact .of_owner (.of_st fun _ => rfl) _
  | clearFlags => exact .of_owner (.gated_of_ktr ownClearFlags_ktr) _
  | sweep => exact .of_effect sweep
  | conversion c r => exact .of_effect (convert c r)
  | warmupEnd => exact .of_onlyWhen sweep _
  | channelFault c r => exact .of_onlyWhen (convert c r) _
  | channelRecovery c r => exact .of_onlyWhen (convert c r) _
  | gateExpiry k => exact .of_effect fun _ counts => expireGate_countsGated k counts
  | strikeAgeExpiry => exact .of_effect fun _ counts => expireStrikeAge_countsGated counts
  | pedalGroupComplete p r => exact .of_onlyWhen (convert (.pedal p) r) _
  | railWaitExpiry => exact .of_ktr fun s => by simp
  | railMoveExpiry => exact .of_ktr fun s => by simp
  | railDriftHalt r => exact .of_onlyWhen (convert .rail r) _
  | outputSamplePeriod f => exact .of_effect (period f)
  | jackAdoption f => exact .of_onlyWhen (period f) _
  | clickEnd f => exact .of_onlyWhen (period f) _
  | pulse => exact .of_onlyWhen sweep _
  | run => exact .of_onlyWhen sweep _
  | deadlineExpiry => exact .of_onlyWhen sweep _
  | waitTimerExpiry => exact .of_onlyWhen sweep _
  | staleStrikeAged => exact .of_onlyWhen sweep _
  | takeGap => exact .of_onlyWhen sweep _
  | voiceFrameCompletion => exact .of_ktr fun s => by simp
  | holdInChange high =>
    exact fun s t counts => EventKeepsGated.of_ktr (effect := voiceChoose) (fun s => by simp) _ t counts
  | byteReceived b framingError => exact .of_effect fun _ counts => receiveByte_keepsGated b framingError counts
  | interByteTimeout => exact .of_ktr fun s => by simp
  | linkFrameCompletion => exact .of_ktr fun s => rfl
  | resetNRelease =>
    rintro s t counts ⟨⟩
    rw [keepsGated_iff, releaseReset_ktr]
    exact counts

/-- Settles O58: only KTR's own operations reach the keys and the count, and each moves both together. -/
theorem stepKeepsGated : Obligations.StepKeepsGated := by
  intro s t counts next
  unfold step at next
  split at next
  · cases next
    exact counts
  · exact exec_keepsGated _ _ _ (by exact counts) next

end Sys2Proof.Machine

namespace Sys2Proof.Machine

/-! ## Crossing stamp, interval, speed and level of a strike (R36 to R39) -/

/-- R36: a position below the threshold crosses it by the fraction of the way it had to go. -/
theorem crossingStamp_below {p threshold : Nat} (below : p < threshold) (now : Sweep) (c : Nat) :
    crossingStamp now p c threshold =
      BitVec.ofNat 32 ((now - 1).toNat % 2 ^ 28 * 16 + (threshold - p) * 16 / (c - p)) := by
  simp only [crossingStamp, if_pos below]

/-- R36: a position at or past the threshold stands for its sweep's start. -/
theorem crossingStamp_past {p threshold : Nat} (past : threshold ≤ p) (now : Sweep) (c : Nat) :
    crossingStamp now p c threshold = BitVec.ofNat 32 ((now - 1).toNat % 2 ^ 28 * 16) := by
  simp only [crossingStamp, if_neg (Nat.not_lt.2 past), Nat.add_zero]

/-- R38: the speed over the way from either start threshold to G2. -/
theorem strikeSpeed_eq (c : CalRecord) (start : GateStart) (interval : Nat) :
    strikeSpeed c start interval =
      min 4095 (c.scale * 1024 * (c.g2 - startPosition c start) / (interval * (c.g2 - c.g1))) :=
  Nat.max_eq_right (Nat.zero_le _)

/-- R39, R40: CURVE_SELECT selects one of the four curves. -/
theorem selectedCurve_eq (s : State) (selects : s.par.curveSelect < 4) :
    selectedCurve s = s.ktr.curves[s.par.curveSelect] := by
  simp [selectedCurve, selects]

theorem curvePoint_eq (curve : Vector Nat 33) {i : Nat} (inside : i < 33) : curvePoint curve i = curve[i] := by
  simp [curvePoint, inside]

/-- R39: the level between the two curve points around a speed. -/
theorem strikeLevel_cast (curve : Vector Nat 33) (v : Nat) (fits : v ≤ 4095) :
    (strikeLevel curve v : Int) =
      max 1 (min 127 ((curve[v / 128] : Int) +
        (((curve[v / 128 + 1] : Int) - curve[v / 128]) * (v % 128 : Nat) + 64) / 128)) := by
  simp only [strikeLevel, curvePoint_eq curve (show v / 128 < 33 by omega),
    curvePoint_eq curve (show v / 128 + 1 < 33 by omega)]
  rw [clampInt, Int.toNat_of_nonneg (le_trans (by decide) (le_max_left _ _)), Int.natCast_mod]
  rfl

/-- Settles O42: the interval is its definition; stamp, speed, curve and level by their lemmas. -/
theorem strikeLevelArithmetic : Obligations.StrikeLevelArithmetic :=
  ⟨fun now _ c _ => ⟨fun below _ => crossingStamp_below below now c, fun past => crossingStamp_past past now c⟩,
    fun _ _ => rfl, fun c interval => ⟨strikeSpeed_eq c .g1 interval, strikeSpeed_eq c .rpt interval⟩,
    selectedCurve_eq, strikeLevel_cast⟩

/-! ## Timer expiries (R30, R44, R94, R95, R188) -/

/-! ### The expiries that are due -/

/-- R30, R45: the expiry of a gate takes its key out of GATED and out of the count. -/
theorem expireGate_due {k : Key} {s : State} (due : gateExpiryDue s k = true) :
    expireGate k s = setKeyRec k { s.keyRec k with state := .creep, gate := none }
      { s with ktr := { s.ktr with gatedCount := s.ktr.gatedCount - 1 } } := by
  have gated : (s.keyRec k).state = .gated := by
    simp only [gateExpiryDue, Bool.and_eq_true, beq_iff_eq] at due
    exact due.1
  rw [expireGate, if_pos due, replaceKey_eq]
  simp [gatedOne, gated]

theorem expireStrikeAge_due {s : State} (due : s.ktr.strikeAge = some s.now) :
    expireStrikeAge s = { s with ktr := { s.ktr with lastStrike := none, strikeAge := none } } :=
  if_pos due

/-- R94: a wait that ends is back at its origin and reports it. -/
theorem endWait_eq {s : State} {o : WaitOrigin} (waits : s.rlc.waitOrigin = some o) (outcome : RailOutcome)
    (cause : RailCause) :
    endWait outcome cause s =
      handReport (.rail (originState o) outcome cause (railTargetOf s.rlc.state) s.rlc.position s.now)
        { s with rlc := { s.rlc with
          state := originState o, drive := .off, drift := 0, waitOrigin := none, waitTimer := none } } := by
  unfold endWait
  rw [waits]
  cases o <;> rfl

/-- R95: a halt of the rail and its report. -/
theorem haltRail_eq (cause : RailCause) (s : State) :
    haltRail cause s =
      handReport (.rail .halted .halted cause (railTargetOf s.rlc.state) s.rlc.position s.now)
        { s with rlc := { s.rlc with
          state := .halted, drive := .off, waitOrigin := none, waitTimer := none, moveTimer := none } } := rfl

theorem expireRailWait_due {s : State} (due : s.rlc.waitTimer = some s.now) :
    expireRailWait s = endWait .notQuiet .none s := if_pos due

/-- R95, R99: the move is halted, and the RAIL TIMEOUT exception follows. -/
theorem expireRailMove_due {s : State} (due : s.rlc.moveTimer = some s.now) :
    expireRailMove s =
      handReport (.railTimeout s.rlc.state s.rlc.position s.now) (haltRail .timeout s) := by
  simp [expireRailMove, due, haltRail_rlc]

theorem expireInterByte_due {s : State} (due : s.lnk.rxTimer = some s.now) :
    expireInterByte s = { s with lnk := { s.lnk with
      rx := .hunt, rxTimer := none, badFrames := min 65535 (s.lnk.badFrames + 1) } } := if_pos due

/-! ### The expiries that are not due (log 2) -/

theorem gateExpiryDue_not {k : Key} {s : State}
    (early : (s.keyRec k).state ≠ .gated ∨ ∀ g, (s.keyRec k).gate = some g → g.expiry ≠ s.now) :
    ¬ gateExpiryDue s k = true := by
  intro due
  simp only [gateExpiryDue, Bool.and_eq_true, beq_iff_eq] at due
  obtain ⟨gated, expires⟩ := due
  rcases early with other | early
  · exact other gated
  · split at expires
    · next g gate => exact early g gate (by simpa using expires)
    · cases expires

/-- R94, R95: the target of a wait or a move, by its state. -/
theorem railTargetOf_wait {st : RailState} {way : RailTarget}
    (waits : st = .waitToEngage ∧ way = .inward ∨ st = .waitToDisengage ∧ way = .outward) :
    railTargetOf st = some way := by
  rcases waits with ⟨rfl, rfl⟩ | ⟨rfl, rfl⟩ <;> rfl

theorem railTargetOf_move {st : RailState} {way : RailTarget}
    (moves : st = .engaging ∧ way = .inward ∨ st = .disengaging ∧ way = .outward) :
    railTargetOf st = some way := by
  rcases moves with ⟨rfl, rfl⟩ | ⟨rfl, rfl⟩ <;> rfl

theorem originState_of {o : WaitOrigin} {back : RailState}
    (returns : o = .engaged ∧ back = .engaged ∨ o = .disengaged ∧ back = .disengaged ∨
      o = .halted ∧ back = .halted) : originState o = back := by
  rcases returns with ⟨rfl, rfl⟩ | ⟨rfl, rfl⟩ | ⟨rfl, rfl⟩ <;> rfl

section
variable {s : State} (runs : s.Runs)
include runs

theorem exec_gateExpiry (k : Key) : exec (.gateExpiry k) s = .next (linkChoose (expireGate k s)) :=
  partEvent_runs runs _

theorem exec_strikeAgeExpiry : exec .strikeAgeExpiry s = .next (linkChoose (expireStrikeAge s)) :=
  partEvent_runs runs _

theorem exec_railWaitExpiry : exec .railWaitExpiry s = .next (linkChoose (expireRailWait s)) :=
  partEvent_runs runs _

theorem exec_railMoveExpiry : exec .railMoveExpiry s = .next (linkChoose (expireRailMove s)) :=
  partEvent_runs runs _

theorem exec_interByteTimeout : exec .interByteTimeout s = .next (linkChoose (expireInterByte s)) :=
  partEvent_runs runs _

end

/-- Settles O34: each timer row is its expiry, which is its effect where it is due and nothing where it is not. -/
theorem timerExpiries : Obligations.TimerExpiries := by
  refine ⟨⟨?gate, ?age, ?wait, ?move, ?byte⟩, ?noGate, ?noAge, ?noWait, ?noMove, ?noByte⟩
  case gate =>
    intro k g s runs gated gate expires
    rw [exec_gateExpiry runs, expireGate_due (gateExpiryDue_of gated gate expires)]
  case age =>
    intro s runs due
    rw [exec_strikeAgeExpiry runs, expireStrikeAge_due due]
  case wait =>
    intro o back way s runs due waits returns ways
    rw [exec_railWaitExpiry runs, expireRailWait_due due, endWait_eq waits, originState_of returns,
      railTargetOf_wait ways]
  case move =>
    intro way s runs due ways
    rw [exec_railMoveExpiry runs, expireRailMove_due due, haltRail_eq, railTargetOf_move ways]
  case byte =>
    intro s runs due
    rw [exec_interByteTimeout runs, expireInterByte_due due]
  case noGate =>
    intro k s runs early
    rw [exec_gateExpiry runs, expireGate, if_neg (gateExpiryDue_not early)]
  case noAge =>
    intro s runs early
    rw [exec_strikeAgeExpiry runs, expireStrikeAge, if_neg early]
  case noWait =>
    intro s runs early
    rw [exec_railWaitExpiry runs, expireRailWait, if_neg early]
  case noMove =>
    intro s runs early
    rw [exec_railMoveExpiry runs, expireRailMove, if_neg early]
  case noByte =>
    intro s runs early
    rw [exec_interByteTimeout runs, expireInterByte, if_neg early]

end Sys2Proof.Machine

namespace Sys2Proof.Machine

/-! ## TABLE WRITE of CURVE, LOUD and CLICK (R40, R105, R113, R191) -/

/-! ### Runs -/

/-- R191: a run within its table's greatest. -/
theorem badRun_false {α : Type} {most : Nat} {records : List α} (nonempty : records ≠ []) (fits : records.length ≤ most) :
    badRun most records = false := by
  simp [badRun, nonempty, fits]

/-- R191: no record, or more than the table's greatest. -/
theorem badRun_true {α : Type} {most : Nat} {records : List α} (bad : records = [] ∨ most < records.length) :
    badRun most records = true := by
  simpa [badRun] using bad

/-- What a run leaves in the table: its values from the first index on, and every other entry as it was. -/
theorem storeRun_map_getElem {α β : Type} {n : Nat} (v : Vector α n) (first : Nat) (run : List β) (f : β → α) (d : β)
    (i : Nat) (inside : i < n) :
    (storeRun v first (run.map f))[i] =
      if first ≤ i ∧ i < first + run.length then f (run[i - first]?.getD d) else v[i] := by
  induction run generalizing v first with
  | nil => rw [if_neg (by simp), List.map_nil, storeRun]
  | cons x xs ih =>
    rw [List.map_cons, storeRun, ih, Vector.getElem_setIfInBounds, List.length_cons]
    by_cases here : first = i
    · subst here
      simp
    · by_cases later : first + 1 ≤ i ∧ i < first + 1 + xs.length
      · have next : i - first = i - (first + 1) + 1 := by omega
        rw [if_pos later, if_pos (by omega), next, List.getElem?_cons_succ]
      · rw [if_neg later, if_neg here, if_neg (by omega)]

/-- R191: the clamps of a run are the values outside the range. -/
theorem runClamps_eq {lo hi : Nat} (order : lo ≤ hi) (values : List Nat) :
    runClamps lo hi values = values.countP fun n => n < lo || hi < n := by
  induction values with
  | nil => rfl
  | cons n rest ih =>
    have one : clampCount lo hi n = if (decide (n < lo) || decide (hi < n)) = true then 1 else 0 := by
      rw [clampCount_eq order, outside]
      by_cases inside : lo ≤ n ∧ n ≤ hi
      · simp [inside]
      · rw [if_neg inside, if_pos (by simp; omega)]
    rw [List.countP_cons, ← ih, ← one, runClamps, List.map_cons, List.sum_cons, Nat.add_comm]
    rfl

/-! ### The owners' answers -/

/-- R189: the reply of a TABLE WRITE that is taken. -/
theorem tableWrite_takes {s : State} (takes : s.Takes) {own : State → Answer} {a : Answer} (answers : own s = a) :
    partEvent (acceptCommand kindTableWrite own) s = .next (linkChoose (replied 0x02 a.code a.fields a.st)) := by
  rw [acceptCommand_takes takes, answers]
  rfl

/-- R191: the answer to one run taken whole. -/
def runAnswer (t : State) (clamped : Nat) : Answer := ⟨t, .ok, field2 1 ++ field2 clamped ++ field2 0⟩

/-- R191: the first record of a write, taken. -/
theorem answer_taken (s t : State) (clamped : Nat) :
    ((WriteResult.mk s 0 0 0 false).taken t clamped).answer = runAnswer t clamped := by
  simp [WriteResult.answer, WriteResult.taken, runAnswer]

section
variable (s : State)

theorem ownCurveWrite_stores {curve first : Byte} {points : List Byte} (one : curve.toNat ≤ 3) (nonempty : points ≠ [])
    (fits : first.toNat + points.length ≤ 33) :
    ownCurveWrite curve first points s =
      runAnswer (storeCurve curve.toNat first.toNat (points.map (·.toNat)) s)
        (points.countP fun p => p.toNat < 1 || 127 < p.toNat) := by
  have inside : ¬ (3 < curve.toNat ∨ 33 < first.toNat + points.length) := by omega
  simp only [ownCurveWrite, badRun_false nonempty (by omega : points.length ≤ 33), if_neg inside,
    Bool.false_eq_true,
    if_false, runClamps_eq (by decide : 1 ≤ 127), List.countP_map, answer_taken]
  rfl

theorem ownLoudWrite_stores {first : Byte} {gains : List Half} (nonempty : gains ≠ [])
    (fits : first.toNat + gains.length ≤ 32) :
    ownLoudWrite first gains s =
      runAnswer (storeLoud first.toNat (gains.map (·.toNat)) s) (gains.countP fun g => 32768 < g.toNat) := by
  have inside : ¬ 32 < first.toNat + gains.length := by omega
  have positive : (fun n => decide (n < 0) || decide (32768 < n)) = fun n : Nat => decide (32768 < n) := by simp
  simp only [ownLoudWrite, badRun_false nonempty (by omega : gains.length ≤ 32), if_neg inside,
    Bool.false_eq_true,
    if_false, runClamps_eq (by decide : 0 ≤ 32768), positive, List.countP_map, answer_taken]
  rfl

theorem ownClickWrite_stores {sound first : Byte} {samples : List Half} {snd : Sound}
    (named : soundOfCode sound.toNat = some snd) (nonempty : samples ≠ []) (few : samples.length ≤ 118)
    (fits : first.toNat + samples.length ≤ 256) :
    ownClickWrite sound first samples s = runAnswer (storeClick snd first.toNat samples s) 0 := by
  simp only [ownClickWrite, badRun_false nonempty few, named, if_neg (Nat.not_lt.2 fits)]
  rfl

theorem ownCurveWrite_badLength {points : List Byte} (bad : points = [] ∨ 33 < points.length) (curve first : Byte) :
    ownCurveWrite curve first points s = answerRefused .badLength s := by
  simp only [ownCurveWrite, badRun_true bad, if_true]

theorem ownCurveWrite_badIndex {curve first : Byte} {points : List Byte} (nonempty : points ≠ [])
    (few : points.length ≤ 33) (out : 3 < curve.toNat ∨ 33 < first.toNat + points.length) :
    ownCurveWrite curve first points s = answerRefused .badIndex s := by
  simp only [ownCurveWrite, badRun_false nonempty few, if_pos out]
  rfl

theorem ownLoudWrite_badLength {gains : List Half} (bad : gains = [] ∨ 32 < gains.length) (first : Byte) :
    ownLoudWrite first gains s = answerRefused .badLength s := by
  simp only [ownLoudWrite, badRun_true bad, if_true]

theorem ownLoudWrite_badIndex {first : Byte} {gains : List Half} (nonempty : gains ≠ []) (few : gains.length ≤ 32)
    (out : 32 < first.toNat + gains.length) :
    ownLoudWrite first gains s = answerRefused .badIndex s := by
  simp only [ownLoudWrite, badRun_false nonempty few, if_pos out]
  rfl

theorem ownClickWrite_badLength {samples : List Half} (bad : samples = [] ∨ 118 < samples.length)
    (sound first : Byte) : ownClickWrite sound first samples s = answerRefused .badLength s := by
  simp only [ownClickWrite, badRun_true bad, if_true]

/-- R105: a selector byte 0 or 1 names a sound, and no other does. -/
theorem soundOfCode_eq_none {n : Nat} (out : 1 < n) : soundOfCode n = none := by
  unfold soundOfCode
  split <;> [omega; omega; rfl]

theorem ownClickWrite_badIndex {sound first : Byte} {samples : List Half} (nonempty : samples ≠ [])
    (few : samples.length ≤ 118) (out : 1 < sound.toNat ∨ 256 < first.toNat + samples.length) :
    ownClickWrite sound first samples s = answerRefused .badIndex s := by
  simp only [ownClickWrite, badRun_false nonempty few, Bool.false_eq_true, if_false]
  rcases out with unnamed | past
  · rw [soundOfCode_eq_none unnamed]
  · simp only [if_pos past]
    split <;> rfl

end

/-! ### The stored tables -/

/-- R40: a curve write reaches its curve alone. -/
theorem storeCurve_getElem {curve : Nat} (one : curve ≤ 3) (first : Nat) (points : List Byte) (s : State) (c : Fin 4)
    (i : Fin 33) :
    (storeCurve curve first (points.map (·.toNat)) s).ktr.curves[c][i] =
      if c.val = curve ∧ first ≤ i.val ∧ i.val < first + points.length then
        max 1 (min 127 (points[i.val - first]?.getD 0).toNat)
      else s.ktr.curves[c][i] := by
  by_cases this : c.val = curve
  · subst this
    have row : (storeCurve c.val first (points.map (·.toNat)) s).ktr.curves[c] =
        storeRun s.ktr.curves[c] first (points.map fun b => clamp 1 127 b.toNat) := by
      simp [storeCurve, Function.comp_def]
    rw [row, Fin.getElem_fin, storeRun_map_getElem _ _ _ _ 0 i.val i.isLt]
    simp [clamp]
  · have row : (storeCurve curve first (points.map (·.toNat)) s).ktr.curves[c] = s.ktr.curves[c] := by
      simp [storeCurve, Ne.symm this]
    rw [row, if_neg fun both => this both.1]

/-- Settles O18: a run in its bounds is stored by its owner, any other refused. -/
theorem tableRunsAreStored : Obligations.TableRunsAreStored := by
  refine ⟨?curve, ?loud, ?click, ?badCurve, ?badLoud, ?badClick⟩
  case curve =>
    intro curve first points s takes one nonempty fits
    exact ⟨_, tableWrite_takes takes (ownCurveWrite_stores s one nonempty fits), storeCurve_getElem one _ _ s⟩
  case loud =>
    intro first gains s takes nonempty fits
    refine ⟨_, tableWrite_takes takes (ownLoudWrite_stores s nonempty fits), fun i => ?_⟩
    simp only [List.map_map]
    rw [Fin.getElem_fin, storeRun_map_getElem _ _ _ _ 0 i.val i.isLt]
    simp [clamp]
  case click =>
    intro sound first samples s takes one nonempty few fits
    have stored (table : Vector ClickSample 256) (i : Fin 256) := storeRun_map_getElem table first.toNat samples id 0 i i.isLt
    simp only [List.map_id, id] at stored
    by_cases a : sound = 0
    · subst a
      exact ⟨_, tableWrite_takes takes (ownClickWrite_stores s (snd := .a) rfl nonempty few fits), stored _⟩
    · have b : sound.toNat = 1 := by
        have : sound.toNat ≠ 0 := fun zero => a (BitVec.eq_of_toNat_eq zero)
        omega
      simp only [if_neg a]
      exact ⟨_, tableWrite_takes takes (ownClickWrite_stores s (snd := .b) (by rw [b]; rfl) nonempty few fits), stored _⟩
  case badCurve =>
    exact fun curve first points s takes =>
      ⟨fun bad => tableWrite_takes takes (ownCurveWrite_badLength s bad curve first),
        fun nonempty few out => tableWrite_takes takes (ownCurveWrite_badIndex s nonempty few out)⟩
  case badLoud =>
    exact fun first gains s takes =>
      ⟨fun bad => tableWrite_takes takes (ownLoudWrite_badLength s bad first),
        fun nonempty few out => tableWrite_takes takes (ownLoudWrite_badIndex s nonempty few out)⟩
  case badClick =>
    exact fun sound first samples s takes =>
      ⟨fun bad => tableWrite_takes takes (ownClickWrite_badLength s bad sound first),
        fun nonempty few out => tableWrite_takes takes (ownClickWrite_badIndex s nonempty few out)⟩

end Sys2Proof.Machine

namespace Sys2Proof.Machine

/-! ## TABLE WRITE of CAL and PCAL (R18, R19, R47, R84, R191) -/

/-! ### Runs of records -/

theorem takenInTurn_single {α : Type} (one : α → State → WriteResult) (a : α) (s : State) :
    takenInTurn one [a] s = one a s := by
  simp [takenInTurn]

/-- R191: the event of a TABLE WRITE that takes its records in turn. -/
theorem tableWrite_inTurn {s : State} (takes : s.Takes) {own : State → Answer} {w : WriteResult}
    (answers : own s = w.answer) :
    partEvent (acceptCommand kindTableWrite own) s = .next (linkChoose (repliedResult w)) := by
  rw [tableWrite_takes takes answers, replied_answer]

section
variable (s : State)

theorem ownCalWrite_badLength {records : List CalArgs} (bad : records = [] ∨ 12 < records.length) :
    ownCalWrite records s = answerRefused .badLength s := by
  simp only [ownCalWrite, badRun_true bad, if_true]

/-- R191: a key outside 1..88. -/
theorem keyOfNumber_eq_none {b : Byte} (out : b = 0 ∨ 88 < b.toNat) : keyOfNumber b.toNat = none := by
  refine dif_neg fun inside => ?_
  rcases out with rfl | past
  · exact absurd inside.1 (by decide)
  · omega

theorem ownCalWrite_badIndex {records : List CalArgs} (nonempty : records ≠ []) (few : records.length ≤ 12)
    (out : ∃ a ∈ records, a.key = 0 ∨ 88 < a.key.toNat) :
    ownCalWrite records s = answerRefused .badIndex s := by
  obtain ⟨a, listed, out⟩ := out
  have any : (records.any fun a => (keyOfNumber a.key.toNat).isNone) = true :=
    List.any_eq_true.2 ⟨a, listed, by rw [keyOfNumber_eq_none out]; rfl⟩
  simp only [ownCalWrite, badRun_false nonempty few, any, Bool.false_eq_true, if_false, if_true]

theorem ownCalWrite_inTurn {records : List CalArgs} (nonempty : records ≠ []) (few : records.length ≤ 12)
    (keys : ∀ a ∈ records, (keyOfNumber a.key.toNat).isSome = true) :
    ownCalWrite records s = (takenInTurn (takenAlone takeCal) records s).answer := by
  have none : ¬ (records.any fun a => (keyOfNumber a.key.toNat).isNone) = true := fun any => by
    obtain ⟨a, listed, out⟩ := List.any_eq_true.1 any
    simpa [Option.isNone_iff_eq_none.1 out] using keys a listed
  simp only [ownCalWrite, badRun_false nonempty few, Bool.false_eq_true, if_false, if_neg none]
  rw [takeRecords_inTurn _ _ _ fun a listed w => takeCal_adds (keys a listed) w]

theorem ownPcalWrite_badLength {records : List PcalArgs} (bad : records = [] ∨ 4 < records.length) :
    ownPcalWrite records s = answerRefused .badLength s := by
  simp only [ownPcalWrite, badRun_true bad, if_true]

theorem ownPcalWrite_badIndex {records : List PcalArgs} (nonempty : records ≠ []) (few : records.length ≤ 4)
    (out : ∃ a ∈ records, 3 < a.record.toNat) : ownPcalWrite records s = answerRefused .badIndex s := by
  have any : (records.any fun a => decide (3 < a.record.toNat)) = true := by simpa using out
  simp only [ownPcalWrite, badRun_false nonempty few, any, Bool.false_eq_true, if_false, if_true]

theorem ownPcalWrite_inTurn {records : List PcalArgs} (nonempty : records ≠ []) (few : records.length ≤ 4)
    (inside : ∀ a ∈ records, a.record.toNat ≤ 3) :
    ownPcalWrite records s = (takenInTurn (takenAlone takePcal) records s).answer := by
  have none : ¬ (records.any fun a => decide (3 < a.record.toNat)) = true := by simpa using inside
  simp only [ownPcalWrite, badRun_false nonempty few, Bool.false_eq_true, if_false, if_neg none]
  rw [takeRecords_inTurn _ _ _ fun a _ w => takePcal_adds a w]

end

/-! ### One CAL record (R18, R19) -/

theorem clampedCal_eq (a : CalArgs) : clampedCal a =
    ⟨min 4095 a.restRaw.toNat, min 4095 a.fullRaw.toNat, min 4095 a.floor.toNat, min 4095 a.ceil.toNat,
      max 1 (min 4095 a.dmp.toNat), max 1 (min 4095 a.g1.toNat), max 1 (min 4095 a.rpt.toNat),
      max 1 (min 4095 a.g2.toNat), max 1 (min 4095 a.scale.toNat)⟩ := by
  simp [clampedCal, clamp]

theorem calClamps_eq (a : CalArgs) : calClamps a =
    ([a.restRaw, a.fullRaw, a.floor, a.ceil].map fun f => outside 0 4095 f.toNat).sum
      + ([a.dmp, a.g1, a.rpt, a.g2, a.scale].map fun f => outside 1 4095 f.toNat).sum := by
  simp [calClamps, clampCount_eq, Nat.add_assoc]

theorem calValid_iff (c : CalRecord) :
    calValid c = true ↔ c.dmp < c.g1 ∧ c.g1 < c.rpt ∧ c.rpt < c.g2 ∧ c.restRaw ≠ c.fullRaw := by
  simp [calValid, and_assoc]

/-- R19: held pending while the key is lifted, else in effect at once. -/
theorem placeCal_eq (c : CalRecord) (r : KeyRecord) :
    placeCal c r =
      if r.state ∈ [.lifted, .gated, .creep, .struck, .rearm] then { r with pendingCal := some c }
      else { r with cal := c } := by
  have lifted : r.state.isLifted = true ↔ r.state ∈ [.lifted, .gated, .creep, .struck, .rearm] := by
    cases r.state <;> decide
  simp only [placeCal, lifted]

section
variable {a : CalArgs} {k : Key} (named : a.key.toNat = k.val + 1) (s : State)
include named

theorem keyOfNumber_named : keyOfNumber a.key.toNat = some k := by
  rw [named]
  exact keyOfNumber_keyNumber k

theorem takeCal_valid (valid : calValid (clampedCal a) = true) :
    takenAlone takeCal a s = ⟨setKeyRec k (placeCal (clampedCal a) (s.keyRec k)) s, 1, calClamps a, 0, false⟩ := by
  simp [takenAlone, takeCal, keyOfNumber_named named, valid, WriteResult.taken]

theorem takeCal_invalid (invalid : ¬ calValid (clampedCal a) = true) :
    takenAlone takeCal a s = ⟨s, 0, 0, 1, false⟩ := by
  simp [takenAlone, takeCal, keyOfNumber_named named, invalid, WriteResult.refuse]

theorem exec_calWrite_single (takes : s.Takes) :
    exec (.calWrite [a]) s = .next (linkChoose (repliedResult (takenAlone takeCal a s))) := by
  have keys : ∀ b ∈ [a], (keyOfNumber b.key.toNat).isSome = true := by
    simp [keyOfNumber_named named]
  rw [← takenInTurn_single (takenAlone takeCal)]
  exact tableWrite_inTurn takes (ownCalWrite_inTurn s (List.cons_ne_nil _ _) (by simp) keys)

end

/-! ### One PCAL record (R47, R84) -/

theorem clampedPcal_eq (a : PcalArgs) : clampedPcal a =
    ⟨min 4095 a.restRaw.toNat, min 4095 a.fullRaw.toNat, min 4095 a.floor.toNat, min 4095 a.ceil.toNat⟩ := by
  simp [clampedPcal, clamp]

theorem pcalClamps_eq (a : PcalArgs) :
    pcalClamps a = ([a.restRaw, a.fullRaw, a.floor, a.ceil].map fun f => outside 0 4095 f.toNat).sum := by
  simp [pcalClamps, clampCount_eq, Nat.add_assoc]

theorem pcalValid_iff (c : PcalRecord) : pcalValid c = true ↔ c.restRaw ≠ c.fullRaw := by simp [pcalValid]

theorem pedalOfCode_pedalCode (p : Pedal) : pedalOfCode (pedalCode p) = some p := by cases p <;> rfl

/-- R47, R84: the record numbers: three pedals and the rail. -/
theorem pcalRecord_cases {n : Nat} (inside : n ≤ 3) : (∃ p, n = pedalCode p) ∨ n = 3 := by
  interval_cases n
  · exact .inl ⟨.soft, rfl⟩
  · exact .inl ⟨.sost, rfl⟩
  · exact .inl ⟨.damp, rfl⟩
  · exact .inr rfl

/-- R47: a pedal record placed: in effect, the pedal's group empty. -/
theorem placePedalCal_eq (p : Pedal) (c : PcalRecord) (s : State) :
    placePedalCal p c s = setPedalRec p { s.pedalRec p with cal := c, sum := 0, count := 0 } s := by
  simp [placePedalCal, emptyGroup, setPedalRec_setPedalRec]

theorem railInTransit_iff (s : State) : railInTransit s = true ↔ s.rlc.state ∈ [.engaging, .disengaging] := by
  simp [railInTransit]

section
variable {a : PcalArgs} (s : State)

theorem takePcal_pedal {p : Pedal} (named : a.record.toNat = pedalCode p) :
    takenAlone takePcal a s =
      if pcalValid (clampedPcal a) then ⟨placePedalCal p (clampedPcal a) s, 1, pcalClamps a, 0, false⟩
      else ⟨s, 0, 0, 1, false⟩ := by
  simp only [takenAlone, takePcal, named, pedalOfCode_pedalCode, WriteResult.taken, WriteResult.refuse, Nat.zero_add]

theorem takePcal_rail (named : a.record = 3) :
    takenAlone takePcal a s =
      if railInTransit s then ⟨s, 0, 0, 1, true⟩
      else if pcalValid (clampedPcal a) then ⟨placeRailCal (clampedPcal a) s, 1, pcalClamps a, 0, false⟩
      else ⟨s, 0, 0, 1, false⟩ := by
  have rail : pedalOfCode a.record.toNat = none := by rw [named]; rfl
  simp only [takenAlone, takePcal, rail, WriteResult.taken, WriteResult.refuse, WriteResult.refuseBusy, Nat.zero_add]

theorem exec_pcalWrite_single (inside : a.record.toNat ≤ 3) (takes : s.Takes) :
    exec (.pcalWrite [a]) s = .next (linkChoose (repliedResult (takenAlone takePcal a s))) := by
  rw [← takenInTurn_single (takenAlone takePcal)]
  exact tableWrite_inTurn takes (ownPcalWrite_inTurn s (List.cons_ne_nil _ _) (by simp) (by simpa using inside))

end

/-- Settles O17: one record by its check and its place, a run by its owner's bounds. -/
theorem calibrationWritesPlaceTheRecord : Obligations.CalibrationWritesPlaceTheRecord := by
  refine ⟨?cal, ?pcal, ?cals, ?pcals⟩
  case cal =>
    rintro a k c s takes named isC
    rw [← clampedCal_eq] at isC
    subst isC
    refine ⟨fun dmp g1 rpt span => ?_, fun invalid => ?_⟩
    · rw [exec_calWrite_single named s takes, takeCal_valid named s ((calValid_iff _).2 ⟨dmp, g1, rpt, span⟩),
        placeCal_eq, calClamps_eq]
      rfl
    · rw [exec_calWrite_single named s takes, takeCal_invalid named s fun valid => invalid ((calValid_iff _).1 valid)]
      rfl
  case pcal =>
    rintro a c clamped s takes isClamped isC
    rw [← pcalClamps_eq] at isClamped
    rw [← clampedPcal_eq] at isC
    subst isClamped isC
    refine ⟨fun p named span => ?_, fun named still span => ?_, fun named moves => ?_, fun inside zero still => ?_⟩
    · have inside : a.record.toNat ≤ 3 := by rw [named]; cases p <;> decide
      rw [exec_pcalWrite_single s inside takes, takePcal_pedal s named, if_pos ((pcalValid_iff _).2 span),
        placePedalCal_eq]
      rfl
    · rw [exec_pcalWrite_single s (by rw [named]; decide) takes, takePcal_rail s named,
        if_neg (fun moves => still ((railInTransit_iff s).1 moves)), if_pos ((pcalValid_iff _).2 span)]
      rfl
    · rw [exec_pcalWrite_single s (by rw [named]; decide) takes, takePcal_rail s named,
        if_pos ((railInTransit_iff s).2 moves)]
      rfl
    · have invalid : ¬ pcalValid (clampedPcal a) = true := fun valid => (pcalValid_iff _).1 valid zero
      rw [exec_pcalWrite_single s inside takes]
      rcases pcalRecord_cases inside with ⟨p, named⟩ | named
      · rw [takePcal_pedal s named, if_neg invalid]
        rfl
      · have rail : a.record = 3 := BitVec.eq_of_toNat_eq named
        rw [takePcal_rail s rail, if_neg (fun moves => still rail ((railInTransit_iff s).1 moves)), if_neg invalid]
        rfl
  case cals =>
    refine fun records s takes => ⟨fun bad => tableWrite_takes takes (ownCalWrite_badLength s bad),
      fun nonempty few out => tableWrite_takes takes (ownCalWrite_badIndex s nonempty few out),
      fun nonempty few inside => tableWrite_inTurn takes (ownCalWrite_inTurn s nonempty few fun a listed => ?_)⟩
    obtain ⟨nonzero, within⟩ := inside a listed
    have positive : a.key.toNat ≠ 0 := fun zero => nonzero (BitVec.eq_of_toNat_eq zero)
    exact keyOfNumber_isSome.2 ⟨by omega, within⟩
  case pcals =>
    exact fun records s takes => ⟨fun bad => tableWrite_takes takes (ownPcalWrite_badLength s bad),
      fun nonempty few out => tableWrite_takes takes (ownPcalWrite_badIndex s nonempty few out),
      fun nonempty few inside => tableWrite_inTurn takes (ownPcalWrite_inTurn s nonempty few inside)⟩

end Sys2Proof.Machine

namespace Sys2Proof.Machine

/-! ## A sample arrival at a key (R22 to R33, R36, R41 to R45) -/

/-! ### One test of each state (R25 to R33) -/

section
variable (x : ArrivalContext) {m : KeyRecord} (es : List KeyEvent)

theorem keyStep_startHeld (st : m.state = .startHeld) :
    keyStep x ⟨m, es⟩ =
      if m.current < returnPoint m.cal.dmp x.hysteresis then some ⟨{ m with state := .rest }, es⟩ else none := by
  simp [keyStep, st]

theorem keyStep_rest (st : m.state = .rest) :
    keyStep x ⟨m, es⟩ =
      if m.cal.dmp ≤ m.current then some ⟨{ m with state := .lifted }, es ++ [.lift]⟩ else none := by
  simp [keyStep, st]

theorem keyStep_lifted (st : m.state = .lifted) :
    keyStep x ⟨m, es⟩ =
      if m.cal.g1 ≤ m.current then some ⟨openGate x m .g1, es⟩
      else if m.current < returnPoint m.cal.dmp x.hysteresis then
        some ⟨{ m with state := .rest }, es ++ [.release false]⟩
      else none := by
  simp [keyStep, st]

theorem keyStep_gated_past {g : Gate} (st : m.state = .gated) (gate : m.gate = some g) (past : m.cal.g2 ≤ m.current) :
    keyStep x ⟨m, es⟩ =
      some ⟨{ m with state := .struck, gate := none, lastStrike := some x.sweep }, es ++ [strikeEvent x m g]⟩ := by
  simp [keyStep, st, gate, past]

theorem keyStep_gated_below (st : m.state = .gated) (below : m.current < m.cal.g2) :
    keyStep x ⟨m, es⟩ =
      if m.current < returnPoint m.cal.g1 x.hysteresis then some ⟨{ m with state := .lifted, gate := none }, es⟩
      else none := by
  simp [keyStep, st, Nat.not_le.2 below]

theorem keyStep_creep (st : m.state = .creep) :
    keyStep x ⟨m, es⟩ =
      if m.current < returnPoint m.cal.g1 x.hysteresis then some ⟨{ m with state := .lifted }, es⟩ else none := by
  simp [keyStep, st]

theorem keyStep_struck (st : m.state = .struck) :
    keyStep x ⟨m, es⟩ =
      if m.current < returnPoint m.cal.rpt x.hysteresis then some ⟨{ m with state := .rearm }, es⟩ else none := by
  simp [keyStep, st]

theorem keyStep_rearm (st : m.state = .rearm) :
    keyStep x ⟨m, es⟩ =
      if m.cal.rpt ≤ m.current then some ⟨openGate x m .rpt, es⟩
      else if m.current < returnPoint m.cal.dmp x.hysteresis then
        some ⟨{ m with state := .rest }, es ++ [.release false]⟩
      else none := by
  simp [keyStep, st]

end

/-! ### Chains (R24) -/

theorem keyChain_step {x : ArrivalContext} {n : Nat} {c d e : Chain} (test : keyStep x c = some d)
    (rest : keyChain x n d = e) : keyChain x (n + 1) c = e := by
  rw [keyChain, test]
  exact rest

theorem keyChain_stop {x : ArrivalContext} {c : Chain} (test : keyStep x c = none) (n : Nat) :
    keyChain x n c = c := by
  cases n with
  | zero => rfl
  | succ n => rw [keyChain, test]

/-- R23: the return point of a positive threshold lies at it or below. -/
theorem returnPoint_le {threshold : Nat} (positive : 1 ≤ threshold) (hysteresis : Nat) :
    returnPoint threshold hysteresis ≤ threshold := by
  unfold returnPoint
  omega

theorem returnPoint_mono {low high : Nat} (order : low ≤ high) (hysteresis : Nat) :
    returnPoint low hysteresis ≤ returnPoint high hysteresis := by
  unfold returnPoint
  omega

section
variable {x : ArrivalContext} {m : KeyRecord} (es : List KeyEvent) (n : Nat)

/-- R25: a key in REST stays below DMP. -/
theorem keyChain_rests (st : m.state = .rest) (below : m.current < m.cal.dmp) : keyChain x n ⟨m, es⟩ = ⟨m, es⟩ :=
  keyChain_stop ((keyStep_rest x es st).trans (if_neg (Nat.not_le.2 below))) n

/-- R25: a key held at start stays from DMP's return point on. -/
theorem keyChain_stays_startHeld (st : m.state = .startHeld) (above : returnPoint m.cal.dmp x.hysteresis ≤ m.current) :
    keyChain x n ⟨m, es⟩ = ⟨m, es⟩ :=
  keyChain_stop ((keyStep_startHeld x es st).trans (if_neg (Nat.not_lt.2 above))) n

/-- R26: a lifted key stays between DMP's return point and G1. -/
theorem keyChain_stays_lifted (st : m.state = .lifted) (above : returnPoint m.cal.dmp x.hysteresis ≤ m.current)
    (below : m.current < m.cal.g1) : keyChain x n ⟨m, es⟩ = ⟨m, es⟩ :=
  keyChain_stop (((keyStep_lifted x es st).trans (if_neg (Nat.not_le.2 below))).trans
    (if_neg (Nat.not_lt.2 above))) n

/-- R29, R31: a key in GATED stays between G1's return point and G2. -/
theorem keyChain_stays_gated (st : m.state = .gated) (above : returnPoint m.cal.g1 x.hysteresis ≤ m.current)
    (below : m.current < m.cal.g2) : keyChain x n ⟨m, es⟩ = ⟨m, es⟩ :=
  keyChain_stop ((keyStep_gated_below x es st below).trans (if_neg (Nat.not_lt.2 above))) n

/-- R30: a key in CREEP stays from G1's return point on. -/
theorem keyChain_stays_creep (st : m.state = .creep) (above : returnPoint m.cal.g1 x.hysteresis ≤ m.current) :
    keyChain x n ⟨m, es⟩ = ⟨m, es⟩ :=
  keyChain_stop ((keyStep_creep x es st).trans (if_neg (Nat.not_lt.2 above))) n

/-- R32: a struck key stays from RPT's return point on. -/
theorem keyChain_stays_struck (st : m.state = .struck) (above : returnPoint m.cal.rpt x.hysteresis ≤ m.current) :
    keyChain x n ⟨m, es⟩ = ⟨m, es⟩ :=
  keyChain_stop ((keyStep_struck x es st).trans (if_neg (Nat.not_lt.2 above))) n

/-- R33: a key in REARM stays between DMP's return point and RPT. -/
theorem keyChain_stays_rearm (st : m.state = .rearm) (above : returnPoint m.cal.dmp x.hysteresis ≤ m.current)
    (below : m.current < m.cal.rpt) : keyChain x n ⟨m, es⟩ = ⟨m, es⟩ :=
  keyChain_stop (((keyStep_rearm x es st).trans (if_neg (Nat.not_le.2 below))).trans
    (if_neg (Nat.not_lt.2 above))) n

/-- R25, R26: a lift that stays below G1. -/
theorem keyChain_lifts (st : m.state = .rest) (positive : 1 ≤ m.cal.dmp) (above : m.cal.dmp ≤ m.current)
    (below : m.current < m.cal.g1) :
    keyChain x (n + 1) ⟨m, es⟩ = ⟨{ m with state := .lifted }, es ++ [.lift]⟩ :=
  keyChain_step ((keyStep_rest x es st).trans (if_pos above))
    (keyChain_stays_lifted _ n rfl ((returnPoint_le positive _).trans above) below)

/-- R25: a key held at start comes to REST below DMP's return point. -/
theorem keyChain_startHeld_rests (st : m.state = .startHeld) (positive : 1 ≤ m.cal.dmp)
    (below : m.current < returnPoint m.cal.dmp x.hysteresis) :
    keyChain x (n + 1) ⟨m, es⟩ = ⟨{ m with state := .rest }, es⟩ :=
  keyChain_step ((keyStep_startHeld x es st).trans (if_pos below))
    (keyChain_rests _ n rfl (below.trans_le (returnPoint_le positive _)))

/-- R30, R31: below G1's return point a gate is cancelled, and a key in CREEP is lifted again. -/
theorem keyChain_returns_lifted (st : m.state = .gated ∧ m.current < m.cal.g2 ∨ m.state = .creep)
    (positive : 1 ≤ m.cal.g1) (above : returnPoint m.cal.dmp x.hysteresis ≤ m.current)
    (below : m.current < returnPoint m.cal.g1 x.hysteresis) :
    keyChain x (n + 1) ⟨m, es⟩ =
      ⟨{ m with state := .lifted, gate := if m.state = .gated then none else m.gate }, es⟩ := by
  have belowG1 : m.current < m.cal.g1 := below.trans_le (returnPoint_le positive _)
  rcases st with ⟨st, belowG2⟩ | st
  · rw [if_pos st]
    exact keyChain_step ((keyStep_gated_below x es st belowG2).trans (if_pos below))
      (keyChain_stays_lifted es n rfl above belowG1)
  · rw [if_neg (by rw [st]; decide)]
    exact keyChain_step ((keyStep_creep x es st).trans (if_pos below)) (keyChain_stays_lifted es n rfl above belowG1)

/-- R32: a struck key is armed again below RPT's return point. -/
theorem keyChain_rearms (st : m.state = .struck) (positive : 1 ≤ m.cal.rpt)
    (above : returnPoint m.cal.dmp x.hysteresis ≤ m.current) (below : m.current < returnPoint m.cal.rpt x.hysteresis) :
    keyChain x (n + 1) ⟨m, es⟩ = ⟨{ m with state := .rearm }, es⟩ :=
  keyChain_step ((keyStep_struck x es st).trans (if_pos below))
    (keyChain_stays_rearm es n rfl above (below.trans_le (returnPoint_le positive _)))

/-- R26, R33: a key that can open its gate, and the start threshold it opens at. -/
def OpensAt (m : KeyRecord) (start : GateStart) : Prop :=
  m.state = .lifted ∧ start = .g1 ∨ m.state = .rearm ∧ start = .rpt

theorem keyStep_opens {start : GateStart} (opens : OpensAt m start)
    (past : startPosition m.cal start ≤ m.current) : keyStep x ⟨m, es⟩ = some ⟨openGate x m start, es⟩ := by
  rcases opens with ⟨st, rfl⟩ | ⟨st, rfl⟩
  · exact (keyStep_lifted x es st).trans (if_pos past)
  · exact (keyStep_rearm x es st).trans (if_pos past)

/-- R18: in a checked record both start thresholds lie from G1 to below G2. -/
theorem startPosition_bounds {c : CalRecord} (g1 : c.g1 < c.rpt) (rpt : c.rpt < c.g2) (start : GateStart) :
    c.g1 ≤ startPosition c start ∧ startPosition c start < c.g2 := by
  cases start
  · exact ⟨le_refl _, g1.trans rpt⟩
  · exact ⟨g1.le, rpt⟩

/-- R29: a gate that finds the position at G2 strikes, and the struck key stays. -/
theorem keyChain_strikes {g : Gate} (st : m.state = .gated) (gate : m.gate = some g) (positive : 1 ≤ m.cal.g2)
    (order : m.cal.rpt ≤ m.cal.g2) (past : m.cal.g2 ≤ m.current) :
    keyChain x (n + 1) ⟨m, es⟩ =
      ⟨{ m with state := .struck, gate := none, lastStrike := some x.sweep }, es ++ [strikeEvent x m g]⟩ :=
  have returns : returnPoint m.cal.rpt x.hysteresis ≤ m.current :=
    ((returnPoint_mono order _).trans (returnPoint_le positive _)).trans past
  keyChain_step (keyStep_gated_past x es st gate past) (keyChain_stays_struck _ n rfl returns)

variable (dmp : 1 ≤ m.cal.dmp) (g1 : m.cal.dmp < m.cal.g1) (rpt : m.cal.g1 < m.cal.rpt) (g2 : m.cal.rpt < m.cal.g2)
include dmp g1 rpt g2

/-- R28, R33: a gate opens and stays open below G2. -/
theorem keyChain_opens {start : GateStart} (opens : OpensAt m start)
    (past : startPosition m.cal start ≤ m.current) (below : m.current < m.cal.g2) :
    keyChain x (n + 1) ⟨m, es⟩ = ⟨openGate x m start, es⟩ :=
  have returns : returnPoint m.cal.g1 x.hysteresis ≤ m.current :=
    ((returnPoint_le (by omega) _).trans (startPosition_bounds rpt g2 start).1).trans past
  keyChain_step (keyStep_opens es opens past) (keyChain_stays_gated _ n rfl returns below)

/-- R25, R28: a key in REST is lifted and opens its gate at G1. -/
theorem keyChain_lifts_opens (st : m.state = .rest) (past : m.cal.g1 ≤ m.current) (below : m.current < m.cal.g2) :
    keyChain x (n + 2) ⟨m, es⟩ = ⟨openGate x m .g1, es ++ [.lift]⟩ :=
  keyChain_step ((keyStep_rest x es st).trans (if_pos (g1.le.trans past)))
    (keyChain_opens (m := { m with state := .lifted }) _ n dmp g1 rpt g2 (.inl ⟨rfl, rfl⟩) past below)

/-- R28, R29, R33: a gate opens and strikes in one chain. -/
theorem keyChain_opens_strikes {start : GateStart} (opens : OpensAt m start) (past : m.cal.g2 ≤ m.current) :
    ∃ g : Gate, g.start = start ∧
      g.stamp = crossingStamp x.sweep m.previous m.current (startPosition m.cal start) ∧
      keyChain x (n + 2) ⟨m, es⟩ =
        ⟨{ m with state := .struck, gate := none, lastStrike := some x.sweep }, es ++ [strikeEvent x m g]⟩ := by
  have crossed : startPosition m.cal start ≤ m.current := (startPosition_bounds rpt g2 start).2.le.trans past
  exact ⟨_, rfl, rfl, keyChain_step (keyStep_opens es opens crossed)
    (keyChain_strikes es n rfl rfl (by exact (by omega : 1 ≤ m.cal.g2)) g2.le past)⟩

omit g1 rpt g2 in
/-- R27: a lifted key below DMP's return point is released and rests. -/
theorem keyChain_releases_lifted (st : m.state = .lifted) (belowG1 : m.current < m.cal.g1)
    (below : m.current < returnPoint m.cal.dmp x.hysteresis) :
    keyChain x (n + 1) ⟨m, es⟩ = ⟨{ m with state := .rest }, es ++ [.release false]⟩ :=
  keyChain_step (((keyStep_lifted x es st).trans (if_neg (Nat.not_le.2 belowG1))).trans (if_pos below))
    (keyChain_rests _ n rfl (below.trans_le (returnPoint_le dmp _)))

omit g2 in
theorem keyChain_releases_rearm (st : m.state = .rearm) (below : m.current < returnPoint m.cal.dmp x.hysteresis) :
    keyChain x (n + 1) ⟨m, es⟩ = ⟨{ m with state := .rest }, es ++ [.release false]⟩ :=
  have belowDmp : m.current < m.cal.dmp := below.trans_le (returnPoint_le dmp _)
  keyChain_step (((keyStep_rearm x es st).trans (if_neg (by omega))).trans (if_pos below))
    (keyChain_rests _ n rfl belowDmp)

/-- R27, R31 to R33: below DMP's return point every lifted state of the chain ends in a release. -/
theorem keyChain_releases (st : m.state ∈ [.gated, .creep, .struck, .rearm])
    (below : m.current < returnPoint m.cal.dmp x.hysteresis) :
    keyChain x (n + 2) ⟨m, es⟩ =
      ⟨{ m with state := .rest, gate := if m.state = .gated then none else m.gate }, es ++ [.release false]⟩ := by
  have belowDmp : m.current < m.cal.dmp := below.trans_le (returnPoint_le dmp _)
  have belowG1 : m.current < returnPoint m.cal.g1 x.hysteresis := below.trans_le (returnPoint_mono g1.le _)
  have belowRpt : m.current < returnPoint m.cal.rpt x.hysteresis := belowG1.trans_le (returnPoint_mono rpt.le _)
  have states : m.state = .gated ∨ m.state = .creep ∨ m.state = .struck ∨ m.state = .rearm := by simpa using st
  rcases states with st | st | st | st
  · rw [if_pos st]
    exact keyChain_step ((keyStep_gated_below x es st (by omega)).trans (if_pos belowG1))
      (keyChain_releases_lifted es n dmp rfl (by exact belowDmp.trans g1) below)
  · rw [if_neg (by rw [st]; decide)]
    exact keyChain_step ((keyStep_creep x es st).trans (if_pos belowG1))
      (keyChain_releases_lifted es n dmp rfl (by exact belowDmp.trans g1) below)
  · rw [if_neg (by rw [st]; decide)]
    exact keyChain_step ((keyStep_struck x es st).trans (if_pos belowRpt))
      (keyChain_releases_rearm es n dmp g1 rpt rfl below)
  · rw [if_neg (by rw [st]; decide)]
    exact keyChain_releases_rearm es (n + 1) dmp g1 rpt st below

end

end Sys2Proof.Machine

namespace Sys2Proof.Machine

/-! ## Key samples of a running part (R22 to R33, R41 to R45) -/

/-! ### A strike handed out (R42) -/

/-- R44: a strike sets the device-wide strike sweep and its age timer, and nothing else at KTR. -/
theorem deliverStrike_ktr (k : Key) (level speed : Nat) (repeated : Bool) (interval : Nat) (s : State) :
    (deliverStrike k level speed repeated interval s).ktr =
      { s.ktr with lastStrike := some s.now, strikeAge := some (s.now + 65535) } := by
  simp only [deliverStrike, handReport_frame, playerEvent_frame, practiceStrike_frame, voiceStrike_frame]
  rfl

theorem voiceDrop_playerHolder (j : Key) (level : Nat) (src : NoteSource) (s : State) (k : Key) :
    ((voiceDrop j level src s).sound k).playerHolder = (s.sound k).playerHolder := by
  unfold voiceDrop
  dsimp only
  split <;> simp [State.sound]

theorem voiceEnqueue_playerHolder (f : VoiceFrame) (s : State) (k : Key) :
    ((voiceEnqueue f s).sound k).playerHolder = (s.sound k).playerHolder := by
  simp [voiceEnqueue]

/-- R67: a NOTE-ON leaves every player holder. -/
theorem noteOn_playerHolder (j : Key) (level : Nat) (src : NoteSource) (s : State) (k : Key) :
    ((noteOn j level src s).sound k).playerHolder = (s.sound k).playerHolder := by
  unfold noteOn
  dsimp only
  rw [releaseEval_playerHolder]
  split <;> simp [voiceEnqueue_playerHolder, voiceDrop_playerHolder, setSound_playerHolder]

theorem deliverStrike_playerHolder (j : Key) (level speed : Nat) (repeated : Bool) (interval : Nat) (s : State)
    (k : Key) :
    ((deliverStrike j level speed repeated interval s).sound k).playerHolder = (s.sound k).playerHolder := by
  have table : (deliverStrike j level speed repeated interval s).sound k =
      (voiceStrike j level (noteStrike s)).sound k := by
    simp [State.sound, deliverStrike]
  rw [table]
  unfold voiceStrike
  split
  · rw [noteOn_playerHolder]
    rfl
  · rfl

/-- R68, R197: a dropped NOTE-ON is an exception, so a strike's NOTE-ON leaves class N. -/
theorem voiceStrike_classN (k : Key) (level : Nat) (s : State) :
    (voiceStrike k level s).lnk.classN = s.lnk.classN := by
  have drops (src : NoteSource) (count : Nat) (now : Sweep) (t : State) :
      (handReport (.voiceDrop k level src count now) t).lnk.classN = t.lnk.classN := (handReport_of_classE rfl t).1
  unfold voiceStrike noteOn voiceDrop
  dsimp only
  (repeat' split) <;> simp [drops]

theorem resolve_classN (k : Key) (result : PracticeResult) (cause : PracticeCause) (offset : Int)
    (index : Option Nat) (s : State) : (resolve k result cause offset index s).lnk.classN = s.lnk.classN :=
  (handReport_of_classP rfl _).1

theorem releaseIfEmpty_classN (s : State) : (releaseIfEmpty s).lnk.classN = s.lnk.classN := by
  have played (cause : PlayCause) (t : State) : (playReport cause t).lnk.classN = t.lnk.classN :=
    (handReport_of_classP rfl t).1
  unfold releaseIfEmpty waitRelease
  (repeat' split) <;> simp [played]

theorem examine_classN (s : State) : (examine s).lnk.classN = s.lnk.classN :=
  foldl_keeps (fun t => t.lnk.classN) _ (fun _ _ => resolve_classN ..) _ _

/-- R161, R197: PRM's reports are of class P. -/
theorem practiceStrike_classN (k : Key) (s : State) : (practiceStrike k s).lnk.classN = s.lnk.classN := by
  unfold practiceStrike joinRecent resolveWrong
  dsimp only
  (repeat' split) <;> simp [releaseIfEmpty_classN, resolve_classN, examine_classN]

/-- R42: the STRIKE report joins its class. -/
theorem deliverStrike_classN {s : State} (enabled : s.par.reportEnable.testBit 0 = true)
    (room : s.lnk.classN.length < 64) (k : Key) (level speed : Nat) (repeated : Bool) (interval : Nat) :
    (deliverStrike k level speed repeated interval s).lnk.classN =
      s.lnk.classN ++ [.strike k level speed repeated (railInTransit s) false interval s.now] := by
  have before : (playerEvent kindStrike (keyNumber k) level
      (practiceStrike k (voiceStrike k level (noteStrike s)))).lnk.classN = s.lnk.classN := by
    simp [practiceStrike_classN, voiceStrike_classN]
  rw [deliverStrike, handReport_joins_classN rfl (by simpa using enabled) (by rw [before]; exact room), before]

/-! ### The arrival and its chain -/

/-- R22, R44: the key record that an arrival brings to its tests. -/
def movedKey (now : Sweep) (p : Nat) (r : KeyRecord) : KeyRecord :=
  { r with current := p, previous := r.current, lastStrike := r.lastStrike.filter fun l => elapsed now l < 65535 }

/-- R29, R42: the record after a strike in the sweep `now`. -/
def struckKey (now : Sweep) (m : KeyRecord) : KeyRecord :=
  { m with state := .struck, gate := none, lastStrike := some now }

/-- R29, R33: the gate that a strike is measured from: the one a key in GATED holds, or the one its chain opens. -/
def StrikesFrom (now : Sweep) (m : KeyRecord) (g : Gate) : Prop :=
  m.state = .gated ∧ m.gate = some g ∧ 1 ≤ m.cal.g2 ∧ m.cal.rpt ≤ m.cal.g2 ∨
    1 ≤ m.cal.dmp ∧ m.cal.dmp < m.cal.g1 ∧ m.cal.g1 < m.cal.rpt ∧ m.cal.rpt < m.cal.g2 ∧
      ((m.state = .rest ∨ m.state = .lifted) ∧ g.start = .g1 ∧
          g.stamp = crossingStamp now m.previous m.current m.cal.g1 ∨
        m.state = .rearm ∧ g.start = .rpt ∧ g.stamp = crossingStamp now m.previous m.current m.cal.rpt)

/-- A strike is measured from the stamp and the start threshold of its gate alone. -/
theorem strikeEvent_congr {g h : Gate} (start : g.start = h.start) (stamp : g.stamp = h.stamp) (x : ArrivalContext)
    (m : KeyRecord) : strikeEvent x m g = strikeEvent x m h := by
  simp only [strikeEvent, start, stamp]

/-- R24 to R29, R33: every chain that reaches G2 ends in one strike, after the lift of a key that was in REST. -/
theorem keyChain_reaches_strike {x : ArrivalContext} {m : KeyRecord} {g : Gate} (strikes : StrikesFrom x.sweep m g)
    (past : m.cal.g2 ≤ m.current) :
    keyChain x 9 ⟨m, []⟩ =
      ⟨struckKey x.sweep m, (if m.state = .rest then [.lift] else []) ++ [strikeEvent x m g]⟩ := by
  rcases strikes with ⟨st, gate, positive, order⟩ | ⟨dmp, g1, rpt, g2, opens⟩
  · rw [if_neg (by rw [st]; decide)]
    exact keyChain_strikes [] 8 st gate positive order past
  · rcases opens with ⟨st | st, start, stamp⟩ | ⟨st, start, stamp⟩
    · obtain ⟨h, hstart, hstamp, chain⟩ := keyChain_opens_strikes (m := { m with state := .lifted }) (x := x) [.lift] 6
        dmp g1 rpt g2 (.inl ⟨rfl, rfl⟩) past
      rw [if_pos st, strikeEvent_congr (start.trans hstart.symm) (stamp.trans hstamp.symm)]
      exact keyChain_step ((keyStep_rest x [] st).trans (if_pos (by omega))) chain
    · obtain ⟨h, hstart, hstamp, chain⟩ := keyChain_opens_strikes (x := x) [] 7 dmp g1 rpt g2
        (.inl ⟨st, rfl⟩) past
      rw [if_neg (by rw [st]; decide), strikeEvent_congr (start.trans hstart.symm) (stamp.trans hstamp.symm)]
      exact chain
    · obtain ⟨h, hstart, hstamp, chain⟩ := keyChain_opens_strikes (x := x) [] 7 dmp g1 rpt g2
        (.inr ⟨st, rfl⟩) past
      rw [if_neg (by rw [st]; decide), strikeEvent_congr (start.trans hstart.symm) (stamp.trans hstamp.symm)]
      exact chain

/-- R42, R44: an own strike too old to be kept counts as none. -/
theorem sinceLastStrike_filter (now : Sweep) (last : Option Sweep) :
    sinceLastStrike now (last.filter fun l => elapsed now l < 65535) = sinceLastStrike now last := by
  cases last with
  | none => rfl
  | some l =>
    by_cases young : elapsed now l < 65535
    · simp [Option.filter, young]
    · simp [Option.filter, young, sinceLastStrike, Nat.min_eq_left (Nat.not_lt.1 young)]

/-- R20: adoption in REST takes a pending record and touches nothing else. -/
theorem adoptAtRest_rest {r : KeyRecord} (rest : r.state = .rest) :
    adoptAtRest r = { r with cal := r.pendingCal.getD r.cal, pendingCal := none } := by
  rw [adoptAtRest, if_pos rest, adoptCal_eq]

/-- R45: entry into GATED counts one more. -/
theorem replaceKey_enters {k : Key} {r : KeyRecord} {s : State} (enters : r.state = .gated)
    (out : (s.keyRec k).state ≠ .gated) :
    replaceKey k r s = setKeyRec k r { s with ktr := { s.ktr with gatedCount := s.ktr.gatedCount + 1 } } := by
  simp [replaceKey_eq, gatedOne, enters, out]

/-- R45: exit from GATED counts one less. -/
theorem replaceKey_leaves {k : Key} {r : KeyRecord} {s : State} (out : r.state ≠ .gated)
    (gated : (s.keyRec k).state = .gated) :
    replaceKey k r s = setKeyRec k r { s with ktr := { s.ktr with gatedCount := s.ktr.gatedCount - 1 } } := by
  simp [replaceKey_eq, gatedOne, gated, out]

theorem replaceKey_outside {k : Key} {r : KeyRecord} {s : State} (out : r.state ≠ .gated)
    (outside : (s.keyRec k).state ≠ .gated) : replaceKey k r s = setKeyRec k r s :=
  replaceKey_of_gatedOne_eq k r s (by simp [gatedOne, out, outside])

theorem replaceKey_gatedCount (k : Key) (r : KeyRecord) (s : State) :
    (replaceKey k r s).ktr.gatedCount = s.ktr.gatedCount + gatedOne r - gatedOne (s.keyRec k) := rfl

theorem replaceKey_keyRec_ne {k j : Key} (other : j ≠ k) (r : KeyRecord) (s : State) :
    (replaceKey k r s).keyRec j = s.keyRec j := by
  rw [replaceKey_eq, keyRec_setKeyRec_ne other]
  rfl

/-! ### What an arrival does, by its chain -/

section
variable {k : Key} {p : Nat} {s : State}

/-- R25: the first sample places a key. -/
theorem keyArrival_init (st : (s.keyRec k).state = .init) :
    keyArrival k p s = setKeyRec k (placeKey p (s.keyRec k)) s := by
  have out : (placeKey p (s.keyRec k)).state ≠ .gated := by
    simp only [placeKey]
    split <;> decide
  simp only [keyArrival, arriveKey, if_pos st, List.foldl_nil]
  exact replaceKey_outside out (by rw [st]; decide)

variable {m : KeyRecord} (moved : m = movedKey s.now p (s.keyRec k))
include moved

theorem movedKey_state : m.state = (s.keyRec k).state := by rw [moved]; rfl

theorem keyArrival_of_chain (placed : m.state ≠ .init) {r : KeyRecord} {es : List KeyEvent}
    (chain : keyChain (arrivalContext s) 9 ⟨m, []⟩ = ⟨r, es⟩) :
    keyArrival k p s = es.foldl (deliverKeyEvent k) (replaceKey k (adoptAtRest r) s) := by
  have arrival := keyArrival_eq k p m s (by rwa [movedKey_state moved] at placed) moved
  rwa [chain] at arrival

/-- R24: a chain that raises nothing replaces the key record. -/
theorem keyArrival_silent (placed : m.state ≠ .init) {r : KeyRecord} (up : r.state ≠ .rest)
    (chain : keyChain (arrivalContext s) 9 ⟨m, []⟩ = ⟨r, []⟩) : keyArrival k p s = replaceKey k r s := by
  rw [keyArrival_of_chain moved placed chain, adoptAtRest, if_neg up]
  rfl

/-- R24: a silent chain that neither enters nor leaves GATED. -/
theorem keyArrival_outside (placed : m.state ≠ .init) (outside : m.state ≠ .gated) {r : KeyRecord}
    (up : r.state ≠ .rest) (out : r.state ≠ .gated)
    (chain : keyChain (arrivalContext s) 9 ⟨m, []⟩ = ⟨r, []⟩) : keyArrival k p s = setKeyRec k r s := by
  rw [keyArrival_silent moved placed up chain, replaceKey_outside out (by rwa [movedKey_state moved] at outside)]

/-- R20, R25: a key that comes to REST, or stays in it, takes a pending record. -/
theorem keyArrival_to_rest (st : m.state = .rest ∨ m.state = .startHeld) {r : KeyRecord}
    (chain : keyChain (arrivalContext s) 9 ⟨m, []⟩ = ⟨r, []⟩) (rest : r.state = .rest) :
    keyArrival k p s = setKeyRec k { r with cal := r.pendingCal.getD r.cal, pendingCal := none } s := by
  have placed : m.state ≠ .init := by rcases st with st | st <;> rw [st] <;> decide
  have outside : (s.keyRec k).state ≠ .gated := by
    rw [← movedKey_state moved]
    rcases st with st | st <;> rw [st] <;> decide
  rw [keyArrival_of_chain moved placed chain, adoptAtRest_rest rest]
  exact replaceKey_outside (by rw [rest]; decide) outside

/-- R26, R63: a lift raises the player holder. -/
theorem keyArrival_after_lift (st : m.state = .rest) {r : KeyRecord} (up : r.state ≠ .rest)
    (chain : keyChain (arrivalContext s) 9 ⟨m, []⟩ = ⟨r, [.lift]⟩) :
    keyArrival k p s = voiceLift k (replaceKey k r s) := by
  rw [keyArrival_of_chain moved (by rw [st]; decide) chain, adoptAtRest, if_neg up]
  rfl

/-! ### Silent chains and lifts -/

/-- R25, R63: a key that is lifted, and no further. -/
theorem keyArrival_lifts (st : m.state = .rest) (positive : 1 ≤ m.cal.dmp) (above : m.cal.dmp ≤ m.current)
    (below : m.current < m.cal.g1) :
    keyArrival k p s = voiceLift k (setKeyRec k { m with state := .lifted } s) := by
  have outside : (s.keyRec k).state ≠ .gated := by
    rw [← movedKey_state moved, st]
    decide
  rw [keyArrival_after_lift moved st KeyState.noConfusion
    (keyChain_lifts (x := arrivalContext s) [] 8 st positive above below),
    replaceKey_outside KeyState.noConfusion outside]

/-- R25: a key held at start comes to REST. -/
theorem keyArrival_startHeld_rests (st : m.state = .startHeld) (positive : 1 ≤ m.cal.dmp)
    (below : m.current < returnPoint m.cal.dmp s.par.hysteresis) :
    keyArrival k p s =
      setKeyRec k { m with state := .rest, cal := m.pendingCal.getD m.cal, pendingCal := none } s :=
  keyArrival_to_rest moved (.inr st)
    (keyChain_startHeld_rests (x := arrivalContext s) [] 8 st positive below) rfl

/-- R31: a gate is cancelled below G1's return point. -/
theorem keyArrival_cancels (st : m.state = .gated) (positive : 1 ≤ m.cal.g1) (belowG2 : m.current < m.cal.g2)
    (above : returnPoint m.cal.dmp s.par.hysteresis ≤ m.current)
    (below : m.current < returnPoint m.cal.g1 s.par.hysteresis) :
    keyArrival k p s = setKeyRec k { m with state := .lifted, gate := none }
      { s with ktr := { s.ktr with gatedCount := s.ktr.gatedCount - 1 } } := by
  have chain := keyChain_returns_lifted (x := arrivalContext s) [] 8 (.inl ⟨st, belowG2⟩) positive above below
  rw [if_pos st] at chain
  rw [keyArrival_silent moved (by rw [st]; decide) KeyState.noConfusion chain]
  exact replaceKey_leaves KeyState.noConfusion (by rw [← movedKey_state moved, st])

/-- R30: a key in CREEP is lifted again below G1's return point. -/
theorem keyArrival_creep_returns (st : m.state = .creep) (positive : 1 ≤ m.cal.g1)
    (above : returnPoint m.cal.dmp s.par.hysteresis ≤ m.current)
    (below : m.current < returnPoint m.cal.g1 s.par.hysteresis) :
    keyArrival k p s = setKeyRec k { m with state := .lifted } s := by
  have chain := keyChain_returns_lifted (x := arrivalContext s) [] 8 (.inr st) positive above below
  rw [if_neg (by rw [st]; decide)] at chain
  exact keyArrival_outside moved (by rw [st]; decide) (by rw [st]; decide) KeyState.noConfusion KeyState.noConfusion
    chain

/-- R32: a struck key is armed again below RPT's return point. -/
theorem keyArrival_rearms (st : m.state = .struck) (positive : 1 ≤ m.cal.rpt)
    (above : returnPoint m.cal.dmp s.par.hysteresis ≤ m.current)
    (below : m.current < returnPoint m.cal.rpt s.par.hysteresis) :
    keyArrival k p s = setKeyRec k { m with state := .rearm } s :=
  keyArrival_outside moved (by rw [st]; decide) (by rw [st]; decide) KeyState.noConfusion KeyState.noConfusion
    (keyChain_rearms (x := arrivalContext s) [] 8 st positive above below)

/-- R24: the positions that leave a key in its state. -/
theorem keyArrival_stays
    (between : m.state = .startHeld ∧ returnPoint m.cal.dmp s.par.hysteresis ≤ m.current ∨
      m.state = .lifted ∧ returnPoint m.cal.dmp s.par.hysteresis ≤ m.current ∧ m.current < m.cal.g1 ∨
      m.state = .gated ∧ returnPoint m.cal.g1 s.par.hysteresis ≤ m.current ∧ m.current < m.cal.g2 ∨
      m.state = .creep ∧ returnPoint m.cal.g1 s.par.hysteresis ≤ m.current ∨
      m.state = .struck ∧ returnPoint m.cal.rpt s.par.hysteresis ≤ m.current ∨
      m.state = .rearm ∧ returnPoint m.cal.dmp s.par.hysteresis ≤ m.current ∧ m.current < m.cal.rpt) :
    keyArrival k p s = setKeyRec k m s := by
  have kept (st : m.state ≠ .init ∧ m.state ≠ .rest)
      (chain : keyChain (arrivalContext s) 9 ⟨m, []⟩ = ⟨m, []⟩) : keyArrival k p s = setKeyRec k m s := by
    rw [keyArrival_silent moved st.1 st.2 chain]
    exact replaceKey_of_gatedOne_eq k m s (by simp only [gatedOne, movedKey_state moved])
  rcases between with ⟨st, above⟩ | ⟨st, above, below⟩ | ⟨st, above, below⟩ | ⟨st, above⟩ | ⟨st, above⟩ |
    ⟨st, above, below⟩ <;> refine kept (by rw [st]; decide) ?_
  · exact keyChain_stays_startHeld [] 9 st above
  · exact keyChain_stays_lifted [] 9 st above below
  · exact keyChain_stays_gated [] 9 st above below
  · exact keyChain_stays_creep [] 9 st above
  · exact keyChain_stays_struck [] 9 st above
  · exact keyChain_stays_rearm [] 9 st above below

/-! ### Gates -/

section
variable (dmp : 1 ≤ m.cal.dmp) (g1 : m.cal.dmp < m.cal.g1) (rpt : m.cal.g1 < m.cal.rpt) (g2 : m.cal.rpt < m.cal.g2)
include dmp g1 rpt g2

/-- R28, R33, R45: a lifted or rearmed key opens its gate. -/
theorem keyArrival_opens {start : GateStart} (opens : OpensAt m start)
    (past : startPosition m.cal start ≤ m.current) (below : m.current < m.cal.g2) :
    keyArrival k p s = setKeyRec k (openGate (arrivalContext s) m start)
      { s with ktr := { s.ktr with gatedCount := s.ktr.gatedCount + 1 } } := by
  have up : m.state ≠ .init ∧ m.state ≠ .gated := by
    rcases opens with ⟨st, -⟩ | ⟨st, -⟩ <;> rw [st] <;> decide
  rw [keyArrival_silent moved up.1 KeyState.noConfusion
    (keyChain_opens (x := arrivalContext s) [] 8 dmp g1 rpt g2 opens past below)]
  exact replaceKey_enters rfl (by rw [← movedKey_state moved]; exact up.2)

/-- R25, R28, R45: one sample takes a key from REST to GATED. -/
theorem keyArrival_lifts_opens (st : m.state = .rest) (past : m.cal.g1 ≤ m.current) (below : m.current < m.cal.g2) :
    keyArrival k p s = voiceLift k (setKeyRec k (openGate (arrivalContext s) m .g1)
      { s with ktr := { s.ktr with gatedCount := s.ktr.gatedCount + 1 } }) := by
  rw [keyArrival_after_lift moved st KeyState.noConfusion
    (keyChain_lifts_opens (x := arrivalContext s) [] 7 dmp g1 rpt g2 st past below),
    replaceKey_enters rfl (by rw [← movedKey_state moved, st]; decide)]

end

/-! ### Strikes -/

/-- The state in which the strike of a chain is delivered: the record replaced, and the lift of a key that was in REST
taken. -/
def beforeStrike (k : Key) (s : State) (m : KeyRecord) : State :=
  if m.state = .rest then voiceLift k (replaceKey k (struckKey s.now m) s) else replaceKey k (struckKey s.now m) s

omit moved in
@[simp] theorem beforeStrike_frame (k : Key) (s : State) (m : KeyRecord) :
    (beforeStrike k s m).par = s.par ∧ (beforeStrike k s m).scn = s.scn ∧ (beforeStrike k s m).ptr = s.ptr ∧
    (beforeStrike k s m).rlc = s.rlc ∧ (beforeStrike k s m).hpm = s.hpm ∧ (beforeStrike k s m).lnk = s.lnk ∧
    (beforeStrike k s m).now = s.now ∧
    (beforeStrike k s m).ktr = (replaceKey k (struckKey s.now m) s).ktr := by
  unfold beforeStrike
  split <;> simp

omit moved in
theorem beforeStrike_playerHolder {m : KeyRecord} (st : m.state = .rest) : ((beforeStrike k s m).sound k).playerHolder = true := by
  simp [beforeStrike, st, voiceLift]

omit moved in
/-- R29: the key records after a strike. -/
theorem struck_keyRec (level speed : Nat) (repeated : Bool) (interval : Nat) (j : Key) :
    (deliverStrike k level speed repeated interval (beforeStrike k s m)).keyRec j =
      (replaceKey k (struckKey s.now m) s).keyRec j := by
  simp [State.keyRec, deliverStrike_ktr]

/-- R29, R42: an arrival that reaches G2 is the delivery of one strike. -/
theorem keyArrival_strikes {g : Gate} (strikes : StrikesFrom s.now m g) (past : m.cal.g2 ≤ m.current) {speed : Nat}
    (isSpeed : speed = strikeSpeed m.cal g.start
      (strikeInterval g.stamp (crossingStamp s.now m.previous m.current m.cal.g2))) :
    keyArrival k p s =
      deliverStrike k (strikeLevel (selectedCurve s) speed) speed (g.start == .rpt)
        (sinceLastStrike s.now (s.keyRec k).lastStrike) (beforeStrike k s m) := by
  have placed : m.state ≠ .init := by
    rcases strikes with ⟨st, -⟩ | ⟨-, -, -, -, ⟨st | st, -⟩ | ⟨st, -⟩⟩ <;> rw [st] <;> decide
  have event : strikeEvent (arrivalContext s) m g =
      .strike (strikeLevel (selectedCurve s) speed) speed (g.start == .rpt)
        (sinceLastStrike s.now (s.keyRec k).lastStrike) := by
    have own : sinceLastStrike s.now m.lastStrike = sinceLastStrike s.now (s.keyRec k).lastStrike := by
      rw [moved]
      exact sinceLastStrike_filter ..
    rw [← own, isSpeed]
    rfl
  have chain := keyChain_reaches_strike (x := arrivalContext s) strikes past
  rw [keyArrival_of_chain moved placed chain, List.foldl_append, event, adoptAtRest, if_neg (by exact KeyState.noConfusion)]
  unfold beforeStrike
  split <;> rfl

/-! ### Releases -/

/-- R20, R27: the record of a released key in REST. -/
def releasedKey (m : KeyRecord) : KeyRecord :=
  { m with
    state := .rest, gate := if m.state = .gated then none else m.gate
    cal := m.pendingCal.getD m.cal, pendingCal := none }

/-- R27, R43: below DMP's return point a lifted key's arrival is the delivery of its release. -/
theorem keyArrival_releases (dmp : 1 ≤ m.cal.dmp)
    (order : m.state = .lifted ∧ m.current < m.cal.g1 ∨
      m.state ∈ [.gated, .creep, .struck, .rearm] ∧ m.cal.dmp < m.cal.g1 ∧ m.cal.g1 < m.cal.rpt ∧
        m.cal.rpt < m.cal.g2)
    (below : m.current < returnPoint m.cal.dmp s.par.hysteresis) :
    keyArrival k p s = deliverRelease k false (replaceKey k (releasedKey m) s) := by
  have chain : m.state ≠ .init ∧ keyChain (arrivalContext s) 9 ⟨m, []⟩ =
      ⟨{ m with state := .rest, gate := if m.state = .gated then none else m.gate }, [.release false]⟩ := by
    rcases order with ⟨st, belowG1⟩ | ⟨st, g1, rpt, g2⟩
    · refine ⟨by rw [st]; decide, ?_⟩
      rw [if_neg (by rw [st]; decide)]
      exact keyChain_releases_lifted (x := arrivalContext s) [] 8 dmp st belowG1 below
    · refine ⟨fun init => by rw [init] at st; revert st; decide, ?_⟩
      exact keyChain_releases (x := arrivalContext s) [] 7 dmp g1 rpt g2 st below
  rw [keyArrival_of_chain moved chain.1 chain.2, adoptAtRest_rest rfl]
  rfl

omit moved in
/-- R27: the key records and the GATED count after a release. -/
theorem released_ktr (fault : Bool) (r : KeyRecord) :
    (deliverRelease k fault (replaceKey k r s)).ktr = (replaceKey k r s).ktr := by simp

end

end Sys2Proof.Machine

namespace Sys2Proof.Machine

/-! ## KTR's samples as conversions (R22 to R33) -/

/-- R7: what a conversion brings to KTR: the channel record alone is replaced. -/
theorem sampled_frame {c : Channel} {x : ChannelRecord} {s u : State} (sampled : u = setChannel c x s) :
    s.keyRec = u.keyRec ∧ s.sound = u.sound ∧ s.now = u.now ∧ s.par = u.par ∧ s.ktr = u.ktr ∧ s.lnk = u.lnk ∧
    s.rlc = u.rlc ∧ s.ptr = u.ptr ∧ s.hpm = u.hpm ∧ s.prm = u.prm ∧ s.pbe = u.pbe ∧
    selectedCurve s = selectedCurve u := by
  rw [sampled]
  exact ⟨rfl, rfl, rfl, rfl, rfl, rfl, rfl, rfl, rfl, rfl, rfl, rfl⟩

/-- R2, R7, R12: a conversion of a key channel that is OK in RUNNING, the sample inside its window, is an arrival. -/
theorem exec_conversion_key {k : Key} {r : Raw} {s : State} (runs : s.Runs) (running : s.scn.state = .running)
    (unwatched : s.scn.watch = none) (ok : (s.channel (.key k)).health = .ok)
    (above : (s.keyRec k).cal.floor ≤ r.toNat) (below : r.toNat ≤ (s.keyRec k).cal.ceil) :
    exec (.conversion (.key k) r) s =
      .next (linkChoose (keyArrival k (normalize (channelCal s (.key k)) r)
        (setChannel (.key k) { s.channel (.key k) with lastRaw := r, persistence := 0 } s))) := by
  have inside : inWindow (channelCal s (.key k)) r = true := inWindow_true above below
  rw [exec_conversion runs, convert_delivers_inside running unwatched ok inside]
  rfl

/-- Settles O43: a conversion is one arrival, and an arrival is the chain of its key. -/
theorem keySamplesMoveTheKey : Obligations.KeySamplesMoveTheKey := by
  intro k r p u s runs running unwatched ok above below position sampled
  have conversion := exec_conversion_key runs running unwatched ok above below
  rw [← position, ← sampled] at conversion
  obtain ⟨record, sound, now, par, ktr, lnk, rlc, ptr, hpm, prm, pbe, curve⟩ := sampled_frame sampled
  rw [conversion, record, sound, now, par, ktr, lnk, rlc, ptr, hpm, prm, pbe, curve]
  clear conversion sampled position
  refine ⟨?init, ?rests, ?lifts, ?strikes, ?releases, ?moves⟩
  case init =>
    intro st
    rw [keyArrival_init st]
    rfl
  case rests =>
    intro st pending below
    have chain := keyChain_rests (x := arrivalContext u) (m := movedKey u.now p (u.keyRec k)) [] 9 st below
    rw [keyArrival_to_rest rfl (.inl st) chain st]
    simp [movedKey, pending]
  case lifts =>
    intro st dmp above below
    rw [keyArrival_lifts rfl st dmp above below]
    rfl
  case strikes =>
    rintro g speed level gated ways past isSpeed rfl
    have source : StrikesFrom u.now (movedKey u.now p (u.keyRec k)) g ∧
        gated = u.ktr.gatedCount - gatedOne (u.keyRec k) := by
      rcases ways with ⟨st, gate, positive, order, rfl⟩ | ⟨dmp, g1, rpt, g2, rfl, opens⟩
      · exact ⟨.inl ⟨st, gate, positive, order⟩, by rw [gatedOne, if_pos st]⟩
      · refine ⟨.inr ⟨dmp, g1, rpt, g2, opens⟩, ?_⟩
        rcases opens with ⟨st | st, -⟩ | ⟨st, -⟩ <;> simp [gatedOne, st]
    obtain ⟨strikes, rfl⟩ := source
    refine ⟨_, by rw [keyArrival_strikes rfl strikes past isSpeed], ?_, fun st => ?_, ?_, ?_, ?_, fun j other => ?_,
      fun enabled room => ?_, ?_⟩
    · rw [struck_keyRec, replaceKey_keyRec_self]
      rfl
    · rw [deliverStrike_playerHolder]
      exact beforeStrike_playerHolder st
    · simp [deliverStrike_ktr]
    · simp [deliverStrike_ktr]
    · simp [deliverStrike_ktr, replaceKey_gatedCount, gatedOne, struckKey]
    · rw [struck_keyRec, replaceKey_keyRec_ne other]
    · rw [deliverStrike_classN (by simpa using enabled) (by simpa using room)]
      simp only [railInTransit, beforeStrike_frame]
      rfl
    · simp
  case releases =>
    intro ways below
    have order : 1 ≤ (u.keyRec k).cal.dmp ∧ ((u.keyRec k).state = .lifted ∧ p < (u.keyRec k).cal.g1 ∨
        (u.keyRec k).state ∈ [.gated, .creep, .struck, .rearm] ∧ (u.keyRec k).cal.dmp < (u.keyRec k).cal.g1 ∧
          (u.keyRec k).cal.g1 < (u.keyRec k).cal.rpt ∧ (u.keyRec k).cal.rpt < (u.keyRec k).cal.g2) := by
      rcases ways with ⟨st, dmp, belowG1⟩ | ⟨st, dmp, order⟩
      · exact ⟨dmp, .inl ⟨st, belowG1⟩⟩
      · exact ⟨dmp, .inr ⟨st, order⟩⟩
    refine ⟨_, by rw [keyArrival_releases rfl order.1 order.2 below], ?_, deliverRelease_playerHolder ..,
      fun j other => ?_, ?_, fun enabled room => ?_, ?_⟩
    · rw [State.keyRec, released_ktr]
      exact replaceKey_keyRec_self ..
    · rw [State.keyRec, released_ktr]
      exact replaceKey_keyRec_ne other ..
    · rw [released_ktr]
      rfl
    · rw [deliverRelease_classN (by simpa using enabled) (by simpa using room)]
      simp
    · simp
  case moves =>
    rintro m _ _ _ moved rfl rfl rfl dmp g1 rpt g2
    have moved : m = movedKey u.now p (u.keyRec k) := moved
    subst moved
    refine ⟨?opens, fun st above below => ?_, fun st below => ?_, fun st above below => ?_, fun st above below => ?_,
      fun between => ?_⟩
    case opens =>
      rintro start threshold opened past below rfl
      refine ⟨fun ways => ?_, ?_⟩
      · have opens : OpensAt (movedKey u.now p (u.keyRec k)) start ∧
            threshold = startPosition (u.keyRec k).cal start := by
          rcases ways with ⟨st, rfl, rfl⟩ | ⟨st, rfl, rfl⟩
          · exact ⟨.inl ⟨st, rfl⟩, rfl⟩
          · exact ⟨.inr ⟨st, rfl⟩, rfl⟩
        obtain ⟨opens, rfl⟩ := opens
        rw [keyArrival_opens rfl dmp g1 rpt g2 opens past below]
        rfl
      · rintro st rfl rfl
        rw [keyArrival_lifts_opens rfl dmp g1 rpt g2 st past below]
        rfl
    · have belowG1 : p < (u.keyRec k).cal.g1 := below.trans_le (returnPoint_le (dmp.trans g1.le) _)
      rw [keyArrival_cancels rfl st (dmp.trans g1.le) (belowG1.trans (rpt.trans g2)) above below]
    · rw [keyArrival_startHeld_rests rfl st dmp below]
    · rw [keyArrival_creep_returns rfl st (dmp.trans g1.le) above below]
    · rw [keyArrival_rearms rfl st (dmp.trans (g1.le.trans rpt.le)) above below]
    · rw [keyArrival_stays rfl between]

end Sys2Proof.Machine

namespace Sys2Proof.Machine

/-! ## What a step keeps of the thresholds and the pedal records (R55, R57) -/

/-! ### Events that keep a property (R189, log 1, log 4) -/

/-- An event keeps a property of the state. -/
def EventKeeps (P : State → Prop) (event : State → Host.Outcome State Fault Refusal) : Prop :=
  ∀ s t, P s → event s = .next t → P t

/-- A property of the PARAM entries and the pedal records that every operation on them keeps: a PARAM entry taken, a
calibration or group replaced, a player level adopted (R50, R52) and a playback level written (R54). Only these and the
resets reach the two, so that every step keeps such a property (`PedalProperty.step_keeps`). -/
structure PedalProperty (P : State → Prop) : Prop where
  /-- The PARAM entries and the pedal records are all the property reads. -/
  reads {s t : State} : t.par = s.par ∧ t.ptr.pedals = s.ptr.pedals → P s → P t
  /-- It holds of the reset tables, which both device-level resets restore. -/
  powerOn : P State.powerOn
  param (a : ParamArgs) (w : WriteResult) : P w.st → P (takeParam a w).st
  /-- A record whose three levels are those of the old one: its calibration and its group. -/
  regroup {p : Pedal} {r : PedalRecord} {s : State} :
    r.player = (s.pedalRec p).player ∧ r.playback = (s.pedalRec p).playback ∧
      r.effective = (s.pedalRec p).effective → P s → P (setPedalRec p r s)
  adopt (p : Pedal) (level : Nat) (fault : Bool) {s : State} : P s → P (adoptPlayer p level fault s)
  playback (p : Pedal) (level : Nat) {s : State} : P s → P (playbackLevel p level s)

namespace PedalProperty

variable {P : State → Prop} (keeps : PedalProperty P) {s : State}
include keeps

/-! ### Pedal samples and notices -/

theorem emptyGroup_keeps (p : Pedal) (held : P s) : P (emptyGroup p s) := keeps.regroup ⟨rfl, rfl, rfl⟩ held

theorem pedalArrival_keeps (p : Pedal) (pos : Nat) (held : P s) : P (pedalArrival p pos s) := by
  unfold pedalArrival evaluatePlayer
  dsimp only
  (repeat' split)
  · exact keeps.adopt p _ _ (keeps.regroup ⟨rfl, rfl, rfl⟩ held)
  · exact keeps.regroup ⟨rfl, rfl, rfl⟩ held
  · exact keeps.regroup ⟨rfl, rfl, rfl⟩ held

theorem pedalFault_keeps (p : Pedal) (held : P s) : P (pedalFault p s) := by
  unfold pedalFault
  dsimp only
  split
  · exact keeps.emptyGroup_keeps p held
  · exact keeps.adopt p _ _ (keeps.emptyGroup_keeps p held)

theorem deliverSample_keeps (c : Channel) (pos : Nat) (held : P s) : P (deliverSample c pos s) := by
  cases c with
  | key k => exact keeps.reads (by simp [deliverSample]) held
  | pedal p => exact keeps.pedalArrival_keeps p pos held
  | rail => exact keeps.reads (by simp [deliverSample]) held

theorem deliverFault_keeps (c : Channel) (held : P s) : P (deliverFault c s) := by
  cases c with
  | key k => exact keeps.reads (by simp [deliverFault]) held
  | pedal p => exact keeps.pedalFault_keeps p held
  | rail => exact keeps.reads (by simp [deliverFault]) held

theorem deliverRecovery_keeps (c : Channel) (pos : Nat) (held : P s) : P (deliverRecovery c pos s) := by
  cases c with
  | key k => exact keeps.reads (by simp [deliverRecovery]) held
  | pedal p => exact keeps.pedalArrival_keeps p pos (keeps.emptyGroup_keeps p held)
  | rail => exact keeps.reads (by simp [deliverRecovery]) held

theorem judgeOk_keeps (c : Channel) (r : Raw) (held : P s) : P (judgeOk c r s) := by
  unfold judgeOk faultChannel
  dsimp only
  split
  · exact keeps.deliverFault_keeps c (keeps.reads (by simp) held)
  · exact keeps.deliverSample_keeps c _ (keeps.reads (by simp) held)

theorem judgeFaulted_keeps (c : Channel) (r : Raw) (held : P s) : P (judgeFaulted c r s) := by
  unfold judgeFaulted recoverChannel
  dsimp only
  split
  · exact keeps.deliverRecovery_keeps c _ (keeps.reads (by simp) held)
  · exact keeps.reads (by simp) held

theorem convert_keeps (c : Channel) (r : Raw) (held : P s) : P (convert c r s) := by
  have gathers : P (gathered c r s) := keeps.reads (by simp [gathered]) held
  cases st : s.scn.state with
  | warmup => rw [convert_warmup st]; exact gathers
  | running =>
    cases health : (s.channel c).health with
    | ok => rw [convert_ok st health]; exact keeps.judgeOk_keeps c r gathers
    | faulted => rw [convert_faulted st health]; exact keeps.judgeFaulted_keeps c r gathers

/-! ### Playback -/

theorem clearPlaybackLevels_keeps (held : P s) : P (clearPlaybackLevels s) :=
  keeps.playback _ _ (keeps.playback _ _ (keeps.playback _ _ held))

theorem playReport_keeps (cause : PlayCause) (held : P s) : P (playReport cause s) := keeps.reads (by simp) held

/-- R134, R152: what a stop and a pause clear. -/
theorem clearPlayback_keeps (held : P s) : P (clearPlaybackLevels (clearPlayback s)) :=
  keeps.clearPlaybackLevels_keeps (keeps.reads (by simp) held)

theorem stopSteps_keeps (cause : PlayCause) (held : P s) : P (stopSteps cause s) := by
  have stopped : ∀ t, P t → P (practiceStop (clearPlaybackLevels (clearPlayback t))) := fun _ before =>
    keeps.reads (by simp) (keeps.clearPlayback_keeps before)
  unfold stopSteps
  dsimp only
  split
  · exact stopped _ (keeps.reads (by simp) held)
  · exact keeps.playReport_keeps _ (stopped _ (keeps.reads (by simp) held))

theorem scoreFault_keeps (cause : ScoreCause) (index : Nat) (held : P s) : P (scoreFault cause index s) :=
  keeps.stopSteps_keeps _ (keeps.reads (by simp) held)

theorem performPedal_keeps (pedal level : Nat) (held : P s) : P (performPedal pedal level s) := by
  unfold performPedal
  split
  · exact held
  · exact keeps.playback _ _ held

theorem performScore_keeps (e : ScoreEntry) (index : Nat) (held : P s) : P (performScore e index s) := by
  unfold performScore
  split
  · exact keeps.stopSteps_keeps _ held
  · exact keeps.reads (by simp) held
  · exact keeps.reads (by simp) held
  · exact keeps.performPedal_keeps _ _ held
  · split
    · exact keeps.reads (by simp) held
    · exact held
  · exact keeps.reads (by simp) held
  · exact keeps.reads (by simp) held
  · exact held
  · exact keeps.scoreFault_keeps _ _ held

theorem moveCursor_keeps (target faultIndex : Nat) (held : P s) : P (moveCursor target faultIndex s) := by
  unfold moveCursor
  dsimp only
  split
  · exact keeps.scoreFault_keeps _ _ (keeps.reads (by simp) held)
  · exact keeps.reads (by simp) held

/-- R142 to R144: a navigation entry moves the cursor, with another stack, or faults. -/
theorem navigate_keeps (e : ScoreEntry) (i : Nat) (held : P s) : P (navigate e i s) := by
  have moves (f : Pbe → Pbe) (target : Nat) : P (moveCursor target i (s.modPbe f)) :=
    keeps.moveCursor_keeps _ _ (keeps.reads (by simp) held)
  have faults (cause : ScoreCause) : P (scoreFault cause i s) := keeps.scoreFault_keeps _ _ held
  unfold navigate
  dsimp only
  split
  case h_1 =>
    split
    · exact keeps.moveCursor_keeps _ _ held
    · exact faults _
  case h_2 =>
    (repeat' split)
    · exact faults _
    · exact faults _
    · exact moves _ _
  case h_3 =>
    split
    · exact moves _ _
    · exact faults _
  case h_4 =>
    split
    · exact faults _
    · exact moves _ _
  case h_5 =>
    (repeat' split)
    · exact moves _ _
    · exact moves _ _
    · exact faults _

theorem performNavigation_keeps (e : ScoreEntry) (i : Nat) (held : P s) : P (performNavigation e i s) := by
  unfold performNavigation
  dsimp only
  (repeat' split)
  · exact keeps.scoreFault_keeps _ _ held
  · exact keeps.scoreFault_keeps _ _ held
  · exact keeps.navigate_keeps _ _ (keeps.performScore_keeps _ _ held)
  · exact keeps.performScore_keeps _ _ held

theorem scoreStep_keeps (e : ScoreEntry) (held : P s) : P (scoreStep e s) := by
  unfold scoreStep
  dsimp only
  split
  · exact keeps.moveCursor_keeps _ _ (keeps.performScore_keeps _ _ held)
  · exact keeps.performScore_keeps _ _ held

/-- R137: a run is its places in turn. -/
theorem scoreRun_keeps (places : Nat) (held : P s) : P (scoreRun places s) := by
  induction places, s using scoreRun.induct with
  | case1 s => exact held
  | case2 s e navigation => rwa [show scoreRun 1 s = s from if_pos navigation]
  | case3 s e navigation left t on ih =>
    rw [show scoreRun (left + 2) s = scoreRun left t from (if_pos navigation).trans (if_pos on)]
    exact ih (keeps.performNavigation_keeps _ _ held)
  | case4 s e navigation left t off =>
    rw [show scoreRun (left + 2) s = t from (if_pos navigation).trans (if_neg off)]
    exact keeps.performNavigation_keeps _ _ held
  | case5 left s e entry t on ih =>
    rw [show scoreRun (left + 1) s = scoreRun left t from (scoreRun_succ (Bool.eq_false_iff.2 entry)).trans (if_pos on)]
    exact ih (keeps.scoreStep_keeps _ held)
  | case6 left s e entry t off =>
    rw [show scoreRun (left + 1) s = t from (scoreRun_succ (Bool.eq_false_iff.2 entry)).trans (if_neg off)]
    exact keeps.scoreStep_keeps _ held

theorem takeStep_keeps (held : P s) : P (takeStep s) := by
  have performed : P (performTake (takeAt s s.pbe.cursor) s.pbe.cursor s) := by
    unfold performTake
    split
    · exact keeps.reads (by simp) held
    · exact keeps.reads (by simp) held
    · exact keeps.performPedal_keeps _ _ held
    · exact held
  unfold takeStep
  dsimp only
  split
  · exact keeps.stopSteps_keeps _ (keeps.reads (by simp) performed)
  · exact keeps.reads (by simp) performed

theorem takeRun_keeps (places : Nat) (held : P s) : P (takeRun places s) := by
  induction places generalizing s with
  | zero => exact held
  | succ places ih =>
    rw [takeRun]
    split
    · exact ih (keeps.takeStep_keeps held)
    · exact keeps.takeStep_keeps held

theorem performRun_keeps (held : P s) : P (performRun s) := by
  have ends : ∀ t, P t → P (endGroup t) := fun _ before => keeps.reads (by simp) before
  unfold performRun
  split
  · exact ends _ (keeps.scoreRun_keeps _ held)
  · exact ends _ (keeps.takeRun_keeps _ held)

theorem playUnit_keeps (held : P s) : P (playUnit s) := by
  have counted : P (countDown s) := keeps.reads (by simp) held
  unfold playUnit
  dsimp only
  split
  · exact keeps.performRun_keeps counted
  · exact counted

theorem playbackSweep_keeps (held : P s) : P (playbackSweep s) := by
  unfold playbackSweep
  split
  · exact keeps.playUnit_keeps held
  · split
    · exact keeps.playUnit_keeps (keeps.reads (by simp) held)
    · exact keeps.reads (by simp) held
  · exact held
  · exact held
  · exact held

theorem afterPlacing_keeps (held : P s) : P (afterPlacing s) := by
  unfold afterPlacing
  (repeat' split)
  · exact keeps.scoreFault_keeps _ _ held
  · exact held
  · exact keeps.stopSteps_keeps _ held
  · exact held

/-! ### Sweeps -/

theorem linkChoose_keeps (held : P s) : P (linkChoose s) := keeps.reads (by simp) held

/-- R2: each sample is an event of its own. -/
theorem takeSamples_keeps (samples : List (Channel × Raw)) (held : P s) : P (takeSamples samples s) :=
  foldl_invariant P _ (fun _ x before => keeps.linkChoose_keeps (keeps.convert_keeps x.1 x.2 before)) _ _ held

/-- R159, R178: the sweep events of TKR and PRM. -/
theorem laterSweeps_keeps (held : P s) : P (practiceSweep (recorderSweep s)) := keeps.reads (by simp) held

theorem beforePlayback_keeps (held : P s) : P (beforePlayback s) := by
  have begins (later : List (List (Channel × Raw))) : P (beginSweep { s with early := later }) :=
    keeps.reads (by simp) held
  unfold beforePlayback
  split
  · exact keeps.reads (by simp) held
  · dsimp only
    split
    · exact begins _
    · exact keeps.takeSamples_keeps _ (keeps.linkChoose_keeps (keeps.laterSweeps_keeps (begins _)))

theorem startSweep_keeps (held : P s) : P (startSweep s) := by
  have played : P (playbackSweep (beforePlayback s)) := keeps.playbackSweep_keeps (keeps.beforePlayback_keeps held)
  unfold startSweep
  dsimp only
  split
  · exact played
  · exact keeps.laterSweeps_keeps played

/-! ### The owners of the commands -/

/-- An owner whose answers leave the PARAM entries and the pedal records. -/
theorem owner_of_same {own : State → Answer}
    (same : ∀ s, (own s).st.par = s.par ∧ (own s).st.ptr.pedals = s.ptr.pedals) : OwnerKeeps P own :=
  fun s held => keeps.reads (same s) held

theorem ownCalWrite_keeps (records : List CalArgs) : OwnerKeeps P (ownCalWrite records) := fun s held => by
  unfold ownCalWrite
  (repeat' split)
  · exact held
  · exact held
  · refine takeRecords_keeps (fun a w before => ?_) _ held
    unfold takeCal
    (repeat' split)
    · exact before
    · exact keeps.reads (by simp [WriteResult.taken]) before
    · exact before

theorem takePcal_keeps (a : PcalArgs) (w : WriteResult) (held : P w.st) : P (takePcal a w).st := by
  unfold takePcal
  dsimp only
  (repeat' split)
  · exact keeps.emptyGroup_keeps _ (keeps.regroup ⟨rfl, rfl, rfl⟩ held)
  · exact held
  · exact held
  · exact keeps.reads (by simp [WriteResult.taken, placeRailCal]) held
  · exact held

theorem ownPcalWrite_keeps (records : List PcalArgs) : OwnerKeeps P (ownPcalWrite records) := fun s held => by
  unfold ownPcalWrite
  (repeat' split)
  · exact held
  · exact held
  · exact takeRecords_keeps keeps.takePcal_keeps _ held

theorem ownParamWrite_keeps (entries : List ParamArgs) : OwnerKeeps P (ownParamWrite entries) := fun s held => by
  unfold ownParamWrite
  (repeat' split)
  · exact held
  · exact held
  · exact takeRecords_keeps keeps.param _ held

theorem ownCurveWrite_keeps (curve first : Byte) (points : List Byte) :
    OwnerKeeps P (ownCurveWrite curve first points) := keeps.owner_of_same fun s => by
  unfold ownCurveWrite
  dsimp only
  (repeat' split) <;> exact ⟨rfl, rfl⟩

theorem ownLoudWrite_keeps (first : Byte) (gains : List Half) : OwnerKeeps P (ownLoudWrite first gains) :=
  keeps.owner_of_same fun s => by
    unfold ownLoudWrite
    dsimp only
    (repeat' split) <;> exact ⟨rfl, rfl⟩

theorem ownClickWrite_keeps (sound first : Byte) (samples : List Half) :
    OwnerKeeps P (ownClickWrite sound first samples) := keeps.owner_of_same fun s => by
  have stores (snd : Sound) : (storeClick snd first.toNat samples s).par = s.par ∧
      (storeClick snd first.toNat samples s).ptr = s.ptr := by cases snd <;> exact ⟨rfl, rfl⟩
  unfold ownClickWrite
  (repeat' split) <;> simp [answerRefused, WriteResult.answer, WriteResult.taken, stores]

theorem ownTableWriteFrame_keeps (payload : List Byte) : OwnerKeeps P (ownTableWriteFrame payload) := fun s held => by
  unfold ownTableWriteFrame
  split
  · exact held
  · split
    · exact OwnerKeeps.withRecords keeps.ownCalWrite_keeps _ s held
    · exact OwnerKeeps.withRecords keeps.ownPcalWrite_keeps _ s held
    · exact keeps.ownCurveWrite_keeps _ _ _ s held
    · exact OwnerKeeps.withRecords keeps.ownParamWrite_keeps _ s held
    · exact OwnerKeeps.withRecords (keeps.ownLoudWrite_keeps _) _ s held
    · exact OwnerKeeps.withRecords (keeps.ownClickWrite_keeps _ _) _ s held
    · exact held

theorem ownRail_keeps (target : Byte) : OwnerKeeps P (ownRail target) := keeps.owner_of_same fun s => by
  unfold ownRail
  (repeat' split) <;> simp [answerOk, answerRefused]

theorem ownScoreWrite_keeps (start : Half) (entries : List Entry) : OwnerKeeps P (ownScoreWrite start entries) :=
  keeps.owner_of_same fun s => by
    unfold ownScoreWrite
    (repeat' split) <;> simp [answerOk, answerRefused]

/-- R150 step 7, R154: TKR receives the place. -/
theorem tellRecorder_keeps (held : P s) : P (tellRecorder s) := by
  unfold tellRecorder
  split
  · exact keeps.reads (by simp) held
  · exact held

theorem ownPlay_keeps (source mark : Byte) : OwnerKeeps P (ownPlay source mark) := fun s held => by
  have placed (src : Source) (place : Nat) :
      P (placeCursor place (fixWindow src (practicePlay (s.modPbe (playItems src))))) := by
    cases src <;> exact keeps.reads (by simp [fixWindow]) held
  have plays (src : Source) (place : Nat) : P (playFrom src place s) :=
    keeps.afterPlacing_keeps (keeps.tellRecorder_keeps
      (keeps.playReport_keeps _ (keeps.reads (by simp) (placed src place))))
  unfold ownPlay
  (repeat' split)
  · exact held
  · exact held
  · exact held
  · exact held
  · exact plays _ _

theorem ownStop_keeps : OwnerKeeps P ownStop := fun s held => by
  unfold ownStop
  split
  · exact held
  · exact keeps.stopSteps_keeps _ held

theorem ownPause_keeps : OwnerKeeps P ownPause := fun s held => by
  have pauses (saved : SavedState) : P (pauseFrom saved s) := by
    have cleared := keeps.clearPlayback_keeps (s := s.modPbe fun b => { b with state := .paused, saved := some saved })
      (keeps.reads (by simp) held)
    exact keeps.playReport_keeps _ (keeps.reads (by simp) cleared)
  unfold ownPause
  split
  · exact held
  · exact held
  · exact pauses _
  · exact pauses _

theorem ownResume_keeps : OwnerKeeps P ownResume := keeps.owner_of_same fun s => by
  unfold ownResume
  split <;> simp [answerOk, answerRefused, resumeSteps]

theorem ownLocate_keeps (mark : Byte) : OwnerKeeps P (ownLocate mark) := fun s held => by
  have locates (place : Nat) : P (locateAt place s) :=
    keeps.afterPlacing_keeps (keeps.tellRecorder_keeps (keeps.playReport_keeps _ (keeps.reads (by simp) held)))
  unfold ownLocate
  (repeat' split)
  · exact held
  · exact held
  · exact locates _

theorem ownArm_keeps (mode : Byte) : OwnerKeeps P (ownArm mode) := keeps.owner_of_same fun s => by
  unfold ownArm armRecorder
  (repeat' split) <;> simp [armAnswer, answerOk, answerRefused]

theorem ownStopCapture_keeps : OwnerKeeps P ownStopCapture := keeps.owner_of_same fun s => by
  unfold ownStopCapture answerOk
  dsimp only
  split <;> simp

theorem ownCaptureClear_keeps : OwnerKeeps P ownCaptureClear := keeps.owner_of_same fun s => by
  unfold ownCaptureClear
  split <;> simp [answerOk, answerRefused]

theorem ownVoicePass_keeps (bytes : List Byte) : OwnerKeeps P (ownVoicePass bytes) := keeps.owner_of_same fun s => by
  unfold ownVoicePass
  (repeat' split) <;> simp [answerOk, answerRefused]

theorem ownDampAll_keeps : OwnerKeeps P ownDampAll := keeps.owner_of_same fun s => by simp [ownDampAll, answerOk]

theorem ownWatch_keeps (channel : Byte) (count : Half) : OwnerKeeps P (ownWatch channel count) :=
  keeps.owner_of_same fun s => by
    unfold ownWatch
    (repeat' split) <;> simp [answerOk, answerRefused, openWatch]

theorem ownClearFlags_keeps : OwnerKeeps P ownClearFlags := keeps.owner_of_same fun s => by
  simp [ownClearFlags, answerOk, clearAllFlags]

theorem ownResetPractice_keeps : OwnerKeeps P ownResetPractice := fun s held =>
  keeps.reads (by simp [ownResetPractice, answerOk, resetMonitor, resetPlayback]) (keeps.stopSteps_keeps .reset held)

theorem ownResetVoices_keeps : OwnerKeeps P ownResetVoices := keeps.owner_of_same fun s => by
  simp [ownResetVoices, answerOk]

theorem ownReset_keeps (scope : Byte) : OwnerKeeps P (ownReset scope) := fun s held => by
  unfold ownReset
  (repeat' split)
  · exact keeps.ownResetPractice_keeps s held
  · exact keeps.ownResetVoices_keeps s held
  · exact held

theorem ownerOf_keeps (kind : Byte) (payload : List Byte) : OwnerKeeps P (ownerOf kind payload) := by
  unfold ownerOf
  split
  · exact .formNone payload (.of_st fun _ => rfl)
  · exact keeps.ownTableWriteFrame_keeps payload
  · exact .of_st (ownTableReadFrame_st payload)
  · exact .formByte payload keeps.ownRail_keeps
  · exact .formScoreWrite payload keeps.ownScoreWrite_keeps
  · exact .formTwoHalves payload fun a b => .of_st (ownScoreRead_st · a b)
  · exact .formTwoBytes payload keeps.ownPlay_keeps
  · exact .formNone payload keeps.ownStop_keeps
  · exact .formNone payload keeps.ownPause_keeps
  · exact .formNone payload keeps.ownResume_keeps
  · exact .formByte payload keeps.ownLocate_keeps
  · exact .formByte payload keeps.ownArm_keeps
  · exact .formNone payload keeps.ownStopCapture_keeps
  · exact .formTwoHalves payload fun a b => .of_st (ownCaptureRead_st · a b)
  · exact .formNone payload keeps.ownCaptureClear_keeps
  · exact keeps.ownVoicePass_keeps payload
  · exact .formNone payload keeps.ownDampAll_keeps
  · exact .formByteHalf payload keeps.ownWatch_keeps
  · exact .formNone payload (.of_st fun _ => rfl)
  · exact .formNone payload keeps.ownClearFlags_keeps
  · exact .formByte payload keeps.ownReset_keeps

/-! ### Frames and resets -/

theorem acceptCommand_keeps {own : State → Answer} (owner : OwnerKeeps P own) (kind : Byte) (held : P s) :
    P (acceptCommand kind own s) := by
  unfold acceptCommand
  split
  · exact keeps.reads (s := (own s).st) ⟨rfl, rfl⟩ (owner s held)
  · exact keeps.reads (s := s) ⟨rfl, rfl⟩ held

/-- R60, R196: a DEVICE RESET leaves the PARAM defaults and PTR's reset table. -/
theorem deviceReset_keeps (s : State) : P (deviceReset s) :=
  keeps.reads (by simp [deviceReset, deviceResetFrom]) keeps.powerOn

theorem takeCommand_keeps (kind : Byte) (payload : List Byte) (held : P s) : P (takeCommand kind payload s) := by
  unfold takeCommand
  split
  · exact keeps.deviceReset_keeps s
  · exact keeps.acceptCommand_keeps (keeps.ownerOf_keeps kind payload) kind held

theorem takeByte_keeps (b : Byte) (held : P s) : P (takeByte b s) := by
  have links (f : Lnk → Lnk) : P (s.modLnk f) := keeps.reads (s := s) ⟨rfl, rfl⟩ held
  unfold takeByte checkFrame
  cases s.lnk.rx with
  | hunt =>
    dsimp only
    split
    · exact links _
    · exact held
  | kind => exact links _
  | length k => dsimp only; (repeat' split) <;> exact links _
  | body k len got => dsimp only; split <;> exact links _
  | check k payload =>
    dsimp only
    split
    · exact keeps.takeCommand_keeps k payload (links _)
    · exact links _

theorem receiveByte_keeps (b : Byte) (framingError : Bool) (held : P s) : P (receiveByte b framingError s) := by
  unfold receiveByte takeBadByte
  (repeat' split)
  · exact held
  · exact keeps.reads (s := s) ⟨rfl, rfl⟩ held
  · exact keeps.takeByte_keeps b held

/-! ### Every event -/

/-- An event of a running part: its effect, then the link transmitter's choice, which reads and leaves neither. -/
theorem of_effect {effect : State → State} (effective : ∀ s, P s → P (effect s)) : EventKeeps P (partEvent effect) :=
  fun s t held next => by
    simp only [partEvent, Host.Outcome.next.injEq] at next
    subst next
    split
    · exact held
    · exact keeps.linkChoose_keeps (effective s held)

/-- An event that leaves the PARAM entries and the pedal records. -/
theorem of_same {effect : State → State} (same : ∀ s, (effect s).par = s.par ∧ (effect s).ptr.pedals = s.ptr.pedals) :
    EventKeeps P (partEvent effect) := keeps.of_effect fun s held => keeps.reads (same s) held

/-- R189: a command keeps the property when its owner does: the reply and the dropped count are the link's. -/
theorem of_owner {own : State → Answer} (owner : OwnerKeeps P own) (kind : Byte) :
    EventKeeps P (partEvent (acceptCommand kind own)) :=
  keeps.of_effect fun _ held => keeps.acceptCommand_keeps owner kind held

/-- An event named for what comes about in a larger one keeps what the larger one keeps. -/
theorem of_onlyWhen {effect : State → State} (effective : ∀ s, P s → P (effect s)) (due : State → Bool) :
    EventKeeps P (partEvent (onlyWhen due effect)) :=
  keeps.of_effect fun s held => by
    unfold onlyWhen
    split
    · exact effective s held
    · exact held

theorem exec_keeps (i : Instr) : EventKeeps P (exec i) := by
  have convert (c : Channel) (r : Raw) (s : State) (held : P s) : P (convert c r s) := keeps.convert_keeps c r held
  have sweep (s : State) (held : P s) : P (startSweep s) := keeps.startSweep_keeps held
  have period (f : AudioFrame) (s : State) (held : P s) : P (samplePeriod f s) := keeps.reads (by simp) held
  cases i with
  | powerOnReset => rintro s t - ⟨⟩; exact keeps.reads (s := State.powerOn) ⟨rfl, rfl⟩ keeps.powerOn
  | deviceReset => exact keeps.of_effect fun s _ => keeps.deviceReset_keeps s
  | resetPractice => exact keeps.of_owner keeps.ownResetPractice_keeps _
  | resetVoices => exact keeps.of_owner keeps.ownResetVoices_keeps _
  | ping => exact keeps.of_owner (.of_st fun _ => rfl) _
  | tableRead code sel first count => exact keeps.of_owner (.of_st (ownTableRead_st · code sel first count)) _
  | calWrite records => exact keeps.of_owner (keeps.ownCalWrite_keeps records) _
  | pcalWrite records => exact keeps.of_owner (keeps.ownPcalWrite_keeps records) _
  | curveWrite curve first points => exact keeps.of_owner (keeps.ownCurveWrite_keeps curve first points) _
  | loudWrite first gains => exact keeps.of_owner (keeps.ownLoudWrite_keeps first gains) _
  | clickWrite sound first samples => exact keeps.of_owner (keeps.ownClickWrite_keeps sound first samples) _
  | paramWrite entries => exact keeps.of_owner (keeps.ownParamWrite_keeps entries) _
  | warmupWrite value => exact keeps.of_owner (keeps.ownParamWrite_keeps _) _
  | pedalAccumWrite value => exact keeps.of_owner (keeps.ownParamWrite_keeps _) _
  | holdOnWrite value => exact keeps.of_owner (keeps.ownParamWrite_keeps _) _
  | holdOffWrite value => exact keeps.of_owner (keeps.ownParamWrite_keeps _) _
  | practiceModeWrite value => exact keeps.of_owner (keeps.ownParamWrite_keeps _) _
  | partMaskWrite value => exact keeps.of_owner (keeps.ownParamWrite_keeps _) _
  | takeSizeWrite value => exact keeps.of_owner (keeps.ownParamWrite_keeps _) _
  | rail target => exact keeps.of_owner (keeps.ownRail_keeps target) _
  | scoreWrite start entries => exact keeps.of_owner (keeps.ownScoreWrite_keeps start entries) _
  | scoreRead start count => exact keeps.of_owner (.of_st (ownScoreRead_st · start count)) _
  | play source mark => exact keeps.of_owner (keeps.ownPlay_keeps source mark) _
  | stop => exact keeps.of_owner keeps.ownStop_keeps _
  | pause => exact keeps.of_owner keeps.ownPause_keeps _
  | resume => exact keeps.of_owner keeps.ownResume_keeps _
  | locate mark => exact keeps.of_owner (keeps.ownLocate_keeps mark) _
  | arm mode => exact keeps.of_owner (keeps.ownArm_keeps mode) _
  | stopCapture => exact keeps.of_owner keeps.ownStopCapture_keeps _
  | captureRead offset count => exact keeps.of_owner (.of_st (ownCaptureRead_st · offset count)) _
  | captureClear => exact keeps.of_owner keeps.ownCaptureClear_keeps _
  | voicePass bytes => exact keeps.of_owner (keeps.ownVoicePass_keeps bytes) _
  | dampAll => exact keeps.of_owner keeps.ownDampAll_keeps _
  | watch channel count => exact keeps.of_owner (keeps.ownWatch_keeps channel count) _
  | status => exact keeps.of_owner (.of_st fun _ => rfl) _
  | clearFlags => exact keeps.of_owner keeps.ownClearFlags_keeps _
  | sweep => exact keeps.of_effect sweep
  | conversion c r => exact keeps.of_effect (convert c r)
  | warmupEnd => exact keeps.of_onlyWhen sweep _
  | channelFault c r => exact keeps.of_onlyWhen (convert c r) _
  | channelRecovery c r => exact keeps.of_onlyWhen (convert c r) _
  | gateExpiry k => exact keeps.of_same fun s => by simp
  | strikeAgeExpiry => exact keeps.of_same fun s => by simp
  | pedalGroupComplete p r => exact keeps.of_onlyWhen (convert (.pedal p) r) _
  | railWaitExpiry => exact keeps.of_same fun s => by simp
  | railMoveExpiry => exact keeps.of_same fun s => by simp
  | railDriftHalt r => exact keeps.of_onlyWhen (convert .rail r) _
  | outputSamplePeriod f => exact keeps.of_effect (period f)
  | jackAdoption f => exact keeps.of_onlyWhen (period f) _
  | clickEnd f => exact keeps.of_onlyWhen (period f) _
  | pulse => exact keeps.of_onlyWhen sweep _
  | run => exact keeps.of_onlyWhen sweep _
  | deadlineExpiry => exact keeps.of_onlyWhen sweep _
  | waitTimerExpiry => exact keeps.of_onlyWhen sweep _
  | staleStrikeAged => exact keeps.of_onlyWhen sweep _
  | takeGap => exact keeps.of_onlyWhen sweep _
  | voiceFrameCompletion => exact keeps.of_same fun s => by simp
  | holdInChange high =>
    exact fun s t held =>
      keeps.of_same (effect := voiceChoose) (fun s => by simp) _ t (keeps.reads (s := s) ⟨rfl, rfl⟩ held)
  | byteReceived b framingError => exact keeps.of_effect fun _ held => keeps.receiveByte_keeps b framingError held
  | interByteTimeout => exact keeps.of_same fun s => by simp
  | linkFrameCompletion => exact keeps.of_same fun s => ⟨rfl, rfl⟩
  | resetNRelease =>
    rintro s t held ⟨⟩
    unfold releaseReset
    split
    · exact keeps.reads (by simp) held
    · exact held

/-- Every step keeps a property of the PARAM entries and the pedal records that the operations on them keep. -/
theorem step_keeps {t : State} (held : P s) (next : step s = .next t) : P t := by
  unfold step at next
  split at next
  · cases next
    exact held
  · exact keeps.exec_keeps _ _ _ (keeps.reads (s := s) (by exact ⟨rfl, rfl⟩) held) next

end PedalProperty

/-! ### HOLD_OFF below HOLD_ON (R57) -/

theorem paramSet_thresholds {i : Nat} (on : i ≠ 9) (off : i ≠ 10) (v : Nat) (p : Params) :
    (paramSet i v p).holdOn = p.holdOn ∧ (paramSet i v p).holdOff = p.holdOff := by
  unfold paramSet
  split
  case h_10 => exact absurd rfl on
  case h_11 => exact absurd rfl off
  all_goals exact ⟨rfl, rfl⟩

/-- R57: a HOLD_ON write brings HOLD_OFF below it, wherever HOLD_OFF stood. -/
theorem takeHoldOn_keepsThresholds (v : Nat) (w : WriteResult) : KeepsThresholds (takeHoldOn v w).st := by
  have on := le_clamp 1 127 v
  simp only [KeepsThresholds, takeHoldOn, WriteResult.taken, testThresholds, testLatch_frame, testHold_frame,
    State.modPar_par]
  split
  · omega
  · next above => simpa using above

/-- R57: a HOLD_OFF write is kept below a HOLD_ON that leaves room below it. -/
theorem takeHoldOff_keepsThresholds (v : Nat) {w : WriteResult} (below : KeepsThresholds w.st) :
    KeepsThresholds (takeHoldOff v w).st := by
  have below' : w.st.par.holdOff < w.st.par.holdOn := below
  simp only [KeepsThresholds, takeHoldOff, WriteResult.taken, testThresholds, testLatch_frame, testHold_frame,
    State.modPar_par]
  omega

theorem storeParam_keepsThresholds {i : Nat} (on : i ≠ 9) (off : i ≠ 10) (v : Nat) {s : State}
    (below : KeepsThresholds s) : KeepsThresholds (storeParam i v s) := by
  simpa [KeepsThresholds, storeParam, paramSet_thresholds on off] using below

theorem takeParam_keepsThresholds (a : ParamArgs) (w : WriteResult) (below : KeepsThresholds w.st) :
    KeepsThresholds (takeParam a w).st := by
  have stores {i : Nat} (on : i ≠ 9) (off : i ≠ 10) (v : Nat) := storeParam_keepsThresholds on off v below
  unfold takeParam
  dsimp only
  split
  · simpa [takePedalAccum, WriteResult.taken] using stores (i := 7) (by decide) (by decide) _
  · exact takeHoldOn_keepsThresholds _ w
  · exact takeHoldOff_keepsThresholds _ below
  · simpa [takePracticeMode, WriteResult.taken] using stores (i := 24) (by decide) (by decide) _
  · simpa [takePartMask, WriteResult.taken] using stores (i := 25) (by decide) (by decide) _
  · unfold takeTakeSize
    split
    · simpa [WriteResult.taken, moveBoundary] using below
    · exact below
  · next on off _ _ _ => exact stores on off _

theorem pedalProperty_thresholds : PedalProperty KeepsThresholds where
  reads same below := by simpa only [KeepsThresholds, same.1] using below
  powerOn := by decide
  param := takeParam_keepsThresholds
  regroup _ below := by simpa using below
  adopt p level fault _ below := by simpa using below
  playback p level _ below := by simpa using below

/-- Settles O54: only a PARAM write and a reset reach the thresholds, and each leaves HOLD_OFF below HOLD_ON. -/
theorem stepKeepsThresholds : Obligations.StepKeepsThresholds :=
  fun _ _ => pedalProperty_thresholds.step_keeps

/-! ### The effective levels (R55) -/

theorem setPedalRec_keepsLevels {p : Pedal} {r : PedalRecord} {s : State}
    (greater : r.effective = max r.player r.playback) (levels : KeepsLevels s) : KeepsLevels (setPedalRec p r s) :=
  fun q => by
    by_cases same : q = p
    · rw [same, pedalRec_setPedalRec_self, greater]
    · rw [pedalRec_setPedalRec_ne same, levels q]

/-- R55: the recomputation of one pedal's level leaves the others' records. -/
theorem recomputeEffective_pedalRec_ne {p q : Pedal} (other : q ≠ p) (s : State) :
    (recomputeEffective p s).pedalRec q = s.pedalRec q := by
  have voiced : ∀ (level : Nat) (t : State), (voicePedal p level t).pedalRec q = t.pedalRec q := fun _ _ => by
    simp [State.pedalRec]
  unfold recomputeEffective
  dsimp only
  split
  · rfl
  · rw [testPedal_pedalRec, voiced, pedalRec_setPedalRec_ne other]

/-- R55: the recomputation needs the other pedals' levels alone: its own pedal's it restores. -/
theorem recomputeEffective_keepsLevels {p : Pedal} {s : State}
    (others : ∀ q, q ≠ p → (s.pedalRec q).effective = max (s.pedalRec q).player (s.pedalRec q).playback) :
    KeepsLevels (recomputeEffective p s) := fun q => by
  by_cases same : q = p
  · rw [same, recomputeEffective_pedalRec]
  · rw [recomputeEffective_pedalRec_ne same, others q same]

theorem adoptPlayer_keepsLevels (p : Pedal) (level : Nat) (fault : Bool) {s : State} (levels : KeepsLevels s) :
    KeepsLevels (adoptPlayer p level fault s) :=
  recomputeEffective_keepsLevels fun q other => by
    rw [playerEvent_pedalRec, pedalRec_handReport, pedalRec_setPedalRec_ne other, levels q]

theorem playbackLevel_keepsLevels (p : Pedal) (level : Nat) {s : State} (levels : KeepsLevels s) :
    KeepsLevels (playbackLevel p level s) :=
  recomputeEffective_keepsLevels fun q other => by rw [pedalRec_setPedalRec_ne other, levels q]

theorem emptyGroup_keepsLevels (p : Pedal) {s : State} (levels : KeepsLevels s) : KeepsLevels (emptyGroup p s) :=
  setPedalRec_keepsLevels (levels p) levels

/-- R56, R58: the tests of HOLD and of the latch leave the pedal records. -/
theorem testThresholds_keepsLevels {s : State} (levels : KeepsLevels s) : KeepsLevels (testThresholds s) := fun p => by
  have tested : (testThresholds s).pedalRec p = s.pedalRec p :=
    (testPedal_pedalRec .sost p (testHold s)).trans (testPedal_pedalRec .damp p s)
  rw [tested, levels p]

theorem takeParam_keepsLevels (a : ParamArgs) (w : WriteResult) (levels : KeepsLevels w.st) :
    KeepsLevels (takeParam a w).st := by
  have same {t : State} (ptr : t.ptr = w.st.ptr) : KeepsLevels t := fun p => by
    rw [State.pedalRec, ptr]
    exact levels p
  unfold takeParam
  dsimp only
  split
  · exact emptyGroup_keepsLevels _ (emptyGroup_keepsLevels _ (emptyGroup_keepsLevels _ (same rfl)))
  · exact testThresholds_keepsLevels (same rfl)
  · exact testThresholds_keepsLevels (same rfl)
  · exact same (by simp [takePracticeMode, WriteResult.taken, storeParam])
  · exact same (by simp [takePartMask, WriteResult.taken, storeParam])
  · unfold takeTakeSize
    split
    · exact same (by simp [WriteResult.taken, moveBoundary])
    · exact levels
  · exact same rfl

theorem pedalProperty_levels : PedalProperty KeepsLevels where
  reads same levels p := by
    rw [State.pedalRec, same.2]
    exact levels p
  powerOn p := by rw [powerOn_pedalRec]; rfl
  param := takeParam_keepsLevels
  regroup same levels := by
    obtain ⟨player, playback, effective⟩ := same
    exact setPedalRec_keepsLevels (by rw [player, playback, effective, levels _]) levels
  adopt p level fault _ levels := adoptPlayer_keepsLevels p level fault levels
  playback p level _ levels := playbackLevel_keepsLevels p level levels

/-- Settles O56: each change of a player or a playback level ends in the recomputation of its pedal's effective level,
and nothing else touches the three levels. -/
theorem stepKeepsLevels : Obligations.StepKeepsLevels := fun _ _ => pedalProperty_levels.step_keeps


end Sys2Proof.Machine

namespace Sys2Proof.Machine

/-! ## TABLE WRITE of PARAM entries of PTR (R49, R57, R191) -/

/-- R191: a TABLE WRITE of one PARAM entry, taken with its clamps. -/
theorem paramWrite_taken {s t : State} (takes : s.Takes) {a : ParamArgs} {clamped : Nat} (inside : a.index.toNat < 33)
    (taken : takenAlone takeParam a s = ⟨t, 1, clamped, 0, false⟩) :
    partEvent (acceptCommand kindTableWrite (ownParamWrite [a])) s =
      .next (linkChoose (repliedCounts .ok 1 clamped 0 t)) := by
  have answers : ownParamWrite [a] s = (takenAlone takeParam a s).answer := by
    simp [ownParamWrite, badRun, paramCount, inside.not_ge, takeRecords, takenAlone]
  rw [tableWrite_inTurn takes answers, taken]
  rfl

/-- Settles O13: one PARAM entry, whose clamp has no lower end, and the groups of the three pedals. -/
theorem pedalAccumWriteEmptiesGroups : Obligations.PedalAccumWriteEmptiesGroups := by
  intro v s takes
  refine paramWrite_taken takes (by decide : (7 : Byte).toNat < 33) ?_
  have stored : clamp 0 7 v.toNat = min 7 v.toNat := Nat.zero_max _
  have clamped : clampCount 0 7 v.toNat = if v.toNat ≤ 7 then 0 else 1 := by
    simp [clampCount_eq, outside]
  show takePedalAccum v.toNat ⟨s, 0, 0, 0, false⟩ = _
  rw [takePedalAccum, stored, clamped]
  simp only [WriteResult.taken, Nat.zero_add]
  rfl

/-! ### The tests of HOLD and of the latch (R56, R58, R59, R73) -/

section
variable {s : State}

theorem testHold_begins (off : s.ptr.hold = false) (reached : s.par.holdOn ≤ s.ptr.pedals.damp.effective) :
    testHold s = { s with ptr := { s.ptr with hold := true } } := by
  simp [testHold, State.pedalRec, PerPedal.get, off, reached, State.modPtr]

theorem testHold_ends (on : s.ptr.hold = true) (below : s.ptr.pedals.damp.effective < s.par.holdOff) :
    testHold s = releaseEvals (allKeys.filter fun k => (s.sound k).sounding)
      { s with ptr := { s.ptr with hold := false } } := by
  simp only [testHold, State.pedalRec, PerPedal.get, on, below, Bool.not_true, Bool.false_and, Bool.true_and,
    decide_true, Bool.false_eq_true, if_false, if_true]
  rfl

theorem testHold_stays (between : s.ptr.hold = false ∧ s.ptr.pedals.damp.effective < s.par.holdOn ∨
    s.ptr.hold = true ∧ s.par.holdOff ≤ s.ptr.pedals.damp.effective) : testHold s = s := by
  rcases between with ⟨off, below⟩ | ⟨on, above⟩
  · simp [testHold, State.pedalRec, PerPedal.get, off, below.not_ge]
  · simp [testHold, State.pedalRec, PerPedal.get, on, above.not_gt]

theorem testLatch_begins (off : s.ptr.latch = none) (reached : s.par.holdOn ≤ s.ptr.pedals.sost.effective) :
    testLatch s = { s with ptr := { s.ptr with
      latch := some (allKeys.filter fun k => (s.sound k).playerHolder || (s.sound k).playbackHolder) } } := by
  simp [testLatch, State.pedalRec, PerPedal.get, off, reached, State.modPtr, holderKeys]

theorem testLatch_ends {ks : List Key} (on : s.ptr.latch = some ks)
    (below : s.ptr.pedals.sost.effective < s.par.holdOff) :
    testLatch s = releaseEvals ks { s with ptr := { s.ptr with latch := none } } := by
  simp [testLatch, State.pedalRec, PerPedal.get, on, below, State.modPtr]

theorem testLatch_stays (between : s.ptr.latch = none ∧ s.ptr.pedals.sost.effective < s.par.holdOn ∨
    s.ptr.latch ≠ none ∧ s.par.holdOff ≤ s.ptr.pedals.sost.effective) : testLatch s = s := by
  rcases between with ⟨off, below⟩ | ⟨on, above⟩
  · simp [testLatch, State.pedalRec, PerPedal.get, off, below.not_ge]
  · obtain ⟨ks, on⟩ := Option.ne_none_iff_exists'.1 on
    simp [testLatch, State.pedalRec, PerPedal.get, on, above.not_gt]

end

/-- R56: the test of HOLD leaves the latch and the pedals. -/
theorem testHold_ptr (s : State) :
    (testHold s).ptr.latch = s.ptr.latch ∧ (testHold s).ptr.pedals = s.ptr.pedals ∧
      (testHold s).ptr.hold =
        if s.ptr.hold then decide (s.par.holdOff ≤ s.ptr.pedals.damp.effective)
        else decide (s.par.holdOn ≤ s.ptr.pedals.damp.effective) := by
  cases hold : s.ptr.hold with
  | false =>
    by_cases reached : s.par.holdOn ≤ s.ptr.pedals.damp.effective
    · simp [testHold_begins hold reached, reached]
    · simp [testHold_stays (.inl ⟨hold, Nat.lt_of_not_le reached⟩), reached, hold]
  | true =>
    by_cases above : s.par.holdOff ≤ s.ptr.pedals.damp.effective
    · simp [testHold_stays (.inr ⟨hold, above⟩), above, hold]
    · simp [testHold_ends hold (Nat.lt_of_not_le above), above]

/-- R58, R59: the test of the latch leaves HOLD and the pedals. -/
theorem testLatch_ptr (s : State) :
    (testLatch s).ptr.hold = s.ptr.hold ∧ (testLatch s).ptr.pedals = s.ptr.pedals ∧
      (testLatch s).ptr.latch.isSome =
        if s.ptr.latch.isSome then decide (s.par.holdOff ≤ s.ptr.pedals.sost.effective)
        else decide (s.par.holdOn ≤ s.ptr.pedals.sost.effective) := by
  cases latch : s.ptr.latch with
  | none =>
    by_cases reached : s.par.holdOn ≤ s.ptr.pedals.sost.effective
    · simp [testLatch_begins latch reached, reached]
    · simp [testLatch_stays (.inl ⟨latch, Nat.lt_of_not_le reached⟩), reached, latch]
  | some ks =>
    by_cases above : s.par.holdOff ≤ s.ptr.pedals.sost.effective
    · simp [testLatch_stays (.inr ⟨by simp [latch], above⟩), above, latch]
    · simp [testLatch_ends latch (Nat.lt_of_not_le above), above]

/-- R57: what the two tests leave once a write has stored the thresholds p. -/
theorem thresholdsTested (s : State) (p : Params) {t : State} (tested : t = testLatch (testHold { s with par := p })) :
    t.par = p ∧
    (t.ptr.hold =
      if s.ptr.hold then decide (t.par.holdOff ≤ s.ptr.pedals.damp.effective)
      else decide (t.par.holdOn ≤ s.ptr.pedals.damp.effective)) ∧
    (t.ptr.latch.isSome =
      if s.ptr.latch.isSome then decide (t.par.holdOff ≤ s.ptr.pedals.sost.effective)
      else decide (t.par.holdOn ≤ s.ptr.pedals.sost.effective)) ∧
    t.ptr.pedals = s.ptr.pedals ∧ t.scn = s.scn ∧ t.ktr = s.ktr ∧ t.rlc = s.rlc ∧ t.hpm = s.hpm ∧ t.mem = s.mem ∧
    t.pbe = s.pbe ∧ t.prm = s.prm ∧ t.tkr = s.tkr ∧ t.lnk = s.lnk ∧
    t = testLatch (testHold { s with par := t.par }) := by
  subst tested
  obtain ⟨heldLatch, heldPedals, hold⟩ := testHold_ptr { s with par := p }
  obtain ⟨keptHold, keptPedals, latch⟩ := testLatch_ptr (testHold { s with par := p })
  rw [keptHold, keptPedals, latch, heldLatch, heldPedals, hold]
  simp

/-- Settles O14: a threshold write is one PARAM entry, after which the two tests see the new thresholds. -/
theorem holdWritesTestAtOnce : Obligations.HoldWritesTestAtOnce := by
  refine ⟨fun v s takes => ?on, fun v s takes => ?off, fun s => ?hold, fun s => ?latch⟩
  case on =>
    refine ⟨_, ?_, thresholdsTested s _ rfl⟩
    refine paramWrite_taken takes (by decide : (9 : Byte).toNat < 33) ?_
    have clamped : clampCount 1 127 v.toNat = if 1 ≤ v.toNat ∧ v.toNat ≤ 127 then 0 else 1 :=
      clampCount_eq (by decide) _
    show takeHoldOn v.toNat ⟨s, 0, 0, 0, false⟩ = _
    simp only [takeHoldOn, WriteResult.taken, Nat.zero_add, clamped]
    rfl
  case off =>
    refine ⟨_, ?_, thresholdsTested s _ rfl⟩
    refine paramWrite_taken takes (by decide : (10 : Byte).toNat < 33) ?_
    have stored : clamp 0 126 v.toNat = min 126 v.toNat := Nat.zero_max _
    show takeHoldOff v.toNat ⟨s, 0, 0, 0, false⟩ = _
    simp only [takeHoldOff, WriteResult.taken, Nat.zero_add, stored]
    rfl
  case hold => exact ⟨testHold_begins, testHold_ends, testHold_stays⟩
  case latch => exact ⟨testLatch_begins, fun _ => testLatch_ends, testLatch_stays⟩

end Sys2Proof.Machine

namespace Sys2Proof.Machine

/-! ## The part right after reset (R17, R46, R60, R83, R100, R132, R156, R172, R184, R200) -/

/-- R83: no key sounds and none is owed anything. -/
theorem reset_sound (k : Key) : State.reset.sound k = SoundRecord.initial := powerOn_sound k

theorem reset_keepsParams : KeepsParams State.reset := by
  unfold KeepsParams
  decide

theorem reset_keepsPlayback : KeepsPlayback State.reset :=
  ⟨reset_keepsParams, by decide, by decide, by decide, fun flagged => absurd flagged (by decide), rfl⟩

theorem reset_keepsLevels : KeepsLevels State.reset :=
  pedalProperty_levels.reads (s := State.powerOn) ⟨rfl, rfl⟩ pedalProperty_levels.powerOn

theorem reset_keepsOwed : KeepsOwed State.reset := fun k sounding => by
  rw [reset_sound] at sounding
  exact absurd sounding (by decide)

/-- R83: the queue holds one frame of each pedal, and the rest of its room is free. -/
theorem reset_keepsVoiceLimits : KeepsVoiceLimits State.reset := by
  refine ⟨by decide, fun p => ?_, fun _ => ⟨fun p => ?_, fun k => ?_⟩⟩
  · cases p <;> decide
  · cases p <;> rfl
  · rw [reset_sound]
    rfl

theorem reset_keepsRing : KeepsRing State.reset := ⟨by decide, by decide, by decide⟩

/-- R156: PBE is STOPPED with nothing saved, so that the cursor names no entry. -/
theorem reset_keepsPlaces : KeepsPlaces State.reset :=
  ⟨fun _ => by decide, by decide, by decide, by decide, by decide, fun playing => absurd rfl playing⟩

/-- R172: the lists are empty and the timers stopped. -/
theorem reset_keepsPractice : KeepsPractice State.reset := by
  have idle (st : PlayState) (saved : SavedState) (plays : st ≠ .stopped) : ¬ PlaysIn State.reset st saved := by
    rintro (here | ⟨paused, -⟩)
    · exact plays here.symm
    · exact absurd paused (by decide)
  exact ⟨rfl, by decide, by decide, by decide, by decide, fun _ => rfl, by decide,
    fun waits => absurd waits (idle _ _ (by decide)), fun _ _ => rfl, fun timed => absurd rfl timed,
    by decide, by decide⟩

/-- Settles O51, invariant by invariant. -/
theorem resetHasEveryInvariant : Obligations.ResetHasEveryInvariant :=
  ⟨rfl, reset_keepsPlayback, (by decide : (48 : Nat) < 64), by decide, reset_keepsLevels, rfl, initial_countsGated,
    reset_keepsOwed, reset_keepsVoiceLimits, reset_keepsRing, reset_keepsPlaces, reset_keepsPractice⟩

end Sys2Proof.Machine

namespace Sys2Proof.Machine

/-! ## What a step keeps of the voice queue, the sounding table and the queues of LNK (R65, R74, R75, R189, R197) -/

/-! ### The voice transmitter and the held condition -/

/-- R62: what holds a key. -/
theorem held_iff (s : State) (k : Key) : held s k = true ↔
    (s.sound k).playerHolder = true ∨ (s.sound k).playbackHolder = true ∨ s.ptr.hold = true ∨
      ∃ ks, s.ptr.latch = some ks ∧ k ∈ ks := by
  cases latch : s.ptr.latch <;> simp [held, inLatchSet, latch, or_assoc]

/-- R62: the held condition reads the key's holders, HOLD and the latch set. -/
theorem held_congr {s t : State} {k : Key} (player : (t.sound k).playerHolder = (s.sound k).playerHolder)
    (playback : (t.sound k).playbackHolder = (s.sound k).playbackHolder) (hold : t.ptr.hold = s.ptr.hold)
    (latch : t.ptr.latch = s.ptr.latch) : held t k = held s k := by
  simp [held, inLatchSet, player, playback, hold, latch]

/-- A record replaced by one with the same holders. -/
theorem held_setSound {k : Key} {r : SoundRecord} {s : State} (player : r.playerHolder = (s.sound k).playerHolder)
    (playback : r.playbackHolder = (s.sound k).playbackHolder) (j : Key) :
    held (setSound k r s) j = held s j := by
  refine held_congr ?_ ?_ (by simp) (by simp)
  · exact setSound_playerHolder player j
  · by_cases same : j = k
    · rw [same, sound_setSound_self, playback]
    · rw [sound_setSound_ne same]

/-- A record replaced by one with no holder fewer. -/
theorem held_setSound_of_held {k : Key} {r : SoundRecord} {s : State}
    (player : (s.sound k).playerHolder = true → r.playerHolder = true)
    (playback : (s.sound k).playbackHolder = true → r.playbackHolder = true) {j : Key} (holds : held s j = true) :
    held (setSound k r s) j = true := by
  rw [held_iff] at holds ⊢
  by_cases same : j = k
  · subst same
    simpa using holds.imp player (Or.imp playback id)
  · simpa [sound_setSound_ne same] using holds

theorem held_setSound_ne {k j : Key} (other : j ≠ k) (r : SoundRecord) (s : State) :
    held (setSound k r s) j = held s j :=
  held_congr (by rw [sound_setSound_ne other]) (by rw [sound_setSound_ne other]) (by simp) (by simp)

@[simp] theorem setSound_queue (k : Key) (r : SoundRecord) (s : State) :
    (setSound k r s).vdp.queue = s.vdp.queue ∧ (setSound k r s).vdp.remembered = s.vdp.remembered ∧
    (setSound k r s).vdp.urgent = s.vdp.urgent ∧ (setSound k r s).vdp.inFlight = s.vdp.inFlight ∧
    (setSound k r s).vdp.dropCount = s.vdp.dropCount ∧ (setSound k r s).vdp.dropWaiting = s.vdp.dropWaiting ∧
    (setSound k r s).vdp.holdIn = s.vdp.holdIn := by
  simp [setSound]

@[simp] theorem modPtr_sound (f : Ptr → Ptr) (s : State) (k : Key) : (s.modPtr f).sound k = s.sound k := (rfl)

@[simp] theorem pushFrame_queue (f : VoiceFrame) (s : State) :
    (pushFrame f s).vdp.queue = s.vdp.queue ++ [f] ∧ (pushFrame f s).vdp.remembered = s.vdp.remembered ∧
    (pushFrame f s).vdp.table = s.vdp.table := by
  simp [pushFrame]

/-! ### The rules of the traffic on the two links -/

/-- What the invariants of VDP's queue and table and of LNK's queues read is the same in both states. -/
def SameTraffic (s t : State) : Prop :=
  t.vdp.table = s.vdp.table ∧ t.vdp.queue = s.vdp.queue ∧ t.vdp.remembered = s.vdp.remembered ∧
    t.ptr.hold = s.ptr.hold ∧ t.ptr.latch = s.ptr.latch ∧ t.lnk.replies = s.lnk.replies ∧
    t.lnk.classN = s.lnk.classN ∧ t.lnk.classP = s.lnk.classP ∧ t.lnk.classE = s.lnk.classE

/-- The same frames wait, and the same keys sound and are owed a NOTE-OFF: only what holds the keys differs. -/
def SameSounding (s t : State) : Prop :=
  t.vdp.queue = s.vdp.queue ∧ t.vdp.remembered = s.vdp.remembered ∧
    (∀ k, (t.sound k).sounding = (s.sound k).sounding ∧ (t.sound k).offPending = (s.sound k).offPending) ∧
    t.lnk = s.lnk

theorem sameSounding_setSound {k : Key} {r : SoundRecord} {s : State}
    (same : r.sounding = (s.sound k).sounding ∧ r.offPending = (s.sound k).offPending) :
    SameSounding s (setSound k r s) := by
  refine ⟨by simp, by simp, fun j => ?_, by simp⟩
  by_cases here : j = k
  · subst here
    simpa using same
  · rw [sound_setSound_ne here]
    exact ⟨rfl, rfl⟩

/-- What ALL DAMP and a reset leave: the three pedal frames, nothing remembered, no key sounding or owed. -/
def Damped (t : State) : Prop :=
  (∃ damp soft sost, t.vdp.queue = [.pedal .damp damp, .pedal .soft soft, .pedal .sost sost]) ∧
    t.vdp.remembered = ⟨none, none, none⟩ ∧
    ∀ k, (t.sound k).sounding = false ∧ (t.sound k).offPending = false

/-- R67, R65, R72, R76: the queue has the room that a frame of this kind asks for; a pedal has no frame in it yet. -/
def Fits (s : State) : VoiceFrame → Prop
  | .noteOn .. | .pass _ => s.vdp.queue.length < Config.voiceNoteLimit
  | .noteOff .. => s.vdp.queue.length < Config.voiceQueueSize
  | .pedal p _ => s.vdp.queue.length < Config.voiceQueueSize ∧ s.vdp.queue.any (isPedalFrame p) = false
  | .allDamp => False

/-- A property of VDP's queue and table and of LNK's queues that each thing VDP and LNK do to them keeps. `P ks s` says
that it holds of s but for the keys ks, whose release evaluation is still to come in the event; it holds of a whole event
as `P []` (`TrafficRules.step_keeps`). -/
structure TrafficRules (P : List Key → State → Prop) : Prop where
  reads {ks : List Key} {s t : State} : SameTraffic s t → P ks s → P ks t
  among {ks js : List Key} {s : State} : ks ⊆ js → P ks s → P js s
  /-- What holds the keys changes: the keys that it no longer holds are still to be evaluated. -/
  reholds {ks : List Key} {s t : State} : SameSounding s t →
    (∀ k, k ∉ ks → (s.sound k).sounding = true → held s k = true → held t k = true) → P [] s → P ks t
  /-- R67, R65: the record of a key that is still to be evaluated. -/
  record {ks : List Key} {k : Key} {r : SoundRecord} {s : State} : k ∈ ks →
    (r.offPending = true → (s.sound k).offPending = true) → P ks s → P ks (setSound k r s)
  /-- R65: the evaluation of a key that is silent, held or owed already. -/
  settled {ks : List Key} {k : Key} {s : State} :
    (s.sound k).sounding = false ∨ held s k = true ∨ (s.sound k).offPending = true → P (k :: ks) s → P ks s
  /-- R65: before a full queue the key joins the off-pending set. -/
  owe {ks : List Key} {k : Key} {s : State} : Config.voiceQueueSize ≤ s.vdp.queue.length → P (k :: ks) s →
    P ks (setSound k { s.sound k with offPending := true } s)
  push {ks : List Key} {f : VoiceFrame} {s : State} : Fits s f → P ks s → P ks (pushFrame f s)
  /-- R75, R77: the head frame departs, and the place it frees is refilled. -/
  depart {ks : List Key} {f : VoiceFrame} {rest : List VoiceFrame} {s : State} : s.vdp.queue = f :: rest → P ks s →
    P ks (refill (s.modVdp fun v => { v with queue := rest, inFlight := some f }))
  /-- R72: a level replaced in place. -/
  replace {ks : List Key} (p : Pedal) (level : Nat) {s : State} : P ks s →
    P ks (s.modVdp fun v => { v with queue := replacePedalFrame p level v.queue })
  /-- R72: a level remembered before a full queue. -/
  remember {ks : List Key} {p : Pedal} (level : Nat) {s : State} : s.vdp.queue.any (isPedalFrame p) = false →
    Config.voiceQueueSize ≤ s.vdp.queue.length → P ks s →
    P ks (s.modVdp fun v => { v with remembered := v.remembered.set p (some level) })
  damped {s t : State} : Damped t → t.lnk = s.lnk → P [] s → P [] t
  powerOn : P [] State.powerOn
  report {ks : List Key} (r : Report) {s : State} : P ks s → P ks (handReport r s)
  sends {ks : List Key} {s : State} : P ks s → P ks (linkChoose s)

namespace TrafficRules

variable {P : List Key → State → Prop} (rules : TrafficRules P) {s : State}
include rules

/-- An operation of another block. -/
theorem same {ks : List Key} {t : State} (same : t.vdp = s.vdp ∧ t.ptr = s.ptr ∧ t.lnk = s.lnk) (kept : P ks s) :
    P ks t := by
  obtain ⟨vdp, ptr, lnk⟩ := same
  exact rules.reads (by simp [SameTraffic, vdp, ptr, lnk]) kept

/-- VDP's other items: its transmitter, its drop count and the level of HOLD_IN. -/
theorem modVdp_keeps {ks : List Key} {f : Vdp → Vdp}
    (same : ∀ v, (f v).table = v.table ∧ (f v).queue = v.queue ∧ (f v).remembered = v.remembered) (kept : P ks s) :
    P ks (s.modVdp f) := rules.reads (by simp [SameTraffic, same]) kept

/-! ### VDP -/

theorem voiceChoose_keeps {ks : List Key} (kept : P ks s) : P ks (voiceChoose s) := by
  unfold voiceChoose
  split
  · exact kept
  · split
    · exact rules.modVdp_keeps (fun _ => ⟨rfl, rfl, rfl⟩) kept
    · split
      · exact kept
      · split
        · exact kept
        · next queue => exact rules.depart queue kept

theorem voiceEnqueue_keeps {ks : List Key} {f : VoiceFrame} (fits : Fits s f) (kept : P ks s) :
    P ks (voiceEnqueue f s) := rules.voiceChoose_keeps (rules.push fits kept)

/-- R65: after its evaluation a key needs none. -/
theorem releaseEval_keeps {ks : List Key} {k : Key} (kept : P (k :: ks) s) : P ks (releaseEval k s) := by
  unfold releaseEval
  dsimp only
  split
  · split
    · next owed => exact rules.settled (.inr (.inr owed)) kept
    · split
      · next room =>
        have silenced := rules.record (r := { s.sound k with sounding := false }) List.mem_cons_self id kept
        exact rules.voiceEnqueue_keeps (by simpa [Fits, noteOffFrame] using room)
          (rules.settled (.inl (by simp)) silenced)
      · next full => exact rules.owe (Nat.le_of_not_lt full) kept
  · next nothing =>
    refine rules.settled ?_ kept
    cases sounds : (s.sound k).sounding
    · exact .inl rfl
    · simp only [sounds, Bool.true_and, Bool.not_eq_true', Bool.not_eq_false] at nothing
      exact .inr (.inl nothing)

theorem releaseEvals_keeps {ks : List Key} (kept : P ks s) : P [] (releaseEvals ks s) := by
  induction ks generalizing s with
  | nil => exact kept
  | cons k ks ih => exact ih (rules.releaseEval_keeps kept)

/-- R68: a drop is counted and reported. -/
theorem voiceDrop_keeps {ks : List Key} (k : Key) (level : Nat) (src : NoteSource) (kept : P ks s) :
    P ks (voiceDrop k level src s) := by
  have counted : P ks (s.modVdp fun v => { v with dropCount := saturatingSucc v.dropCount }) :=
    rules.modVdp_keeps (fun _ => ⟨rfl, rfl, rfl⟩) kept
  unfold voiceDrop
  dsimp only
  split
  · exact counted
  · exact rules.modVdp_keeps (fun _ => ⟨rfl, rfl, rfl⟩) (rules.report _ counted)

/-- R67: the key of a NOTE-ON is evaluated last. -/
theorem noteOn_keeps (k : Key) (level : Nat) (src : NoteSource) (kept : P [] s) : P [] (noteOn k level src s) := by
  have unowed : P [k] (setSound k { s.sound k with offPending := false } s) :=
    rules.record List.mem_cons_self (by simp) (rules.among (List.nil_subset _) kept)
  unfold noteOn
  dsimp only
  refine rules.releaseEval_keeps ?_
  split
  · next room =>
    exact rules.voiceEnqueue_keeps (by simpa [Fits] using room) (rules.record List.mem_cons_self (by simp) unowed)
  · exact rules.voiceDrop_keeps _ _ _ unowed

/-- A key that loses a holder is evaluated. -/
theorem releases_keeps {k : Key} {r : SoundRecord}
    (same : r.sounding = (s.sound k).sounding ∧ r.offPending = (s.sound k).offPending) (kept : P [] s) :
    P [] (releaseEval k (setSound k r s)) :=
  rules.releaseEval_keeps <| rules.reholds (sameSounding_setSound same)
    (fun j other _ holds => by rwa [held_setSound_ne (by simpa using other)]) kept

theorem voiceLift_keeps (k : Key) (kept : P [] s) : P [] (voiceLift k s) :=
  rules.reholds (sameSounding_setSound ⟨rfl, rfl⟩)
    (fun _ _ _ => held_setSound_of_held (r := { s.sound k with playerHolder := true }) (fun _ => rfl) id) kept

theorem voiceRelease_keeps (k : Key) (kept : P [] s) : P [] (voiceRelease k s) := by
  unfold voiceRelease
  split
  · exact rules.releases_keeps ⟨rfl, rfl⟩ kept
  · exact kept

theorem voiceStrike_keeps (k : Key) (level : Nat) (kept : P [] s) : P [] (voiceStrike k level s) := by
  unfold voiceStrike
  split
  · exact rules.noteOn_keeps k level _ kept
  · exact kept

/-- R69, R70: a playback NOTE-ON and a guide note set the playback holder first. -/
theorem playbackNote_keeps (k : Key) (level : Nat) (src : NoteSource) (kept : P [] s) :
    P [] (noteOn k level src (setSound k { s.sound k with playbackHolder := true } s)) :=
  rules.noteOn_keeps k level src <| rules.reholds (sameSounding_setSound ⟨rfl, rfl⟩)
    (fun _ _ _ => held_setSound_of_held (r := { s.sound k with playbackHolder := true }) id fun _ => rfl) kept

theorem playbackOff_keeps (k : Key) (kept : P [] s) : P [] (playbackOff k s) := by
  unfold playbackOff
  split
  · exact rules.releases_keeps ⟨rfl, rfl⟩ kept
  · exact kept

/-- R71: the keys that lose the playback holder are those that had it. -/
theorem clearPlayback_keeps (kept : P [] s) : P [] (clearPlayback s) := by
  have cleared (k : Key) : (s.modVdp fun v =>
      { v with table := v.table.map fun r => { r with playbackHolder := false } }).sound k =
        { s.sound k with playbackHolder := false } := by simp [State.sound]
  refine rules.releaseEvals_keeps (rules.reholds (s := s) ⟨rfl, rfl, fun k => by simp [cleared], rfl⟩ ?_ kept)
  intro k other _ holds
  have playback : (s.sound k).playbackHolder = false := by
    simpa [playbackHeldKeys, allKeys] using other
  rw [held_iff] at holds ⊢
  simpa [cleared, playback] using holds

theorem voicePedal_keeps (p : Pedal) (level : Nat) (kept : P [] s) : P [] (voicePedal p level s) := by
  unfold voicePedal
  split
  · exact rules.replace p level kept
  · next absent =>
    have absent := Bool.eq_false_iff.2 absent
    split
    · next room => exact rules.voiceEnqueue_keeps ⟨room, absent⟩ kept
    · next full => exact rules.remember level absent (Nat.le_of_not_lt full) kept

theorem voiceComplete_keeps (kept : P [] s) : P [] (voiceComplete s) := by
  unfold voiceComplete
  split
  · exact kept
  · exact rules.voiceChoose_keeps (rules.modVdp_keeps (fun _ => ⟨rfl, rfl, rfl⟩) kept)

/-! ### PTR -/

/-- HOLD and the latch replaced: the keys that they no longer hold are still to be evaluated. -/
theorem modPtr_keeps {ks : List Key} {f : Ptr → Ptr}
    (holds : ∀ k, k ∉ ks → (s.sound k).sounding = true → held s k = true → held (s.modPtr f) k = true)
    (kept : P [] s) : P ks (s.modPtr f) :=
  rules.reholds (s := s) ⟨rfl, rfl, fun _ => ⟨rfl, rfl⟩, rfl⟩ holds kept

/-- R56, R73: HOLD's end evaluates every sounding key. -/
theorem testHold_keeps (kept : P [] s) : P [] (testHold s) := by
  unfold testHold
  dsimp only
  split
  · exact rules.modPtr_keeps (fun k _ _ _ => (held_iff _ k).2 (.inr (.inr (.inl rfl)))) kept
  · split
    · refine rules.releaseEvals_keeps (rules.modPtr_keeps ?_ kept)
      intro k silent sounds
      exact absurd (by simpa [allKeys] using sounds) silent
    · exact kept

/-- R58, R59: the latch's end evaluates the keys of its set. -/
theorem testLatch_keeps (kept : P [] s) : P [] (testLatch s) := by
  unfold testLatch
  dsimp only
  split
  · next off =>
    split
    · refine rules.modPtr_keeps (fun k _ _ holds => ?_) kept
      rw [held_iff] at holds ⊢
      simpa [off] using holds.imp_right (Or.imp_right Or.inl)
    · exact kept
  · next ks on =>
    split
    · refine rules.releaseEvals_keeps (rules.modPtr_keeps (fun k outside _ holds => ?_) kept)
      rw [held_iff] at holds ⊢
      simpa [on, outside] using holds
    · exact kept

end TrafficRules
end Sys2Proof.Machine

namespace Sys2Proof.Machine

/-! ### ALL DAMP (R80) -/

/-- R80: what the ALL DAMP handling leaves at VDP. An idle transmitter sends ALL DAMP at once; a busy one keeps it in the
urgent slot. -/
def dampedVdp (s : State) : Vdp :=
  { s.vdp with
    table := s.vdp.table.map SoundRecord.cleared
    queue := [.pedal .damp (s.pedalRec .damp).effective, .pedal .soft (s.pedalRec .soft).effective,
      .pedal .sost (s.pedalRec .sost).effective]
    remembered := ⟨none, none, none⟩
    urgent := s.vdp.inFlight.isSome
    inFlight := some (s.vdp.inFlight.getD .allDamp) }

theorem allDamp_eq (s : State) : allDamp s = { s with vdp := dampedVdp s } := by
  cases flight : s.vdp.inFlight <;>
    simp [allDamp, dampedVdp, voiceEnqueue, voiceChoose, pushFrame, State.modVdp, flight]

theorem dampedVdp_table (s : State) (k : Key) : (dampedVdp s).table[k] = (s.sound k).cleared := by
  simp [State.sound, dampedVdp]

theorem allDamp_sound (s : State) (k : Key) : (allDamp s).sound k = (s.sound k).cleared := by
  rw [allDamp_eq]
  exact dampedVdp_table s k

theorem allDamp_damped (s : State) : Damped (allDamp s) :=
  ⟨by rw [allDamp_eq]; exact ⟨_, _, _, rfl⟩, by rw [allDamp_eq]; rfl, fun k => by
    rw [allDamp_sound]; exact ⟨rfl, rfl⟩⟩

/-! ### The refill (R75) -/

theorem setSound_unpending_offPending (j : Key) (r : SoundRecord) (s : State) (off : r.offPending = false) (k : Key) :
    ((setSound j r s).sound k).offPending = true → (s.sound k).offPending = true := by
  by_cases same : k = j
  · subst same
    simp [off]
  · rw [sound_setSound_ne same]
    exact id

/-- R75: an off-pending key can only leave the set in a refill. -/
theorem refillOffPending_offPending (ks : List Key) (s : State) (k : Key) :
    ((refillOffPending ks s).sound k).offPending = true → (s.sound k).offPending = true := by
  induction ks generalizing s with
  | nil => exact id
  | cons j ks ih =>
    simp only [refillOffPending]
    (repeat' split)
    · exact ih s
    · exact setSound_unpending_offPending j _ s rfl k
    · exact fun owed => setSound_unpending_offPending j _ s rfl k (ih _ owed)

@[simp] theorem refillOffPending_remembered (ks : List Key) (s : State) :
    (refillOffPending ks s).vdp.remembered = s.vdp.remembered := by
  induction ks generalizing s with
  | nil => rfl
  | cons j ks ih =>
    simp only [refillOffPending]
    (repeat' split) <;> simp [ih]

/-- R75: the scan of the off-pending keys enqueues one NOTE-OFF, or nothing once none of the keys is pending. -/
theorem refillOffPending_queue (ks : List Key) (s : State) :
    (∃ k level src, (refillOffPending ks s).vdp.queue = s.vdp.queue ++ [.noteOff k level src]) ∨
      (refillOffPending ks s).vdp.queue = s.vdp.queue ∧
        ∀ k ∈ ks, ((refillOffPending ks s).sound k).offPending = false := by
  induction ks generalizing s with
  | nil => exact .inr ⟨rfl, by simp⟩
  | cons j ks ih =>
    have scan (t : State) (queue : t.vdp.queue = s.vdp.queue) (unowed : (t.sound j).offPending = false) :
        (∃ k level src, (refillOffPending ks t).vdp.queue = s.vdp.queue ++ [.noteOff k level src]) ∨
          (refillOffPending ks t).vdp.queue = s.vdp.queue ∧
            ∀ k ∈ j :: ks, ((refillOffPending ks t).sound k).offPending = false := by
      refine (ih t).imp (by rw [queue]; exact id) fun ⟨silent, rest⟩ => ⟨silent.trans queue, ?_⟩
      refine List.forall_mem_cons.2 ⟨?_, rest⟩
      exact Bool.eq_false_iff.2 fun owed => Bool.eq_false_iff.1 unowed (refillOffPending_offPending ks t j owed)
    simp only [refillOffPending]
    split
    · next unowed => exact scan s rfl (by simpa using unowed)
    · split
      · exact .inl ⟨j, _, _, by simp [noteOffFrame]; exact ⟨rfl, rfl⟩⟩
      · exact scan _ (by simp) (by simp)

/-- R75: the remembered changes of the pedals, in the order DAMPER, SOFT, SOST. -/
theorem refillPedal_cases (s : State) :
    (refillPedal s = s ∧ ∀ p, s.vdp.remembered.get p = none) ∨
      ∃ p level, s.vdp.remembered.get p = some level ∧
        refillPedal s = pushFrame (.pedal p level) (s.modVdp fun v => { v with remembered := v.remembered.set p none }) := by
  unfold refillPedal
  split
  · next forgotten =>
    refine .inl ⟨rfl, fun p => ?_⟩
    cases p <;> simp_all
  · next p found =>
    have remembers := List.find?_some found
    obtain ⟨level, stored⟩ := Option.isSome_iff_exists.1 remembers
    exact .inr ⟨p, level, stored, by simp only [stored]⟩

/-- R75: a refill takes the freed place, for a NOTE-OFF before a remembered change, or finds nothing owed. -/
theorem refill_cases (s : State) :
    (∃ k level src, (refill s).vdp.queue = s.vdp.queue ++ [.noteOff k level src] ∧
      (refill s).vdp.remembered = s.vdp.remembered) ∨
    (∃ p level, s.vdp.remembered.get p = some level ∧ (refill s).vdp.queue = s.vdp.queue ++ [.pedal p level] ∧
      (refill s).vdp.remembered = s.vdp.remembered.set p none) ∨
    (refill s).vdp.queue = s.vdp.queue ∧ (refill s).vdp.remembered = s.vdp.remembered ∧
      (∀ p, s.vdp.remembered.get p = none) ∧ ∀ k, ((refill s).sound k).offPending = false := by
  unfold refill
  dsimp only
  rcases refillOffPending_queue allKeys s with ⟨k, level, src, enqueued⟩ | ⟨queue, unowed⟩
  · rw [if_neg (by simp [enqueued])]
    exact .inl ⟨k, level, src, enqueued, by simp⟩
  · rw [if_pos (by rw [queue])]
    right
    rcases refillPedal_cases (refillOffPending allKeys s) with ⟨same, forgotten⟩ | ⟨p, level, stored, taken⟩
    · rw [same]
      exact .inr ⟨queue, by simp, by simpa using forgotten, fun k => unowed k (List.mem_finRange k)⟩
    · rw [taken]
      exact .inl ⟨p, level, by simpa using stored, by simp [queue], by simp⟩

theorem refill_offPending {s : State} {k : Key} : ((refill s).sound k).offPending = true →
    (s.sound k).offPending = true := by
  intro owed
  refine refillOffPending_offPending allKeys s k ?_
  unfold refill at owed
  dsimp only at owed
  split at owed
  · rwa [refillPedal_sound] at owed
  · exact owed

theorem refill_queue_length (s : State) : (refill s).vdp.queue.length ≤ s.vdp.queue.length + 1 := by
  rcases refill_cases s with ⟨_, _, _, queue, -⟩ | ⟨_, _, -, queue, -⟩ | ⟨queue, -⟩ <;> simp [queue]

/-! ### LNK's queues -/

@[simp] theorem handReport_replies (r : Report) (s : State) : (handReport r s).lnk.replies = s.lnk.replies := by
  unfold handReport
  (repeat' split) <;> cases reportClass r <;> simp [setClassQueue, reportOverrun]

/-- R197: a report joins its class queue below the capacity alone. -/
theorem handReport_queue_le (r : Report) (s : State) (c : ReportClass)
    (within : (classQueue s.lnk c).length ≤ classCapacity c) :
    (classQueue (handReport r s).lnk c).length ≤ classCapacity c := by
  by_cases other : c = reportClass r
  · subst other
    unfold handReport
    split
    · next accepted =>
      have room : (classQueue s.lnk (reportClass r)).length < classCapacity (reportClass r) := by
        simp [reportAccepted] at accepted
        exact accepted.2
      cases cls : reportClass r <;> simp_all [classQueue, setClassQueue]
    · split
      · cases cls : reportClass r <;> simp_all [classQueue, reportOverrun, modifyNewest_length]
      · exact within
  · rw [handReport_other other]
    exact within

/-- R199: a report sent leaves its own queue alone. -/
theorem sendReport_queues (c : ReportClass) (r : Report) (rest : List Report) (s : State) :
    (sendReport c r rest s).lnk.replies = s.lnk.replies ∧
      ∀ d, classQueue (sendReport c r rest s).lnk d = if d = c then rest else classQueue s.lnk d := by
  have link : (sendReport c r rest s).lnk =
      { setFair c (setClassQueue c rest s.lnk) with tx := some (reportFrame r) } := by
    cases r <;> rfl
  rw [link]
  refine ⟨by cases c <;> rfl, fun d => ?_⟩
  cases c <;> cases d <;> rfl

theorem sendReport_voice (c : ReportClass) (r : Report) (rest : List Report) (s : State) :
    (sendReport c r rest s).vdp.table = s.vdp.table ∧ (sendReport c r rest s).vdp.queue = s.vdp.queue ∧
    (sendReport c r rest s).vdp.remembered = s.vdp.remembered := by
  cases r <;> exact ⟨rfl, rfl, rfl⟩

/-- R68, R199: the choice of the Action Link transmitter leaves the voice queue and the sounding table. -/
theorem linkChoose_voice (s : State) :
    (linkChoose s).vdp.table = s.vdp.table ∧ (linkChoose s).vdp.queue = s.vdp.queue ∧
    (linkChoose s).vdp.remembered = s.vdp.remembered := by
  unfold linkChoose sendNextReport
  dsimp only
  split
  case h_1 => exact ⟨rfl, rfl, rfl⟩
  case h_2 =>
    split
    case h_1 => exact ⟨rfl, rfl, rfl⟩
    case h_2 =>
      split
      case h_1 => exact ⟨rfl, rfl, rfl⟩
      case h_2 =>
        split
        case h_1 => exact ⟨rfl, rfl, rfl⟩
        case h_2 => exact sendReport_voice _ _ _ _

theorem clearFair_queues (l : Lnk) :
    (clearFair l).replies = l.replies ∧ ∀ c, classQueue (clearFair l) c = classQueue l c := by
  unfold clearFair
  split
  · exact ⟨rfl, fun c => by cases c <;> rfl⟩
  · exact ⟨rfl, fun _ => rfl⟩

/-- R199: the choice of the Action Link transmitter takes at most one reply or report out of its queue. -/
theorem linkChoose_queues (s : State) :
    (linkChoose s).lnk.replies.length ≤ s.lnk.replies.length ∧
      ∀ c, (classQueue (linkChoose s).lnk c).length ≤ (classQueue s.lnk c).length := by
  unfold linkChoose
  split
  · exact ⟨le_rfl, fun _ => le_rfl⟩
  · split
    · next r rest replies =>
      refine ⟨by simp [replies], fun c => ?_⟩
      cases c <;> exact le_rfl
    · unfold sendNextReport
      dsimp only
      obtain ⟨replies, queues⟩ := clearFair_queues s.lnk
      split
      · exact ⟨le_rfl, fun _ => le_rfl⟩
      · next c _ =>
        split
        · exact ⟨le_rfl, fun _ => le_rfl⟩
        · next r rest queue =>
          rw [queues] at queue
          obtain ⟨sentReplies, sentQueues⟩ := sendReport_queues c r rest (s.modLnk fun _ => clearFair s.lnk)
          refine ⟨by rw [sentReplies]; exact (congrArg List.length replies).le, fun d => ?_⟩
          rw [sentQueues]
          split
          · next same => simp [same, queue]
          · exact (congrArg List.length (queues d)).le

end Sys2Proof.Machine

namespace Sys2Proof.Machine

/-! ### The queues stay within their capacities (R74, R189, R197) -/

/-- R74, R189, R197: every queue lies within its capacity, that of the replies taken as n. -/
def QueuesWithin (n : Nat) (s : State) : Prop :=
  s.vdp.queue.length ≤ 32 ∧ s.lnk.replies.length ≤ n ∧ ∀ c, (classQueue s.lnk c).length ≤ classCapacity c

theorem keepsQueues_iff (s : State) : KeepsQueues s ↔ QueuesWithin 4 s := by
  refine and_congr_right' (and_congr_right' ⟨fun ⟨n, p, e⟩ c => ?_, fun within => ⟨within .n, within .p, within .e⟩⟩)
  cases c
  exacts [n, p, e]

theorem Fits.length_lt {f : VoiceFrame} {s : State} (fits : Fits s f) : s.vdp.queue.length < 32 := by
  cases f with
  | noteOn k level src => exact Nat.lt_trans (m := 24) fits (by decide)
  | pass bytes => exact Nat.lt_trans (m := 24) fits (by decide)
  | noteOff k level src => exact fits
  | pedal p level => exact fits.1
  | allDamp => exact fits.elim

/-- R74, R75, R77: a queue within 32 frames stays so when its head departs and the place is refilled. -/
theorem depart_length {f : VoiceFrame} {rest : List VoiceFrame} {s : State} (queue : s.vdp.queue = f :: rest)
    (within : s.vdp.queue.length ≤ 32) :
    (refill (s.modVdp fun v => { v with queue := rest, inFlight := some f })).vdp.queue.length ≤ 32 := by
  have refilled := refill_queue_length (s.modVdp fun v => { v with queue := rest, inFlight := some f })
  rw [queue] at within
  exact refilled.trans within

theorem Damped.length {t : State} (damped : Damped t) : t.vdp.queue.length = 3 := by
  obtain ⟨⟨_, _, _, queue⟩, -⟩ := damped
  rw [queue]
  rfl

theorem trafficRules_queues (n : Nat) : TrafficRules fun _ => QueuesWithin n where
  reads {ks s t} same within := by
    obtain ⟨-, queue, -, -, -, replies, classN, classP, classE⟩ := same
    have classes (c : ReportClass) : classQueue t.lnk c = classQueue s.lnk c := by
      cases c
      exacts [classN, classP, classE]
    simpa only [QueuesWithin, queue, replies, classes] using within
  among _ within := within
  reholds same _ within := by
    obtain ⟨queue, -, -, lnk⟩ := same
    simpa only [QueuesWithin, queue, lnk] using within
  record _ _ within := by simpa [QueuesWithin] using within
  settled _ within := within
  owe _ within := by simpa [QueuesWithin] using within
  push fits within := by
    refine ⟨?_, by simpa using within.2⟩
    have room := fits.length_lt
    simp only [pushFrame_queue, List.length_append, List.length_singleton]
    omega
  depart queue within := ⟨depart_length queue within.1, by simpa using within.2⟩
  replace p level s within := ⟨by simpa [replacePedalFrame] using within.1, within.2⟩
  remember level s _ _ within := ⟨within.1, within.2⟩
  damped damped lnk within := ⟨by rw [damped.length]; decide, by rw [lnk]; exact within.2⟩
  powerOn := ⟨by decide, Nat.zero_le n, fun c => by cases c <;> decide⟩
  report r s within := by
    obtain ⟨queue, replies, classes⟩ := within
    exact ⟨by simpa using queue, by simpa using replies, fun c => handReport_queue_le r s c (classes c)⟩
  sends {ks s} within := by
    obtain ⟨queue, replies, classes⟩ := within
    obtain ⟨lessReplies, less⟩ := linkChoose_queues s
    exact ⟨by rw [(linkChoose_voice s).2.1]; exact queue, lessReplies.trans replies,
      fun c => (less c).trans (classes c)⟩

/-! ### The limits of the voice queue (R74, R75) -/

/-- R74, R75: the limits of the voice queue, with its capacity. -/
def VoiceLimits (s : State) : Prop := s.vdp.queue.length ≤ 32 ∧ KeepsVoiceLimits s

/-- The limits read VDP's queue and table alone. -/
theorem VoiceLimits.congr {s t : State} (queue : t.vdp.queue = s.vdp.queue)
    (remembered : t.vdp.remembered = s.vdp.remembered)
    (unowed : ∀ k, (s.sound k).offPending = false → (t.sound k).offPending = false) (limits : VoiceLimits s) :
    VoiceLimits t := by
  unfold VoiceLimits KeepsVoiceLimits at *
  rw [queue, remembered]
  obtain ⟨length, notes, pedals, room⟩ := limits
  exact ⟨length, notes, pedals, fun below => ⟨(room below).1, fun k => unowed k ((room below).2 k)⟩⟩

theorem isPedalFrame_iff {p : Pedal} {f : VoiceFrame} : isPedalFrame p f = true ↔ ∃ level, f = .pedal p level := by
  cases f <;> simp [isPedalFrame]

theorem countP_pedal_of_absent {p : Pedal} {q : List VoiceFrame} (absent : q.any (isPedalFrame p) = false) :
    q.countP (isPedalFrame p) = 0 := by
  simpa [List.countP_eq_zero] using absent

/-- R67, R76: only a queue below 24 frames takes a NOTE-ON or a PASS frame. -/
theorem Fits.countP_note {f : VoiceFrame} {s : State} (fits : Fits s f)
    (notes : s.vdp.queue.countP isNoteOrPass ≤ 24) : (s.vdp.queue ++ [f]).countP isNoteOrPass ≤ 24 := by
  have below (room : s.vdp.queue.length < 24) : s.vdp.queue.countP isNoteOrPass + 1 ≤ 24 :=
    (Nat.succ_le_succ List.countP_le_length).trans room
  cases f with
  | noteOn k level src => simpa [isNoteOrPass] using below fits
  | pass bytes => simpa [isNoteOrPass] using below fits
  | noteOff k level src => simpa [isNoteOrPass] using notes
  | pedal p level => simpa [isNoteOrPass] using notes
  | allDamp => exact fits.elim

/-- R72: only a pedal without a frame in the queue gets one. -/
theorem Fits.countP_pedal {f : VoiceFrame} {s : State} (fits : Fits s f) {p : Pedal}
    (single : s.vdp.queue.countP (isPedalFrame p) ≤ 1) : (s.vdp.queue ++ [f]).countP (isPedalFrame p) ≤ 1 := by
  by_cases new : isPedalFrame p f = true
  · obtain ⟨level, rfl⟩ := isPedalFrame_iff.1 new
    simp [countP_pedal_of_absent fits.2, isPedalFrame]
  · simpa [new] using single

/-- R67, R72: with room in the queue nothing is owed or remembered, so a frame that fits keeps the limits. -/
theorem VoiceLimits.push {f : VoiceFrame} {s : State} (fits : Fits s f) (limits : VoiceLimits s) :
    VoiceLimits (pushFrame f s) := by
  have room := fits.length_lt
  obtain ⟨-, notes, pedals, nothing⟩ := limits
  obtain ⟨forgotten, unowed⟩ := nothing room
  refine ⟨by simpa using room, fits.countP_note notes, fun p => ?_, fun _ => ⟨forgotten, unowed⟩⟩
  simpa [forgotten p] using fits.countP_pedal (p := p) (by simpa [forgotten p] using pedals p)

/-- R75: the place that the frame f leaves goes to what is owed or remembered, and stays free if nothing is. -/
theorem refill_limits {f : VoiceFrame} {s : State} (length : s.vdp.queue.length < 32)
    (notes : (f :: s.vdp.queue).countP isNoteOrPass ≤ 24)
    (pedals : ∀ p, (f :: s.vdp.queue).countP (isPedalFrame p) + (s.vdp.remembered.get p).toList.length ≤ 1)
    (nothing : s.vdp.queue.length + 1 < 32 →
      (∀ p, s.vdp.remembered.get p = none) ∧ ∀ k, (s.sound k).offPending = false) : VoiceLimits (refill s) := by
  have fewer (c : VoiceFrame → Bool) : s.vdp.queue.countP c ≤ (f :: s.vdp.queue).countP c :=
    (List.sublist_cons_self f _).countP_le
  have notes := (fewer _).trans notes
  have pedals (p : Pedal) := (Nat.add_le_add_right (fewer _) _).trans (pedals p)
  refine ⟨(refill_queue_length s).trans length, ?_⟩
  unfold KeepsVoiceLimits
  rcases refill_cases s with ⟨k, level, src, queue, remembered⟩ | ⟨p, level, stored, queue, remembered⟩ |
    ⟨queue, remembered, forgotten, unowed⟩
  · rw [queue, remembered]
    refine ⟨by simpa [isNoteOrPass] using notes, fun p => by simpa [isPedalFrame] using pedals p, fun room => ?_⟩
    obtain ⟨forgotten, unowed⟩ := nothing (by simpa using room)
    exact ⟨forgotten, fun k => Bool.eq_false_iff.2 fun owed => Bool.eq_false_iff.1 (unowed k) (refill_offPending owed)⟩
  · rw [queue, remembered]
    refine ⟨by simpa [isNoteOrPass] using notes, fun q => ?_, fun room => ?_⟩
    · by_cases same : q = p
      · subst same
        simpa [isPedalFrame, stored] using pedals q
      · simpa [isPedalFrame, PerPedal.get_set_ne _ same, Ne.symm same] using pedals q
    · obtain ⟨forgotten, -⟩ := nothing (by simpa using room)
      exact absurd ((forgotten p).symm.trans stored) (by simp)
  · rw [queue, remembered]
    exact ⟨notes, pedals, fun _ => ⟨forgotten, unowed⟩⟩

theorem VoiceLimits.depart {f : VoiceFrame} {rest : List VoiceFrame} {s : State} (queue : s.vdp.queue = f :: rest)
    (limits : VoiceLimits s) :
    VoiceLimits (refill (s.modVdp fun v => { v with queue := rest, inFlight := some f })) := by
  obtain ⟨length, notes, pedals, nothing⟩ := limits
  rw [queue] at length notes pedals nothing
  exact refill_limits (f := f) length notes pedals nothing

theorem replacePedalFrame_countP {p : Pedal} {level : Nat} {c : VoiceFrame → Bool}
    (blind : ∀ old, c (.pedal p old) = c (.pedal p level)) (q : List VoiceFrame) :
    (replacePedalFrame p level q).countP c = q.countP c := by
  rw [replacePedalFrame, List.countP_map]
  refine List.countP_congr fun f _ => ?_
  dsimp only [Function.comp]
  split
  · next isP =>
    obtain ⟨old, rfl⟩ := isPedalFrame_iff.1 isP
    rw [blind old]
  · rfl

theorem VoiceLimits.remember {p : Pedal} {s : State} (level : Nat) (absent : s.vdp.queue.any (isPedalFrame p) = false)
    (full : 32 ≤ s.vdp.queue.length) (limits : VoiceLimits s) :
    VoiceLimits (s.modVdp fun v => { v with remembered := v.remembered.set p (some level) }) := by
  obtain ⟨length, notes, pedals, -⟩ := limits
  refine ⟨length, notes, fun q => ?_, fun room => absurd full (Nat.not_le_of_lt room)⟩
  by_cases same : q = p
  · subst same
    simp [countP_pedal_of_absent absent]
  · simpa [PerPedal.get_set_ne _ same] using pedals q

theorem Damped.limits {t : State} (damped : Damped t) : VoiceLimits t := by
  have length := damped.length
  obtain ⟨⟨_, _, _, queue⟩, remembered, silent⟩ := damped
  refine ⟨by omega, by rw [queue]; exact Nat.zero_le 24, fun p => ?_, fun _ => ⟨fun p => ?_, fun k => (silent k).2⟩⟩
  · rw [queue, remembered]
    cases p <;> simp [PerPedal.get, isPedalFrame]
  · rw [remembered]
    cases p <;> rfl

theorem powerOn_damped : Damped State.powerOn :=
  ⟨⟨0, 0, 0, rfl⟩, rfl, fun k => by rw [powerOn_sound]; exact ⟨rfl, rfl⟩⟩

theorem trafficRules_limits : TrafficRules fun _ => VoiceLimits where
  reads same limits := by
    obtain ⟨table, queue, remembered, -⟩ := same
    exact limits.congr queue remembered fun k => by simp only [State.sound, table]; exact id
  among _ limits := limits
  reholds same _ limits := by
    obtain ⟨queue, remembered, sounds, -⟩ := same
    exact limits.congr queue remembered fun k => by rw [(sounds k).2]; exact id
  record {ks k r s} _ unowed limits := limits.congr (by simp) (by simp) fun j => by
    by_cases same : j = k
    · subst same
      simpa using mt unowed
    · rw [sound_setSound_ne same]
      exact id
  settled _ limits := limits
  owe full limits := by
    obtain ⟨length, notes, pedals, -⟩ := limits
    refine ⟨by simpa using length, by simpa using notes, by simpa using pedals, fun room => ?_⟩
    rw [(setSound_queue ..).1] at room
    exact absurd full (Nat.not_le_of_lt room)
  push := VoiceLimits.push
  depart := VoiceLimits.depart
  replace p level s limits := by
    obtain ⟨length, notes, pedals, room⟩ := limits
    refine ⟨by simpa [replacePedalFrame] using length, ?_, fun q => ?_, fun below => ?_⟩
    · rwa [State.modVdp_vdp, replacePedalFrame_countP fun _ => rfl]
    · rw [State.modVdp_vdp, replacePedalFrame_countP fun _ => rfl]
      exact pedals q
    · exact room (by simpa [replacePedalFrame] using below)
  remember level s absent full limits := limits.remember level absent full
  damped damped _ _ := damped.limits
  powerOn := powerOn_damped.limits
  report r s limits := limits.congr (by simp) (by simp) fun k => by simp [State.sound]
  sends {ks s} limits := by
    obtain ⟨table, queue, remembered⟩ := linkChoose_voice s
    exact limits.congr queue remembered fun k => by simp only [State.sound, table]; exact id

end Sys2Proof.Machine

namespace Sys2Proof.Machine

/-! ### Unheld sounding keys are owed their NOTE-OFF (R65) -/

/-- R65: every key but the keys ks is owed its NOTE-OFF if it sounds and nothing holds it. -/
def OwedBut (ks : List Key) (s : State) : Prop :=
  ∀ k, k ∉ ks → (s.sound k).sounding = true → held s k = false → (s.sound k).offPending = true

theorem keepsOwed_iff (s : State) : KeepsOwed s ↔ OwedBut [] s := by simp [KeepsOwed, OwedBut]

/-- What is owed reads the sounding table, HOLD and the latch alone. -/
theorem OwedBut.congr {ks : List Key} {s t : State} (table : t.vdp.table = s.vdp.table)
    (hold : t.ptr.hold = s.ptr.hold) (latch : t.ptr.latch = s.ptr.latch) (owed : OwedBut ks s) : OwedBut ks t := by
  have sound (k : Key) : t.sound k = s.sound k := by simp only [State.sound, table]
  intro k outside sounds unheld
  rw [sound] at sounds ⊢
  exact owed k outside sounds (by rwa [held_congr (by rw [sound]) (by rw [sound]) hold latch] at unheld)

/-- A record replaced whose key owes nothing with it, or is still to be evaluated. -/
theorem OwedBut.setSound {ks : List Key} {k : Key} {r : SoundRecord} {s : State}
    (pays : k ∉ ks → r.sounding = true → held (setSound k r s) k = false → r.offPending = true) (owed : OwedBut ks s) :
    OwedBut ks (setSound k r s) := by
  intro j outside sounds unheld
  by_cases same : j = k
  · subst same
    rw [sound_setSound_self] at sounds ⊢
    exact pays outside sounds unheld
  · rw [sound_setSound_ne same] at sounds ⊢
    exact owed j outside sounds (by rwa [held_setSound_ne same] at unheld)

/-- R75: a key that leaves the off-pending set gets its NOTE-OFF, or owes none. -/
theorem OwedBut.refillOffPending {ks : List Key} (js : List Key) {s : State} (owed : OwedBut ks s) :
    OwedBut ks (refillOffPending js s) := by
  induction js generalizing s with
  | nil => exact owed
  | cons j js ih =>
    simp only [Machine.refillOffPending]
    split
    · exact ih owed
    · split
      · exact (owed.setSound (k := j) (by simp)).congr rfl rfl rfl
      · next settled =>
        refine ih (owed.setSound fun _ sounds unheld => absurd ?_ settled)
        rw [held_setSound (r := { s.sound j with offPending := false }) rfl rfl] at unheld
        simp [show (s.sound j).sounding = true from sounds, unheld]

theorem OwedBut.refill {ks : List Key} {s : State} (owed : OwedBut ks s) : OwedBut ks (refill s) := by
  have scanned := owed.refillOffPending allKeys
  unfold Machine.refill
  dsimp only
  split
  · rcases refillPedal_cases (Machine.refillOffPending allKeys s) with ⟨same, -⟩ | ⟨p, level, -, taken⟩
    · rwa [same]
    · rw [taken]
      exact scanned.congr rfl rfl rfl
  · exact scanned

theorem trafficRules_owed : TrafficRules OwedBut where
  reads same owed := by
    obtain ⟨table, -, -, hold, latch, -⟩ := same
    exact owed.congr table hold latch
  among sub owed k outside := owed k fun inside => outside (sub inside)
  reholds {ks s t} same holds owed k outside sounds unheld := by
    obtain ⟨-, -, keys, -⟩ := same
    obtain ⟨sounding, offPending⟩ := keys k
    rw [sounding] at sounds
    rw [offPending]
    refine owed k (by simp) sounds (Bool.eq_false_iff.2 fun held => ?_)
    exact Bool.eq_false_iff.1 unheld (holds k outside sounds held)
  record inside _ owed := owed.setSound fun outside => absurd inside outside
  settled {ks k s} quiet owed j outside sounds unheld := by
    by_cases same : j = k
    · subst same
      simpa [sounds, unheld] using quiet
    · exact owed j (by simp [same, outside]) sounds unheld
  owe {ks k s} _ owed j outside sounds unheld := by
    by_cases same : j = k
    · simp [same]
    · rw [sound_setSound_ne same] at sounds ⊢
      exact owed j (by simp [same, outside]) sounds (by rwa [held_setSound_ne same] at unheld)
  push _ owed := owed.congr rfl rfl rfl
  depart _ owed := OwedBut.refill (owed.congr rfl rfl rfl)
  replace _ _ _ owed := owed.congr rfl rfl rfl
  remember _ _ _ _ owed := owed.congr rfl rfl rfl
  damped damped _ _ k _ sounds := by
    rw [(damped.2.2 k).1] at sounds
    exact absurd sounds (by decide)
  powerOn k _ sounds := by
    rw [powerOn_sound] at sounds
    exact absurd sounds (by decide)
  report r s owed := owed.congr (by simp) (by simp) (by simp)
  sends {ks s} owed := owed.congr (linkChoose_voice s).1 (by simp) (by simp)

end Sys2Proof.Machine

namespace Sys2Proof.Machine

namespace TrafficRules

variable {P : List Key → State → Prop} (rules : TrafficRules P) {s : State}
include rules

/-! ### Blocks that the property does not read -/

theorem modScn_keeps (f : Scn → Scn) (kept : P [] s) : P [] (s.modScn f) :=
  rules.same (s := s) ⟨rfl, rfl, rfl⟩ kept

theorem modRlc_keeps (f : Rlc → Rlc) (kept : P [] s) : P [] (s.modRlc f) :=
  rules.same (s := s) ⟨rfl, rfl, rfl⟩ kept

theorem modHpm_keeps (f : Hpm → Hpm) (kept : P [] s) : P [] (s.modHpm f) :=
  rules.same (s := s) ⟨rfl, rfl, rfl⟩ kept

theorem modPbe_keeps (f : Pbe → Pbe) (kept : P [] s) : P [] (s.modPbe f) :=
  rules.same (s := s) ⟨rfl, rfl, rfl⟩ kept

theorem modPrm_keeps (f : Prm → Prm) (kept : P [] s) : P [] (s.modPrm f) :=
  rules.same (s := s) ⟨rfl, rfl, rfl⟩ kept

theorem modTkr_keeps (f : Tkr → Tkr) (kept : P [] s) : P [] (s.modTkr f) :=
  rules.same (s := s) ⟨rfl, rfl, rfl⟩ kept

theorem modPar_keeps (f : Params → Params) (kept : P [] s) : P [] (s.modPar f) :=
  rules.same (s := s) ⟨rfl, rfl, rfl⟩ kept

theorem setKeyRec_keeps (k : Key) (r : KeyRecord) (kept : P [] s) : P [] (setKeyRec k r s) :=
  rules.same (s := s) ⟨rfl, rfl, rfl⟩ kept

theorem setChannel_keeps (c : Channel) (r : ChannelRecord) (kept : P [] s) : P [] (setChannel c r s) :=
  rules.same (s := s) ⟨rfl, rfl, rfl⟩ kept

theorem setPedalRec_keeps (p : Pedal) (r : PedalRecord) (kept : P [] s) : P [] (setPedalRec p r s) :=
  rules.reads (s := s) ⟨rfl, rfl, rfl, rfl, rfl, rfl, rfl, rfl, rfl⟩ kept

/-- LNK's other items: its receiver, its counts and its transmitter. -/
theorem modLnk_keeps {f : Lnk → Lnk} (same : ∀ l, (f l).replies = l.replies ∧ (f l).classN = l.classN ∧
    (f l).classP = l.classP ∧ (f l).classE = l.classE) (kept : P [] s) : P [] (s.modLnk f) :=
  rules.reads (by simp [SameTraffic, same]) kept

/-! ### PTR, its levels and groups -/

theorem testPedal_keeps (p : Pedal) (kept : P [] s) : P [] (testPedal p s) := by
  cases p with
  | soft => exact kept
  | sost => exact rules.testLatch_keeps kept
  | damp => exact rules.testHold_keeps kept

theorem recomputeEffective_keeps (p : Pedal) (kept : P [] s) : P [] (recomputeEffective p s) := by
  unfold recomputeEffective
  dsimp only
  split
  · exact kept
  · exact rules.testPedal_keeps p (rules.voicePedal_keeps p _ (rules.setPedalRec_keeps p _ kept))

theorem playbackLevel_keeps (p : Pedal) (level : Nat) (kept : P [] s) : P [] (playbackLevel p level s) :=
  rules.recomputeEffective_keeps p (rules.setPedalRec_keeps p _ kept)

theorem clearPlaybackLevels_keeps (kept : P [] s) : P [] (clearPlaybackLevels s) :=
  rules.playbackLevel_keeps _ _ (rules.playbackLevel_keeps _ _ (rules.playbackLevel_keeps _ _ kept))

/-! ### TKR -/

theorem captureFull_keeps (kept : P [] s) : P [] (captureFull s) := rules.report _ (rules.modTkr_keeps _ kept)

theorem writeTake_keeps (e : Entry) (kept : P [] s) : P [] (writeTake e s) := rules.same (by simp) kept

theorem appendTake_keeps (e : Entry) (kept : P [] s) : P [] (appendTake e s) := by
  have written := rules.writeTake_keeps e kept
  unfold appendTake
  dsimp only
  (repeat' split)
  · exact rules.captureFull_keeps (rules.modTkr_keeps _ written)
  · exact rules.modTkr_keeps _ written
  · exact rules.captureFull_keeps kept
  · exact rules.modTkr_keeps _ written

theorem appendTimed_keeps (kind first second : Nat) (kept : P [] s) : P [] (appendTimed kind first second s) := by
  have appended (e : Entry) := rules.appendTake_keeps e kept
  unfold appendTimed
  dsimp only
  (repeat' split)
  · exact rules.modTkr_keeps _ (appended _)
  · exact appended _
  · exact rules.modTkr_keeps _ (appended _)
  · exact appended _

theorem startTake_keeps (kept : P [] s) : P [] (startTake s) := by
  unfold startTake
  dsimp only
  split
  · exact rules.appendTimed_keeps _ _ _ (rules.modTkr_keeps _ kept)
  · exact rules.modTkr_keeps _ kept

theorem playerEvent_keeps (kind first second : Nat) (kept : P [] s) : P [] (playerEvent kind first second s) := by
  unfold playerEvent
  dsimp only
  (repeat' split)
  · exact kept
  · exact kept
  · exact rules.appendTimed_keeps _ _ _ kept
  · exact rules.appendTimed_keeps _ _ _ (rules.startTake_keeps kept)
  · exact rules.startTake_keeps kept

theorem playbackPlaced_keeps (index : Nat) (kept : P [] s) : P [] (playbackPlaced index s) := by
  unfold playbackPlaced
  split
  · exact rules.appendTimed_keeps _ _ _ kept
  · exact rules.modTkr_keeps _ kept
  · exact kept
  · exact kept

theorem recorderSweep_keeps (kept : P [] s) : P [] (recorderSweep s) := by
  unfold recorderSweep
  split
  · exact rules.appendTimed_keeps _ _ _ kept
  · exact kept

/-! ### Pedal samples and notices -/

theorem adoptPlayer_keeps (p : Pedal) (level : Nat) (fault : Bool) (kept : P [] s) : P [] (adoptPlayer p level fault s) :=
  rules.recomputeEffective_keeps p (rules.playerEvent_keeps _ _ _ (rules.report _ (rules.setPedalRec_keeps p _ kept)))

theorem pedalArrival_keeps (p : Pedal) (pos : Nat) (kept : P [] s) : P [] (pedalArrival p pos s) := by
  unfold pedalArrival evaluatePlayer
  dsimp only
  (repeat' split)
  · exact rules.adoptPlayer_keeps _ _ _ (rules.setPedalRec_keeps p _ kept)
  · exact rules.setPedalRec_keeps p _ kept
  · exact rules.setPedalRec_keeps p _ kept

theorem emptyGroup_keeps (p : Pedal) (kept : P [] s) : P [] (emptyGroup p s) := rules.setPedalRec_keeps p _ kept

theorem pedalFault_keeps (p : Pedal) (kept : P [] s) : P [] (pedalFault p s) := by
  unfold pedalFault
  dsimp only
  split
  · exact rules.emptyGroup_keeps p kept
  · exact rules.adoptPlayer_keeps _ _ _ (rules.emptyGroup_keeps p kept)

/-! ### PRM -/

theorem playReport_keeps (cause : PlayCause) (kept : P [] s) : P [] (playReport cause s) := rules.report _ kept

theorem waitRelease_keeps (kept : P [] s) : P [] (waitRelease s) := by
  unfold waitRelease
  (repeat' split)
  · exact rules.playReport_keeps _ (rules.modPbe_keeps _ kept)
  · exact rules.modPbe_keeps _ kept
  · exact kept
  · exact kept
  · exact kept

theorem resolve_keeps (k : Key) (result : PracticeResult) (cause : PracticeCause) (offset : Int) (index : Option Nat)
    (kept : P [] s) : P [] (resolve k result cause offset index s) := rules.report _ (rules.modPrm_keeps _ kept)

theorem examine_keeps (kept : P [] s) : P [] (examine s) :=
  foldl_invariant (P []) _ (fun _ _ before => rules.resolve_keeps _ _ _ _ _ before) _ _ (rules.modPrm_keeps _ kept)

theorem joinRecent_keeps (k : Key) (kept : P [] s) : P [] (joinRecent k s) := by
  unfold joinRecent
  refine rules.modPrm_keeps _ ?_
  (repeat' split)
  · exact kept
  · exact kept
  · exact rules.resolve_keeps _ _ _ _ _ (rules.modPrm_keeps _ kept)

theorem releaseIfEmpty_keeps (kept : P [] s) : P [] (releaseIfEmpty s) := by
  unfold releaseIfEmpty
  split
  · exact rules.waitRelease_keeps (rules.modPrm_keeps _ kept)
  · exact kept

theorem practiceStrike_keeps (k : Key) (kept : P [] s) : P [] (practiceStrike k s) := by
  have examined := rules.examine_keeps kept
  unfold practiceStrike
  dsimp only
  (repeat' split)
  · exact kept
  · exact rules.releaseIfEmpty_keeps (rules.resolve_keeps _ _ _ _ _ (rules.modPrm_keeps _ examined))
  · exact rules.joinRecent_keeps k examined

theorem missRepeated_keeps (k : Key) (kept : P [] s) : P [] (missRepeated k s) := by
  unfold missRepeated
  split
  · exact rules.resolve_keeps _ _ _ _ _ (rules.modPrm_keeps _ kept)
  · exact kept

theorem missEvicted_keeps (kept : P [] s) : P [] (missEvicted s) := by
  unfold missEvicted
  (repeat' split)
  · exact kept
  · exact kept
  · exact rules.resolve_keeps _ _ _ _ _ (rules.modPrm_keeps _ kept)

theorem creditEarly_keeps (k : Key) (index : Nat) (e : Recent) (kept : P [] s) : P [] (creditEarly k index e s) :=
  rules.resolve_keeps _ _ _ _ _ (rules.modPrm_keeps _ kept)

theorem expectedMute_keeps (k : Key) (index : Nat) (kept : P [] s) : P [] (expectedMute k index s) := by
  have examined := rules.examine_keeps kept
  unfold expectedMute
  dsimp only
  split
  · exact rules.creditEarly_keeps _ _ _ examined
  · exact rules.modPrm_keeps _ (rules.missEvicted_keeps (rules.missRepeated_keeps k examined))

theorem guideNote_keeps (k : Key) (kept : P [] s) : P [] (guideNote k s) := rules.playbackNote_keeps k _ _ kept

theorem expectedWait_keeps (k : Key) (index : Nat) (kept : P [] s) : P [] (expectedWait k index s) := by
  have opened : P [] (if s.prm.groupKeys.isEmpty then examine s else s) := by
    split
    · exact rules.examine_keeps kept
    · exact kept
  unfold expectedWait
  dsimp only
  generalize (if s.prm.groupKeys.isEmpty then examine s else s) = t at opened
  have joined := rules.modPrm_keeps (fun b => { b with groupKeys := b.groupKeys ++ [k] }) opened
  (repeat' split)
  · exact opened
  · exact rules.creditEarly_keeps _ _ _ joined
  · exact rules.modPrm_keeps _ joined
  · exact rules.guideNote_keeps k joined

theorem expectedNote_keeps (k : Key) (index : Nat) (kept : P [] s) : P [] (expectedNote k index s) := by
  unfold expectedNote
  (repeat' split)
  · exact rules.expectedMute_keeps k index kept
  · exact rules.expectedWait_keeps k index kept
  · exact kept

theorem closeGroup_keeps (kept : P [] s) : P [] (closeGroup s) := by
  unfold closeGroup
  split
  · exact kept
  · exact rules.playReport_keeps _ (rules.modPbe_keeps _ (rules.modPrm_keeps _ kept))

theorem endGroup_keeps (kept : P [] s) : P [] (endGroup s) := by
  unfold endGroup
  refine rules.modPrm_keeps _ ?_
  split
  · exact rules.closeGroup_keeps kept
  · exact kept

theorem expireDeadlines_keeps (kept : P [] s) : P [] (expireDeadlines s) :=
  foldl_invariant (P []) _ (fun _ _ before => rules.resolve_keeps _ _ _ _ _ before) _ _ (rules.modPrm_keeps _ kept)

theorem expireWait_keeps (kept : P [] s) : P [] (expireWait s) :=
  rules.waitRelease_keeps <| foldl_invariant (P []) _
    (fun _ _ before => rules.guideNote_keeps _ (rules.resolve_keeps _ _ _ _ _ before)) _ _ (rules.modPrm_keeps _ kept)

theorem practiceSweep_keeps (kept : P [] s) : P [] (practiceSweep s) := by
  have swept := rules.expireDeadlines_keeps (rules.examine_keeps kept)
  unfold practiceSweep
  dsimp only
  (repeat' split)
  · exact kept
  · exact rules.expireWait_keeps swept
  · exact swept

theorem modeChange_keeps (kept : P [] s) : P [] (modeChange s) := by
  unfold modeChange
  refine rules.waitRelease_keeps ?_
  split
  · exact rules.modPrm_keeps _ (rules.modPrm_keeps _ kept)
  · exact rules.modPrm_keeps _ kept

theorem afterModeWrite_keeps (changed : Bool) (kept : P [] s) : P [] (afterModeWrite changed s) := by
  unfold afterModeWrite
  split
  · exact rules.modeChange_keeps kept
  · exact kept

/-! ### KTR -/

theorem replaceKey_keeps (k : Key) (r : KeyRecord) (kept : P [] s) : P [] (replaceKey k r s) :=
  rules.same (by simp) kept

theorem deliverRelease_keeps (k : Key) (fault : Bool) (kept : P [] s) : P [] (deliverRelease k fault s) :=
  rules.report _ (rules.playerEvent_keeps _ _ _ (rules.voiceRelease_keeps k kept))

theorem deliverKeyEvent_keeps (k : Key) (e : KeyEvent) (kept : P [] s) : P [] (deliverKeyEvent k s e) := by
  cases e with
  | lift => exact rules.voiceLift_keeps k kept
  | strike level speed repeated interval =>
    have noted : P [] (noteStrike s) := rules.same (by simp) kept
    exact rules.report _ (rules.playerEvent_keeps _ _ _
      (rules.practiceStrike_keeps k (rules.voiceStrike_keeps k level noted)))
  | release fault => exact rules.deliverRelease_keeps k fault kept

theorem keyArrival_keeps (k : Key) (p : Nat) (kept : P [] s) : P [] (keyArrival k p s) :=
  foldl_invariant (P []) _ (fun _ e before => rules.deliverKeyEvent_keeps k e before) _ _
    (rules.replaceKey_keeps k _ kept)

theorem keyFault_keeps (k : Key) (kept : P [] s) : P [] (keyFault k s) := by
  unfold keyFault
  dsimp only
  split
  · exact rules.deliverRelease_keeps k true (rules.replaceKey_keeps k _ kept)
  · exact rules.replaceKey_keeps k _ kept

theorem keyRecovery_keeps (k : Key) (p : Nat) (kept : P [] s) : P [] (keyRecovery k p s) :=
  rules.same (by simp) kept

/-! ### RLC -/

theorem enterRail_keeps (st : RailState) (f : Rlc → Rlc) (kept : P [] s) : P [] ((enterRail st s).modRlc f) :=
  rules.modRlc_keeps _ (rules.modRlc_keeps _ kept)

theorem startMove_keeps (target : RailTarget) (kept : P [] s) : P [] (startMove target s) :=
  rules.report _ (rules.enterRail_keeps _ _ kept)

theorem endWait_keeps (outcome : RailOutcome) (cause : RailCause) (kept : P [] s) : P [] (endWait outcome cause s) := by
  unfold endWait
  split
  · exact kept
  · exact rules.report _ (rules.enterRail_keeps _ _ kept)

theorem haltRail_keeps (cause : RailCause) (kept : P [] s) : P [] (haltRail cause s) :=
  rules.report _ (rules.enterRail_keeps _ _ kept)

theorem driftTest_keeps (p : Nat) (kept : P [] s) : P [] (driftTest p s) := by
  unfold driftTest
  dsimp only
  (repeat' split)
  · exact kept
  · exact rules.modRlc_keeps _ kept
  · exact rules.report _ (rules.haltRail_keeps _ (rules.modRlc_keeps _ kept))
  · exact rules.modRlc_keeps _ kept

theorem deriveRail_keeps (p : Nat) (kept : P [] s) : P [] (deriveRail p s) :=
  rules.driftTest_keeps p (rules.report _ (rules.enterRail_keeps _ _ kept))

theorem completeMove_keeps (st : RailState) (kept : P [] s) : P [] (completeMove st s) :=
  rules.report _ (rules.enterRail_keeps _ _ kept)

theorem testRail_keeps (p : Nat) (kept : P [] s) : P [] (testRail p s) := by
  have drifts := rules.driftTest_keeps p kept
  unfold testRail
  (repeat' split)
  · exact rules.deriveRail_keeps p kept
  · exact kept
  · exact drifts
  · exact drifts
  · exact rules.startMove_keeps _ kept
  · exact drifts
  · exact rules.startMove_keeps _ kept
  · exact drifts
  · exact rules.completeMove_keeps _ kept
  · exact kept
  · exact rules.completeMove_keeps _ kept
  · exact kept

theorem railArrival_keeps (p : Nat) (kept : P [] s) : P [] (railArrival p s) :=
  rules.testRail_keeps p (rules.modRlc_keeps _ kept)

theorem railFault_keeps (kept : P [] s) : P [] (railFault s) := by
  have marked := rules.modRlc_keeps (fun b => { b with faulted := true, drift := 0 }) kept
  unfold railFault
  dsimp only
  split
  case h_1 | h_2 | h_3 | h_4 => exact marked
  case h_5 | h_6 => exact rules.endWait_keeps _ _ marked
  case h_7 | h_8 => exact rules.haltRail_keeps _ marked

theorem railRecovery_keeps (p : Nat) (kept : P [] s) : P [] (railRecovery p s) := by
  have placed := rules.modRlc_keeps (fun b => { b with faulted := false, position := p }) kept
  unfold railRecovery
  dsimp only
  split
  case h_1 => exact rules.deriveRail_keeps p placed
  case h_2 | h_3 => exact rules.driftTest_keeps p placed
  all_goals exact placed

theorem requestFromRest_keeps (target : RailTarget) (origin : WaitOrigin) (kept : P [] s) :
    P [] (requestFromRest target origin s) := by
  have still := rules.modRlc_keeps (fun b => { b with drift := 0 }) kept
  unfold requestFromRest startWait
  dsimp only
  split
  · exact rules.startMove_keeps _ still
  · exact rules.report _ (rules.enterRail_keeps _ _ still)

theorem railRequest_keeps (target : RailTarget) (kept : P [] s) : P [] (railRequest target s) := by
  have reverses (way : RailTarget) : P [] (reverseMove way s) := rules.report _ (rules.enterRail_keeps _ _ kept)
  unfold railRequest
  split
  case h_2 | h_3 | h_5 => exact rules.requestFromRest_keeps _ _ kept
  case h_7 | h_8 => exact rules.endWait_keeps _ _ kept
  case h_11 | h_12 => exact reverses _
  all_goals exact kept

theorem expireRailWait_keeps (kept : P [] s) : P [] (expireRailWait s) := by
  unfold expireRailWait
  split
  · exact rules.endWait_keeps _ _ kept
  · exact kept

theorem expireRailMove_keeps (kept : P [] s) : P [] (expireRailMove s) := by
  unfold expireRailMove
  split
  · exact rules.report _ (rules.haltRail_keeps _ kept)
  · exact kept

end TrafficRules
end Sys2Proof.Machine

namespace Sys2Proof.Machine

namespace TrafficRules

variable {P : List Key → State → Prop} (rules : TrafficRules P) {s : State}
include rules

/-! ### SCN -/

theorem watchGather_keeps (c : Channel) (r : Raw) (kept : P [] s) : P [] (watchGather c r s) := by
  unfold watchGather
  dsimp only
  (repeat' split)
  · exact kept
  · exact rules.report _ (rules.modScn_keeps _ kept)
  · exact rules.report _ (rules.modScn_keeps _ kept)
  · exact rules.modScn_keeps _ kept
  · exact kept

theorem closeWatch_keeps (kept : P [] s) : P [] (closeWatch s) := by
  unfold closeWatch
  split
  · exact kept
  · exact rules.report _ (rules.modScn_keeps _ kept)

theorem deliverSample_keeps (c : Channel) (pos : Nat) (kept : P [] s) : P [] (deliverSample c pos s) := by
  cases c with
  | key k => exact rules.keyArrival_keeps k pos kept
  | pedal p => exact rules.pedalArrival_keeps p pos kept
  | rail => exact rules.railArrival_keeps pos kept

theorem deliverFault_keeps (c : Channel) (kept : P [] s) : P [] (deliverFault c s) := by
  cases c with
  | key k => exact rules.keyFault_keeps k kept
  | pedal p => exact rules.pedalFault_keeps p kept
  | rail => exact rules.railFault_keeps kept

theorem deliverRecovery_keeps (c : Channel) (pos : Nat) (kept : P [] s) : P [] (deliverRecovery c pos s) := by
  cases c with
  | key k => exact rules.keyRecovery_keeps k pos kept
  | pedal p => exact rules.pedalArrival_keeps p pos (rules.emptyGroup_keeps p kept)
  | rail => exact rules.railRecovery_keeps pos kept

theorem judgeOk_keeps (c : Channel) (r : Raw) (kept : P [] s) : P [] (judgeOk c r s) := by
  unfold judgeOk
  dsimp only
  split
  · exact rules.deliverFault_keeps c (rules.report _ (rules.setChannel_keeps c _ kept))
  · exact rules.deliverSample_keeps c _ (rules.setChannel_keeps c _ kept)

theorem judgeFaulted_keeps (c : Channel) (r : Raw) (kept : P [] s) : P [] (judgeFaulted c r s) := by
  unfold judgeFaulted
  dsimp only
  split
  · exact rules.deliverRecovery_keeps c _ (rules.report _ (rules.setChannel_keeps c _ kept))
  · exact rules.setChannel_keeps c _ kept

theorem convert_keeps (c : Channel) (r : Raw) (kept : P [] s) : P [] (convert c r s) := by
  have gathers : P [] (gathered c r s) := rules.watchGather_keeps c r (rules.setChannel_keeps c _ kept)
  cases st : s.scn.state with
  | warmup => rw [convert_warmup st]; exact gathers
  | running =>
    cases health : (s.channel c).health with
    | ok => rw [convert_ok st health]; exact rules.judgeOk_keeps c r gathers
    | faulted => rw [convert_faulted st health]; exact rules.judgeFaulted_keeps c r gathers

/-! ### HPM -/

theorem samplePeriod_keeps (f : AudioFrame) (kept : P [] s) : P [] (samplePeriod f s) := by
  have jack : P [] (jackStage f.jackHigh s) := by
    unfold jackStage
    dsimp only
    (repeat' split)
    · exact rules.modHpm_keeps _ kept
    · exact rules.report _ (rules.modHpm_keeps _ kept)
    · exact rules.modHpm_keeps _ kept
  have limits (left right : Int) (t : State) (before : P [] t) : P [] (limitStage left right t) := by
    unfold limitStage
    split
    · exact rules.report _ (rules.modHpm_keeps _ before)
    · exact before
  unfold samplePeriod clickStage mixStage gainStage
  exact rules.modHpm_keeps _ (rules.modHpm_keeps _ (limits _ _ _ (rules.modHpm_keeps _ jack)))

/-! ### PBE -/

/-- R134, R152: what a stop and a pause clear. -/
theorem clearAll_keeps (kept : P [] s) : P [] (clearPlaybackLevels (clearPlayback s)) :=
  rules.clearPlaybackLevels_keeps (rules.clearPlayback_keeps kept)

theorem stopSteps_keeps (cause : PlayCause) (kept : P [] s) : P [] (stopSteps cause s) := by
  have stopped (f : Pbe → Pbe) : P [] (practiceStop (clearPlaybackLevels (clearPlayback (s.modPbe f)))) :=
    rules.modPrm_keeps _ (rules.clearAll_keeps (rules.modPbe_keeps _ kept))
  unfold stopSteps
  dsimp only
  split
  · exact stopped _
  · exact rules.playReport_keeps _ (stopped _)

theorem scoreFault_keeps (cause : ScoreCause) (index : Nat) (kept : P [] s) : P [] (scoreFault cause index s) :=
  rules.stopSteps_keeps _ (rules.report _ (rules.modPbe_keeps _ kept))

theorem performNoteOn_keeps (key level part index : Nat) (kept : P [] s) :
    P [] (performNoteOn key level part index s) := by
  unfold performNoteOn
  (repeat' split)
  · exact kept
  · exact rules.expectedNote_keeps _ _ kept
  · exact rules.playbackNote_keeps _ _ _ kept

theorem performNoteOff_keeps (key : Nat) (kept : P [] s) : P [] (performNoteOff key s) := by
  unfold performNoteOff
  split
  · exact kept
  · exact rules.playbackOff_keeps _ kept

theorem performPedal_keeps (pedal level : Nat) (kept : P [] s) : P [] (performPedal pedal level s) := by
  unfold performPedal
  split
  · exact kept
  · exact rules.playbackLevel_keeps _ _ kept

theorem performMark_keeps (number index : Nat) (kept : P [] s) : P [] (performMark number index s) := by
  unfold performMark
  split
  · exact kept
  · exact rules.report _ kept

theorem performScore_keeps (e : ScoreEntry) (index : Nat) (kept : P [] s) : P [] (performScore e index s) := by
  unfold performScore
  split
  · exact rules.stopSteps_keeps _ kept
  · exact rules.performNoteOn_keeps _ _ _ _ kept
  · exact rules.performNoteOff_keeps _ kept
  · exact rules.performPedal_keeps _ _ kept
  · split
    · exact rules.modHpm_keeps _ kept
    · exact kept
  · exact rules.modPbe_keeps _ kept
  · exact rules.performMark_keeps _ _ kept
  · exact kept
  · exact rules.scoreFault_keeps _ _ kept

theorem moveCursor_keeps (target faultIndex : Nat) (kept : P [] s) : P [] (moveCursor target faultIndex s) := by
  unfold moveCursor
  dsimp only
  split
  · exact rules.scoreFault_keeps _ _ (rules.modPbe_keeps _ kept)
  · exact rules.modPbe_keeps _ (rules.modPbe_keeps _ kept)

/-- R142 to R144: a navigation entry moves the cursor, with another stack, or faults. -/
theorem navigate_keeps (e : ScoreEntry) (i : Nat) (kept : P [] s) : P [] (navigate e i s) := by
  have moves (f : Pbe → Pbe) (target : Nat) : P [] (moveCursor target i (s.modPbe f)) :=
    rules.moveCursor_keeps _ _ (rules.modPbe_keeps _ kept)
  have faults (cause : ScoreCause) : P [] (scoreFault cause i s) := rules.scoreFault_keeps _ _ kept
  unfold navigate
  dsimp only
  split
  case h_1 =>
    split
    · exact rules.moveCursor_keeps _ _ kept
    · exact faults _
  case h_2 =>
    (repeat' split)
    · exact faults _
    · exact faults _
    · exact moves _ _
  case h_3 =>
    split
    · exact moves _ _
    · exact faults _
  case h_4 =>
    split
    · exact faults _
    · exact moves _ _
  case h_5 =>
    (repeat' split)
    · exact moves _ _
    · exact moves _ _
    · exact faults _

theorem performNavigation_keeps (e : ScoreEntry) (i : Nat) (kept : P [] s) : P [] (performNavigation e i s) := by
  unfold performNavigation
  dsimp only
  (repeat' split)
  · exact rules.scoreFault_keeps _ _ kept
  · exact rules.scoreFault_keeps _ _ kept
  · exact rules.navigate_keeps _ _ (rules.performScore_keeps _ _ kept)
  · exact rules.performScore_keeps _ _ kept

theorem scoreStep_keeps (e : ScoreEntry) (kept : P [] s) : P [] (scoreStep e s) := by
  unfold scoreStep
  dsimp only
  split
  · exact rules.moveCursor_keeps _ _ (rules.performScore_keeps _ _ kept)
  · exact rules.performScore_keeps _ _ kept

/-- R137: a run is its places in turn. -/
theorem scoreRun_keeps (places : Nat) (kept : P [] s) : P [] (scoreRun places s) := by
  induction places, s using scoreRun.induct with
  | case1 s => exact kept
  | case2 s e navigation => rwa [show scoreRun 1 s = s from if_pos navigation]
  | case3 s e navigation left t on ih =>
    rw [show scoreRun (left + 2) s = scoreRun left t from (if_pos navigation).trans (if_pos on)]
    exact ih (rules.performNavigation_keeps _ _ kept)
  | case4 s e navigation left t off =>
    rw [show scoreRun (left + 2) s = t from (if_pos navigation).trans (if_neg off)]
    exact rules.performNavigation_keeps _ _ kept
  | case5 left s e entry t on ih =>
    rw [show scoreRun (left + 1) s = scoreRun left t from (scoreRun_succ (Bool.eq_false_iff.2 entry)).trans (if_pos on)]
    exact ih (rules.scoreStep_keeps _ kept)
  | case6 left s e entry t off =>
    rw [show scoreRun (left + 1) s = t from (scoreRun_succ (Bool.eq_false_iff.2 entry)).trans (if_neg off)]
    exact rules.scoreStep_keeps _ kept

theorem takeStep_keeps (kept : P [] s) : P [] (takeStep s) := by
  have performed : P [] (performTake (takeAt s s.pbe.cursor) s.pbe.cursor s) := by
    unfold performTake
    split
    · exact rules.performNoteOn_keeps _ _ _ _ kept
    · exact rules.performNoteOff_keeps _ kept
    · exact rules.performPedal_keeps _ _ kept
    · exact kept
  unfold takeStep
  dsimp only
  split
  · exact rules.stopSteps_keeps _ (rules.modPbe_keeps _ performed)
  · exact rules.modPbe_keeps _ (rules.modPbe_keeps _ performed)

theorem takeRun_keeps (places : Nat) (kept : P [] s) : P [] (takeRun places s) := by
  induction places generalizing s with
  | zero => exact kept
  | succ places ih =>
    rw [takeRun]
    split
    · exact ih (rules.takeStep_keeps kept)
    · exact rules.takeStep_keeps kept

theorem playUnit_keeps (kept : P [] s) : P [] (playUnit s) := by
  have counted : P [] (countDown s) := rules.modPbe_keeps _ kept
  unfold playUnit performRun
  dsimp only
  split
  · refine rules.endGroup_keeps ?_
    split
    · exact rules.scoreRun_keeps _ counted
    · exact rules.takeRun_keeps _ counted
  · exact counted

theorem playbackSweep_keeps (kept : P [] s) : P [] (playbackSweep s) := by
  unfold playbackSweep
  split
  · exact rules.playUnit_keeps kept
  · split
    · exact rules.playUnit_keeps (rules.same (by simp) kept)
    · exact rules.modPbe_keeps _ kept
  · exact kept
  · exact kept
  · exact kept

theorem afterPlacing_keeps (kept : P [] s) : P [] (afterPlacing s) := by
  unfold afterPlacing
  (repeat' split)
  · exact rules.scoreFault_keeps _ _ kept
  · exact kept
  · exact rules.stopSteps_keeps _ kept
  · exact kept

/-! ### Sweeps -/

theorem expireInterByte_keeps (kept : P [] s) : P [] (expireInterByte s) := by
  unfold expireInterByte
  split
  · exact rules.modLnk_keeps (fun _ => ⟨rfl, rfl, rfl, rfl⟩) kept
  · exact kept

theorem takeOwedExpiries_keeps (kept : P [] s) : P [] (takeOwedExpiries s) := by
  have gates : P [] (gatesExpired s) :=
    foldl_invariant (P []) _ (fun _ _ before => rules.same (by simp) before) _ _ kept
  have aged : P [] (expireStrikeAge (gatesExpired s)) := rules.same (s := gatesExpired s) (by simp) gates
  exact rules.expireInterByte_keeps (rules.expireRailMove_keeps (rules.expireRailWait_keeps aged))

theorem beginSweep_keeps (kept : P [] s) : P [] (beginSweep s) := by
  have advanced : P [] (advanceSweep (countWarmup (takeOwedExpiries s))) :=
    rules.same (s := takeOwedExpiries s) (by simp) (rules.takeOwedExpiries_keeps kept)
  unfold beginSweep
  dsimp only
  split
  · exact rules.report _ advanced
  · exact advanced

/-- R2: each sample is an event of its own. -/
theorem takeSamples_keeps (samples : List (Channel × Raw)) (kept : P [] s) : P [] (takeSamples samples s) :=
  foldl_invariant (P []) _ (fun _ x before => rules.sends (rules.convert_keeps x.1 x.2 before)) _ _ kept

/-- R159, R178: the sweep events of TKR and PRM. -/
theorem laterSweeps_keeps (kept : P [] s) : P [] (practiceSweep (recorderSweep s)) :=
  rules.practiceSweep_keeps (rules.recorderSweep_keeps kept)

theorem beforePlayback_keeps (kept : P [] s) : P [] (beforePlayback s) := by
  have begins (later : List (List (Channel × Raw))) : P [] (beginSweep { s with early := later }) :=
    rules.beginSweep_keeps (rules.same (s := s) ⟨rfl, rfl, rfl⟩ kept)
  unfold beforePlayback
  split
  · exact rules.beginSweep_keeps kept
  · dsimp only
    split
    · exact begins _
    · exact rules.takeSamples_keeps _ (rules.sends (rules.laterSweeps_keeps (begins _)))

theorem startSweep_keeps (kept : P [] s) : P [] (startSweep s) := by
  have played : P [] (playbackSweep (beforePlayback s)) := rules.playbackSweep_keeps (rules.beforePlayback_keeps kept)
  unfold startSweep
  dsimp only
  split
  · exact played
  · exact rules.laterSweeps_keeps played

end TrafficRules
end Sys2Proof.Machine

namespace Sys2Proof.Machine

namespace TrafficRules

variable {P : List Key → State → Prop} (rules : TrafficRules P)

section
include rules

/-! ### The owners of the commands -/

/-- An owner whose answers leave VDP, PTR and LNK. -/
theorem owner_of_same {own : State → Answer}
    (same : ∀ s, (own s).st.vdp = s.vdp ∧ (own s).st.ptr = s.ptr ∧ (own s).st.lnk = s.lnk) : OwnerKeeps (P []) own :=
  fun s kept => rules.same (same s) kept

theorem ownCalWrite_keeps (records : List CalArgs) : OwnerKeeps (P []) (ownCalWrite records) := fun s kept => by
  unfold ownCalWrite
  (repeat' split)
  · exact kept
  · exact kept
  · refine takeRecords_keeps (fun a w before => ?_) _ kept
    unfold takeCal
    (repeat' split)
    · exact before
    · exact rules.setKeyRec_keeps _ _ before
    · exact before

theorem takePcal_keeps (a : PcalArgs) (w : WriteResult) (kept : P [] w.st) : P [] (takePcal a w).st := by
  have rail (c : PcalRecord) : P [] (placeRailCal c w.st) := rules.modRlc_keeps _ kept
  unfold takePcal
  dsimp only
  (repeat' split)
  · exact rules.emptyGroup_keeps _ (rules.setPedalRec_keeps _ _ kept)
  · exact kept
  · exact kept
  · exact rail _
  · exact kept

theorem ownPcalWrite_keeps (records : List PcalArgs) : OwnerKeeps (P []) (ownPcalWrite records) := fun s kept => by
  unfold ownPcalWrite
  (repeat' split)
  · exact kept
  · exact kept
  · exact takeRecords_keeps rules.takePcal_keeps _ kept

/-- R57: a threshold write is followed by the tests of HOLD and of the latch. -/
theorem testThresholds_keeps {s : State} (kept : P [] s) : P [] (testThresholds s) :=
  rules.testLatch_keeps (rules.testHold_keeps kept)

theorem takeParam_keeps (a : ParamArgs) (w : WriteResult) (kept : P [] w.st) : P [] (takeParam a w).st := by
  have stored (f : Params → Params) : P [] (w.st.modPar f) := rules.modPar_keeps f kept
  unfold takeParam
  dsimp only
  split
  · exact rules.emptyGroup_keeps _ (rules.emptyGroup_keeps _ (rules.emptyGroup_keeps _ (stored _)))
  · exact rules.testThresholds_keeps (stored _)
  · exact rules.testThresholds_keeps (stored _)
  · exact rules.afterModeWrite_keeps _ (stored _)
  · exact rules.afterModeWrite_keeps _ (stored _)
  · unfold takeTakeSize
    split
    · exact rules.same (by simp [WriteResult.taken, moveBoundary]) kept
    · exact kept
  · exact stored _

theorem ownParamWrite_keeps (entries : List ParamArgs) : OwnerKeeps (P []) (ownParamWrite entries) := fun s kept => by
  unfold ownParamWrite
  (repeat' split)
  · exact kept
  · exact kept
  · exact takeRecords_keeps rules.takeParam_keeps _ kept

theorem ownCurveWrite_keeps (curve first : Byte) (points : List Byte) :
    OwnerKeeps (P []) (ownCurveWrite curve first points) := rules.owner_of_same fun s => by
  unfold ownCurveWrite
  dsimp only
  (repeat' split) <;> exact ⟨rfl, rfl, rfl⟩

theorem ownLoudWrite_keeps (first : Byte) (gains : List Half) : OwnerKeeps (P []) (ownLoudWrite first gains) :=
  rules.owner_of_same fun s => by
    unfold ownLoudWrite
    dsimp only
    (repeat' split) <;> exact ⟨rfl, rfl, rfl⟩

theorem ownClickWrite_keeps (sound first : Byte) (samples : List Half) :
    OwnerKeeps (P []) (ownClickWrite sound first samples) := fun s kept => by
  have stores (snd : Sound) : P [] (storeClick snd first.toNat samples s) := by
    cases snd <;> exact rules.same (s := s) ⟨rfl, rfl, rfl⟩ kept
  unfold ownClickWrite
  (repeat' split)
  · exact kept
  · exact kept
  · exact kept
  · exact stores _

theorem ownTableWriteFrame_keeps (payload : List Byte) : OwnerKeeps (P []) (ownTableWriteFrame payload) :=
  fun s kept => by
    unfold ownTableWriteFrame
    split
    · exact kept
    · split
      · exact OwnerKeeps.withRecords rules.ownCalWrite_keeps _ s kept
      · exact OwnerKeeps.withRecords rules.ownPcalWrite_keeps _ s kept
      · exact rules.ownCurveWrite_keeps _ _ _ s kept
      · exact OwnerKeeps.withRecords rules.ownParamWrite_keeps _ s kept
      · exact OwnerKeeps.withRecords (rules.ownLoudWrite_keeps _) _ s kept
      · exact OwnerKeeps.withRecords (rules.ownClickWrite_keeps _ _) _ s kept
      · exact kept

theorem ownRail_keeps (target : Byte) : OwnerKeeps (P []) (ownRail target) := fun s kept => by
  unfold ownRail
  (repeat' split)
  · exact kept
  · exact kept
  · exact kept
  · exact rules.railRequest_keeps _ kept

theorem ownScoreWrite_keeps (start : Half) (entries : List Entry) : OwnerKeeps (P []) (ownScoreWrite start entries) :=
  rules.owner_of_same fun s => by
    unfold ownScoreWrite
    (repeat' split) <;> exact ⟨rfl, rfl, rfl⟩

/-- R150 step 7, R154: the report of the place, TKR's entry, and what follows at the end of the material. -/
theorem placed_keeps (cause : PlayCause) {s : State} (kept : P [] s) :
    P [] (afterPlacing (tellRecorder (playReport cause s))) := by
  have reported := rules.playReport_keeps cause kept
  refine rules.afterPlacing_keeps ?_
  unfold tellRecorder
  split
  · exact rules.playbackPlaced_keeps _ reported
  · exact reported

theorem ownPlay_keeps (source mark : Byte) : OwnerKeeps (P []) (ownPlay source mark) := fun s kept => by
  have plays (src : Source) (place : Nat) : P [] (playFrom src place s) := by
    refine rules.placed_keeps _ ?_
    cases src <;> exact rules.same (by simp [fixWindow]) kept
  unfold ownPlay
  (repeat' split)
  · exact kept
  · exact kept
  · exact kept
  · exact kept
  · exact plays _ _

theorem ownStop_keeps : OwnerKeeps (P []) ownStop := fun s kept => by
  unfold ownStop
  split
  · exact kept
  · exact rules.stopSteps_keeps _ kept

theorem ownPause_keeps : OwnerKeeps (P []) ownPause := fun s kept => by
  have pauses (saved : SavedState) : P [] (pauseFrom saved s) :=
    rules.playReport_keeps _ (rules.modPrm_keeps _ (rules.clearAll_keeps (rules.modPbe_keeps _ kept)))
  unfold ownPause
  split
  · exact kept
  · exact kept
  · exact pauses _
  · exact pauses _

theorem ownResume_keeps : OwnerKeeps (P []) ownResume := fun s kept => by
  unfold ownResume
  split
  · exact kept
  · exact kept
  · exact kept
  · exact rules.playReport_keeps _ (rules.same (by simp) kept)

theorem ownLocate_keeps (mark : Byte) : OwnerKeeps (P []) (ownLocate mark) := fun s kept => by
  have locates (place : Nat) : P [] (locateAt place s) :=
    rules.placed_keeps _ (rules.same (by simp) kept)
  unfold ownLocate
  (repeat' split)
  · exact kept
  · exact kept
  · exact locates _

theorem ownArm_keeps (mode : Byte) : OwnerKeeps (P []) (ownArm mode) := rules.owner_of_same fun s => by
  unfold ownArm armRecorder
  (repeat' split) <;> simp [armAnswer, answerOk, answerRefused]

theorem ownStopCapture_keeps : OwnerKeeps (P []) ownStopCapture := rules.owner_of_same fun s => by
  unfold ownStopCapture answerOk
  dsimp only
  split <;> simp

theorem ownCaptureClear_keeps : OwnerKeeps (P []) ownCaptureClear := rules.owner_of_same fun s => by
  unfold ownCaptureClear
  split <;> simp [answerOk, answerRefused]

theorem ownVoicePass_keeps (bytes : List Byte) : OwnerKeeps (P []) (ownVoicePass bytes) := fun s kept => by
  unfold ownVoicePass
  (repeat' split)
  · exact kept
  · next room => exact rules.voiceEnqueue_keeps room kept
  · exact kept

theorem allDamp_keeps {s : State} (kept : P [] s) : P [] (allDamp s) := rules.damped (allDamp_damped s) (by simp) kept

theorem ownDampAll_keeps : OwnerKeeps (P []) ownDampAll := fun _ kept => rules.allDamp_keeps kept

theorem ownWatch_keeps (channel : Byte) (count : Half) : OwnerKeeps (P []) (ownWatch channel count) := fun s kept => by
  have closed := rules.closeWatch_keeps kept
  have opened (c : Channel) (n : Nat) : P [] (openWatch c n s) := rules.modScn_keeps _ closed
  unfold ownWatch
  (repeat' split)
  · exact closed
  · exact kept
  · exact opened _ _

theorem ownClearFlags_keeps : OwnerKeeps (P []) ownClearFlags := fun _ kept =>
  rules.modLnk_keeps (fun _ => ⟨rfl, rfl, rfl, rfl⟩) (rules.modPbe_keeps _
    (rules.modVdp_keeps (fun _ => ⟨rfl, rfl, rfl⟩) (rules.modHpm_keeps _ kept)))

theorem ownResetPractice_keeps : OwnerKeeps (P []) ownResetPractice := fun s kept => by
  have stopped : P [] (resetPlayback s) := rules.modPbe_keeps _ (rules.stopSteps_keeps _ kept)
  have cleared : P [] (resetMonitor (resetPlayback s)) := rules.modPrm_keeps _ stopped
  have ended : P [] (endTake (resetMonitor (resetPlayback s))) := rules.modTkr_keeps _ cleared
  exact ended

theorem ownResetVoices_keeps : OwnerKeeps (P []) ownResetVoices := fun s kept => by
  have zeroed : P [] ((allDamp s).modVdp fun v => { v with dropCount := 0 }) :=
    rules.modVdp_keeps (fun _ => ⟨rfl, rfl, rfl⟩) (rules.allDamp_keeps kept)
  exact zeroed

theorem ownReset_keeps (scope : Byte) : OwnerKeeps (P []) (ownReset scope) := fun s kept => by
  unfold ownReset
  (repeat' split)
  · exact rules.ownResetPractice_keeps s kept
  · exact rules.ownResetVoices_keeps s kept
  · exact kept

theorem ownerOf_keeps (kind : Byte) (payload : List Byte) : OwnerKeeps (P []) (ownerOf kind payload) := by
  unfold ownerOf
  split
  · exact .formNone payload (.of_st fun _ => rfl)
  · exact rules.ownTableWriteFrame_keeps payload
  · exact .of_st (ownTableReadFrame_st payload)
  · exact .formByte payload rules.ownRail_keeps
  · exact .formScoreWrite payload rules.ownScoreWrite_keeps
  · exact .formTwoHalves payload fun a b => .of_st (ownScoreRead_st · a b)
  · exact .formTwoBytes payload rules.ownPlay_keeps
  · exact .formNone payload rules.ownStop_keeps
  · exact .formNone payload rules.ownPause_keeps
  · exact .formNone payload rules.ownResume_keeps
  · exact .formByte payload rules.ownLocate_keeps
  · exact .formByte payload rules.ownArm_keeps
  · exact .formNone payload rules.ownStopCapture_keeps
  · exact .formTwoHalves payload fun a b => .of_st (ownCaptureRead_st · a b)
  · exact .formNone payload rules.ownCaptureClear_keeps
  · exact rules.ownVoicePass_keeps payload
  · exact .formNone payload rules.ownDampAll_keeps
  · exact .formByteHalf payload rules.ownWatch_keeps
  · exact .formNone payload (.of_st fun _ => rfl)
  · exact .formNone payload rules.ownClearFlags_keeps
  · exact .formByte payload rules.ownReset_keeps

/-! ### Resets -/

/-- R83, R196: a DEVICE RESET leaves the reset tables of VDP and of LNK's queues. -/
theorem deviceReset_keeps (s : State) : P [] (deviceReset s) :=
  rules.voiceChoose_keeps (rules.reads (s := State.powerOn) ⟨rfl, rfl, rfl, rfl, rfl, rfl, rfl, rfl, rfl⟩ rules.powerOn)

theorem releaseReset_keeps {s : State} (kept : P [] s) : P [] (releaseReset s) := by
  unfold releaseReset
  split
  · exact rules.voiceChoose_keeps (rules.same (s := s) ⟨rfl, rfl, rfl⟩ kept)
  · exact kept

end

/-! ### Commands and their replies (R189) -/

/-- What a property asks for while the owner of a command acts: with room for one more reply `Q` holds, which the owner
keeps, and from which the property holds again with the reply in its queue. -/
structure Answering (P Q : List Key → State → Prop) : Prop where
  owner : TrafficRules Q
  room {s : State} : P [] s → replyRoom s = true → Q [] s
  replies {s : State} (r : Reply) : Q [] s → P [] (s.modLnk fun l => { l with replies := l.replies ++ [r] })

variable {Q : List Key → State → Prop} (answering : Answering P Q) {s : State}
include rules answering

theorem acceptCommand_keeps {own : State → Answer} (keeps : OwnerKeeps (Q []) own) (kind : Byte) (kept : P [] s) :
    P [] (acceptCommand kind own s) := by
  unfold acceptCommand
  split
  · next room => exact answering.replies _ (keeps s (answering.room kept room))
  · exact rules.modLnk_keeps (fun _ => ⟨rfl, rfl, rfl, rfl⟩) kept

theorem takeCommand_keeps (kind : Byte) (payload : List Byte) (kept : P [] s) : P [] (takeCommand kind payload s) := by
  unfold takeCommand
  split
  · exact rules.deviceReset_keeps s
  · exact rules.acceptCommand_keeps answering (answering.owner.ownerOf_keeps kind payload) kind kept

theorem takeByte_keeps (b : Byte) (kept : P [] s) : P [] (takeByte b s) := by
  have receives (rx : Rx) : P [] (receiverTo rx s) := rules.modLnk_keeps (fun _ => ⟨rfl, rfl, rfl, rfl⟩) kept
  have drops : P [] (dropFrame s) := rules.modLnk_keeps (fun _ => ⟨rfl, rfl, rfl, rfl⟩) kept
  unfold takeByte checkFrame
  split
  · split
    · exact receives _
    · exact kept
  · exact receives _
  · (repeat' split)
    · exact drops
    · exact receives _
    · exact receives _
  · dsimp only
    split
    · exact receives _
    · exact receives _
  · split
    · exact rules.takeCommand_keeps answering _ _ (rules.modLnk_keeps (fun _ => ⟨rfl, rfl, rfl, rfl⟩) kept)
    · exact drops

theorem receiveByte_keeps (b : Byte) (framingError : Bool) (kept : P [] s) : P [] (receiveByte b framingError s) := by
  unfold receiveByte takeBadByte
  (repeat' split)
  · exact kept
  · exact rules.modLnk_keeps (fun _ => ⟨rfl, rfl, rfl, rfl⟩) kept
  · exact rules.takeByte_keeps answering b kept

/-! ### Every event -/

omit answering in
/-- An event of a running part: its effect, then the link transmitter's choice. -/
theorem of_effect {effect : State → State} (effective : ∀ s, P [] s → P [] (effect s)) :
    EventKeeps (P []) (partEvent effect) := fun s t kept next => by
  simp only [partEvent, Host.Outcome.next.injEq] at next
  subst next
  split
  · exact kept
  · exact rules.sends (effective s kept)

omit answering in
/-- An event named for what comes about in a larger one keeps what the larger one keeps. -/
theorem of_onlyWhen {effect : State → State} (effective : ∀ s, P [] s → P [] (effect s)) (due : State → Bool) :
    EventKeeps (P []) (partEvent (onlyWhen due effect)) :=
  rules.of_effect fun s kept => by
    unfold onlyWhen
    split
    · exact effective s kept
    · exact kept

theorem of_owner {own : State → Answer} (keeps : OwnerKeeps (Q []) own) (kind : Byte) :
    EventKeeps (P []) (partEvent (acceptCommand kind own)) :=
  rules.of_effect fun _ kept => rules.acceptCommand_keeps answering keeps kind kept

theorem exec_keeps (i : Instr) : EventKeeps (P []) (exec i) := by
  have convert (c : Channel) (r : Raw) (s : State) (kept : P [] s) : P [] (convert c r s) :=
    rules.convert_keeps c r kept
  have sweep (s : State) (kept : P [] s) : P [] (startSweep s) := rules.startSweep_keeps kept
  have period (f : AudioFrame) (s : State) (kept : P [] s) : P [] (samplePeriod f s) := rules.samplePeriod_keeps f kept
  have command {own : State → Answer} (keeps : OwnerKeeps (Q []) own) (kind : Byte) :
      EventKeeps (P []) (partEvent (acceptCommand kind own)) := rules.of_owner answering keeps kind
  have owners := answering.owner
  cases i with
  | powerOnReset =>
    rintro s t - ⟨⟩
    exact rules.reads (s := State.powerOn) ⟨rfl, rfl, rfl, rfl, rfl, rfl, rfl, rfl, rfl⟩ rules.powerOn
  | deviceReset => exact rules.of_effect fun s _ => rules.deviceReset_keeps s
  | resetPractice => exact command owners.ownResetPractice_keeps _
  | resetVoices => exact command owners.ownResetVoices_keeps _
  | ping => exact command (.of_st fun _ => rfl) _
  | tableRead code sel first count => exact command (.of_st (ownTableRead_st · code sel first count)) _
  | calWrite records => exact command (owners.ownCalWrite_keeps records) _
  | pcalWrite records => exact command (owners.ownPcalWrite_keeps records) _
  | curveWrite curve first points => exact command (owners.ownCurveWrite_keeps curve first points) _
  | loudWrite first gains => exact command (owners.ownLoudWrite_keeps first gains) _
  | clickWrite sound first samples => exact command (owners.ownClickWrite_keeps sound first samples) _
  | paramWrite entries => exact command (owners.ownParamWrite_keeps entries) _
  | warmupWrite value => exact command (owners.ownParamWrite_keeps _) _
  | pedalAccumWrite value => exact command (owners.ownParamWrite_keeps _) _
  | holdOnWrite value => exact command (owners.ownParamWrite_keeps _) _
  | holdOffWrite value => exact command (owners.ownParamWrite_keeps _) _
  | practiceModeWrite value => exact command (owners.ownParamWrite_keeps _) _
  | partMaskWrite value => exact command (owners.ownParamWrite_keeps _) _
  | takeSizeWrite value => exact command (owners.ownParamWrite_keeps _) _
  | rail target => exact command (owners.ownRail_keeps target) _
  | scoreWrite start entries => exact command (owners.ownScoreWrite_keeps start entries) _
  | scoreRead start count => exact command (.of_st (ownScoreRead_st · start count)) _
  | play source mark => exact command (owners.ownPlay_keeps source mark) _
  | stop => exact command owners.ownStop_keeps _
  | pause => exact command owners.ownPause_keeps _
  | resume => exact command owners.ownResume_keeps _
  | locate mark => exact command (owners.ownLocate_keeps mark) _
  | arm mode => exact command (owners.ownArm_keeps mode) _
  | stopCapture => exact command owners.ownStopCapture_keeps _
  | captureRead offset count => exact command (.of_st (ownCaptureRead_st · offset count)) _
  | captureClear => exact command owners.ownCaptureClear_keeps _
  | voicePass bytes => exact command (owners.ownVoicePass_keeps bytes) _
  | dampAll => exact command owners.ownDampAll_keeps _
  | watch channel count => exact command (owners.ownWatch_keeps channel count) _
  | status => exact command (.of_st fun _ => rfl) _
  | clearFlags => exact command owners.ownClearFlags_keeps _
  | sweep => exact rules.of_effect sweep
  | conversion c r => exact rules.of_effect (convert c r)
  | warmupEnd => exact rules.of_onlyWhen sweep _
  | channelFault c r => exact rules.of_onlyWhen (convert c r) _
  | channelRecovery c r => exact rules.of_onlyWhen (convert c r) _
  | gateExpiry k => exact rules.of_effect fun s kept => rules.same (by simp) kept
  | strikeAgeExpiry => exact rules.of_effect fun s kept => rules.same (by simp) kept
  | pedalGroupComplete p r => exact rules.of_onlyWhen (convert (.pedal p) r) _
  | railWaitExpiry => exact rules.of_effect fun _ kept => rules.expireRailWait_keeps kept
  | railMoveExpiry => exact rules.of_effect fun _ kept => rules.expireRailMove_keeps kept
  | railDriftHalt r => exact rules.of_onlyWhen (convert .rail r) _
  | outputSamplePeriod f => exact rules.of_effect (period f)
  | jackAdoption f => exact rules.of_onlyWhen (period f) _
  | clickEnd f => exact rules.of_onlyWhen (period f) _
  | pulse => exact rules.of_onlyWhen sweep _
  | run => exact rules.of_onlyWhen sweep _
  | deadlineExpiry => exact rules.of_onlyWhen sweep _
  | waitTimerExpiry => exact rules.of_onlyWhen sweep _
  | staleStrikeAged => exact rules.of_onlyWhen sweep _
  | takeGap => exact rules.of_onlyWhen sweep _
  | voiceFrameCompletion => exact rules.of_effect fun _ kept => rules.voiceComplete_keeps kept
  | holdInChange high =>
    exact fun s t kept => rules.of_effect (fun _ before => rules.voiceChoose_keeps before) _ t
      (rules.modVdp_keeps (fun _ => ⟨rfl, rfl, rfl⟩) kept)
  | byteReceived b framingError =>
    exact rules.of_effect fun _ kept => rules.receiveByte_keeps answering b framingError kept
  | interByteTimeout => exact rules.of_effect fun _ kept => rules.expireInterByte_keeps kept
  | linkFrameCompletion =>
    exact rules.of_effect fun _ kept => rules.modLnk_keeps (fun _ => ⟨rfl, rfl, rfl, rfl⟩) kept
  | resetNRelease => rintro s t kept ⟨⟩; exact rules.releaseReset_keeps kept

/-- Every step keeps a property of the traffic on the two links. -/
theorem step_keeps {t : State} (kept : P [] s) (next : step s = .next t) : P [] t := by
  unfold step at next
  split at next
  · cases next
    exact kept
  · exact rules.exec_keeps answering _ _ _ (rules.same (s := s) (by exact ⟨rfl, rfl, rfl⟩) kept) next

end TrafficRules

theorem answering_queues : TrafficRules.Answering (fun _ => QueuesWithin 4) (fun _ => QueuesWithin 3) where
  owner := trafficRules_queues 3
  room within room := by
    obtain ⟨queue, -, classes⟩ := within
    have below : _ < 4 := of_decide_eq_true room
    exact ⟨queue, Nat.le_of_lt_succ below, classes⟩
  replies r within := by
    obtain ⟨queue, replies, classes⟩ := within
    refine ⟨queue, by simpa using Nat.lt_succ_of_le replies, fun c => ?_⟩
    cases c
    exacts [classes .n, classes .p, classes .e]

theorem answering_limits : TrafficRules.Answering (fun _ => VoiceLimits) (fun _ => VoiceLimits) where
  owner := trafficRules_limits
  room limits _ := limits
  replies _ limits := limits

theorem answering_owed : TrafficRules.Answering OwedBut OwedBut where
  owner := trafficRules_owed
  room owed _ := owed
  replies _ owed := owed

/-- Settles O55: VDP and LNK look at the room of a queue before each frame, reply or report joins it; and a place that
falls free in the voice queue goes to what is owed or remembered. -/
theorem stepKeepsQueues : Obligations.StepKeepsQueues := by
  refine ⟨fun s t queues next => ?_, fun s t queues limits next => ?_⟩
  · rw [keepsQueues_iff] at queues ⊢
    exact (trafficRules_queues 4).step_keeps answering_queues queues next
  · exact (trafficRules_limits.step_keeps answering_limits ⟨queues.1, limits⟩ next).2

/-- Settles O59: whatever releases a key or makes it sound is followed, in the same event, by its release evaluation. -/
theorem stepKeepsOwed : Obligations.StepKeepsOwed := by
  intro s t owed next
  rw [keepsOwed_iff] at owed ⊢
  exact trafficRules_owed.step_keeps answering_owed owed next

end Sys2Proof.Machine

namespace Sys2Proof.Machine

/-! ## DAMP_ALL and RESET_VOICES (R80, R81, R196) -/

/-- Settles O8: both commands make the ALL DAMP handling, which `dampedVdp` says item by item. -/
theorem allDampHandling : Obligations.AllDampHandling := by
  intro s takes
  refine ⟨dampedVdp s, ?dampAll, ?resetVoices, dampedVdp_table s, rfl, rfl, rfl, rfl, rfl, ?transmitter⟩
  case dampAll =>
    refine (acceptCommand_takes takes kindDampAll ownDampAll).trans ?_
    rw [ownDampAll, allDamp_eq]
    rfl
  case resetVoices =>
    refine (acceptCommand_takes takes kindReset ownResetVoices).trans ?_
    rw [ownResetVoices, allDamp_eq]
    rfl
  case transmitter =>
    cases flight : s.vdp.inFlight <;> simp [dampedVdp, flight]

/-! ## The choice of the voice transmitter (R75, R77, R78, R79) -/

section
variable {s : State}

theorem voiceChoose_sending (sending : s.vdp.inFlight ≠ none) : voiceChoose s = s := by
  obtain ⟨f, flight⟩ := Option.ne_none_iff_exists'.1 sending
  exact voiceChoose_busy flight

/-- R79: ALL DAMP goes first, whatever HOLD_IN shows. -/
theorem voiceChoose_urgent (idle : s.vdp.inFlight = none) (urgent : s.vdp.urgent = true) :
    voiceChoose s = { s with vdp := { s.vdp with urgent := false, inFlight := some .allDamp } } := by
  simp [voiceChoose, idle, urgent, State.modVdp]

/-- R77, R78: nothing is sent while HOLD_IN is asserted or the queue is empty. -/
theorem voiceChoose_waits (urgent : s.vdp.urgent = false) (waits : s.vdp.holdIn = true ∨ s.vdp.queue = []) :
    voiceChoose s = s := by
  rcases waits with asserted | empty
  · cases flight : s.vdp.inFlight <;> simp [voiceChoose, flight, urgent, asserted]
  · cases flight : s.vdp.inFlight <;> simp [voiceChoose, flight, urgent, empty]

/-- R75, R77: the head frame departs, and its place is refilled. -/
theorem voiceChoose_departs {f : VoiceFrame} {rest : List VoiceFrame} (idle : s.vdp.inFlight = none)
    (urgent : s.vdp.urgent = false) (released : s.vdp.holdIn = false) (queue : s.vdp.queue = f :: rest) :
    voiceChoose s = refill { s with vdp := { s.vdp with inFlight := some f, queue := rest } } := by
  simp [voiceChoose, idle, urgent, released, queue, State.modVdp]

theorem voiceComplete_sending (sending : s.vdp.inFlight ≠ none) :
    voiceComplete s = voiceChoose { s with vdp := { s.vdp with inFlight := none } } := by
  obtain ⟨f, flight⟩ := Option.ne_none_iff_exists'.1 sending
  simp [voiceComplete, flight, State.modVdp]

theorem voiceComplete_idle (idle : s.vdp.inFlight = none) : voiceComplete s = s := by simp [voiceComplete, idle]

end

/-! ### What a refill takes (R75) -/

/-- R75: keys that are not in the off-pending set are passed over. -/
theorem refillOffPending_unowed {before : List Key} {s : State} (unowed : ∀ j ∈ before, (s.sound j).offPending = false)
    (after : List Key) : refillOffPending (before ++ after) s = refillOffPending after s := by
  induction before with
  | nil => rfl
  | cons j before ih =>
    obtain ⟨first, others⟩ := List.forall_mem_cons.1 unowed
    simp [refillOffPending, first, ih others]

/-- The keys below k come first in the scan. -/
theorem allKeys_split (k : Key) : ∃ before after, allKeys = before ++ k :: after ∧ ∀ j ∈ before, j < k := by
  obtain ⟨before, after, split⟩ := List.append_of_mem (List.mem_finRange k)
  have rising := List.pairwise_lt_finRange 88
  rw [split, List.pairwise_append] at rising
  exact ⟨before, after, split, fun j inside => rising.2.2 j inside k List.mem_cons_self⟩

theorem refill_unowed {s : State} (unowed : ∀ k, (s.sound k).offPending = false) : refill s = refillPedal s := by
  have scanned : refillOffPending allKeys s = s := by
    simpa [refillOffPending] using refillOffPending_unowed (fun j (_ : j ∈ allKeys) => unowed j) []
  rw [refill, scanned]
  exact if_pos rfl

/-- R75: the lowest owed key that sounds unheld gets its NOTE-OFF. -/
theorem refill_owed {s : State} {k : Key} (lower : ∀ j < k, (s.sound j).offPending = false)
    (owed : (s.sound k).offPending = true) (sounds : (s.sound k).sounding = true) (unheld : held s k = false) :
    refill s = pushFrame (noteOffFrame s k) (setSound k { s.sound k with offPending := false, sounding := false } s) := by
  obtain ⟨before, after, split, below⟩ := allKeys_split k
  have scanned : refillOffPending allKeys s =
      pushFrame (noteOffFrame s k) (setSound k { s.sound k with offPending := false, sounding := false } s) := by
    rw [split, refillOffPending_unowed fun j inside => lower j (below j inside)]
    simp [refillOffPending, owed, sounds, unheld]
  rw [refill, scanned]
  exact if_neg (by simp)

/-- Settles O32. -/
theorem voiceTransmitterChooses : Obligations.VoiceTransmitterChooses := by
  refine ⟨fun s runs => ⟨?completes, ?idle, ?released, ?asserted⟩, fun s => voiceChoose_sending,
    fun s => voiceChoose_urgent, fun s _ => voiceChoose_waits, fun f rest s idle urgent released queue => ?_⟩
  case completes =>
    intro sending
    exact (partEvent_runs runs voiceComplete).trans (by rw [voiceComplete_sending sending])
  case idle =>
    intro idle
    exact (partEvent_runs runs voiceComplete).trans (by rw [voiceComplete_idle idle])
  case released => exact partEvent_runs (s := s.modVdp fun v => { v with holdIn := false }) runs voiceChoose
  case asserted =>
    intro waits
    have silent : voiceChoose (s.modVdp fun v => { v with holdIn := true }) = s.modVdp fun v => { v with holdIn := true } :=
      waits.elim (fun sending => voiceChoose_sending sending) fun calm => voiceChoose_waits calm (.inl rfl)
    refine (partEvent_runs (s := s.modVdp fun v => { v with holdIn := true }) runs voiceChoose).trans ?_
    rw [silent]
    rfl
  rw [voiceChoose_departs idle urgent released queue]
  refine ⟨fun unowed forgotten => ?nothing, fun unowed level remembered => ?pedal, fun k lower owed sounds unheld => ?key⟩
  case nothing =>
    refine (refill_unowed ?_).trans ?_
    · exact unowed
    · simp [refillPedal, forgotten, PerPedal.get]
  case pedal =>
    refine (refill_unowed ?_).trans ?_
    · exact unowed
    · simp [refillPedal, remembered, PerPedal.get, PerPedal.set, pushFrame, State.modVdp]
  case key => exact refill_owed (s := { s with vdp := _ }) lower owed sounds unheld

end Sys2Proof.Machine

namespace Sys2Proof.Machine

/-! ## The enqueue rules (R54, R55, R65, R67, R68, R72, R76) -/

/-! ### VOICE_PASS (R76) -/

section
variable {bytes : List Byte} {s : State}

theorem ownVoicePass_badLength (bad : bytes = [] ∨ 32 < bytes.length) :
    ownVoicePass bytes s = answerRefused .badLength s := by
  rcases bad with rfl | long
  · rfl
  · simp [ownVoicePass, long]

variable (some : 1 ≤ bytes.length) (fit : bytes.length ≤ 32)
include some fit

theorem ownVoicePass_joins (room : s.vdp.queue.length < 24) :
    ownVoicePass bytes s = answerOk (voiceEnqueue (.pass bytes) s) [] := by
  simp [ownVoicePass, List.length_pos_iff.1 some, fit.not_gt, Config.voiceNoteLimit, room]

theorem ownVoicePass_full (full : 24 ≤ s.vdp.queue.length) : ownVoicePass bytes s = answerRefused .queueFull s := by
  simp [ownVoicePass, List.length_pos_iff.1 some, fit.not_gt, Config.voiceNoteLimit, full.not_gt]

end

/-! ### The NOTE-ON of a held key (R67, R68) -/

theorem setSound_setSound (k : Key) (a b : SoundRecord) (s : State) :
    setSound k a (setSound k b s) = setSound k a s := by
  simp [setSound, State.modVdp]

section
variable {k : Key} {s : State}

theorem held_pushFrame (f : VoiceFrame) : held (pushFrame f s) k = held s k := rfl

theorem held_voiceDrop (j : Key) (level : Nat) (src : NoteSource) : held (voiceDrop j level src s) k = held s k := by
  have sound : (voiceDrop j level src s).sound k = s.sound k := by
    unfold voiceDrop
    dsimp only
    split <;> simp [State.sound]
  exact held_congr (by rw [sound]) (by rw [sound]) (by simp) (by simp)

/-- R68: while a report waits a drop is counted alone. -/
theorem voiceDrop_waiting (waits : s.vdp.dropWaiting = true) (level : Nat) (src : NoteSource) :
    voiceDrop k level src s = { s with vdp := { s.vdp with dropCount := min 65535 (s.vdp.dropCount + 1) } } := by
  simp [voiceDrop, waits, saturatingSucc, Config.countMax, State.modVdp]

/-- R68, R197: a drop is reported to a class E with room, and its report waits from then on. -/
theorem voiceDrop_reported (unreported : s.vdp.dropWaiting = false) (enabled : s.par.reportEnable.testBit 2 = true)
    (room : s.lnk.classE.length < 16) (level : Nat) (src : NoteSource) :
    voiceDrop k level src s =
      { s with
        vdp := { s.vdp with dropCount := min 65535 (s.vdp.dropCount + 1), dropWaiting := true }
        lnk := { s.lnk with classE :=
          s.lnk.classE ++ [.voiceDrop k level src (min 65535 (s.vdp.dropCount + 1)) s.now] } } := by
  have accepted (count : Nat) (now : Sweep) :
      reportAccepted (.voiceDrop k level src count now)
        (s.modVdp fun v => { v with dropCount := saturatingSucc v.dropCount }) = true := by
    simp [reportAccepted, reportClass, classEnabled, classQueue, classCapacity, Config.classESize, enabled, room]
  unfold voiceDrop
  dsimp only
  rw [if_neg (by simp [unreported]), accepted, handReport_accepted (accepted _ _)]
  rfl

/-- R67: a held key is evaluated without effect, so a NOTE-ON below 24 queued frames queues its frame alone. -/
theorem noteOn_queues (holds : held s k = true) (room : s.vdp.queue.length < 24) (sending : s.vdp.inFlight ≠ none)
    (level : Nat) (src : NoteSource) :
    noteOn k level src s = setSound k
      { s.sound k with sounding := true, lastLevel := level, offPending := false, lastSource := lastSourceOf src }
      { s with vdp := { s.vdp with queue := s.vdp.queue ++ [.noteOn k level src] } } := by
  obtain ⟨f, flight⟩ := Option.ne_none_iff_exists'.1 sending
  unfold noteOn
  dsimp only
  rw [if_pos (by simpa [Config.voiceNoteLimit] using room), voiceEnqueue_busy (f := f) (by simpa using flight),
    setSound_setSound, sound_setSound_self, releaseEval_nothing]
  · rfl
  · rw [held_pushFrame, held_setSound]
    exacts [.inr holds, rfl, rfl]

/-- R68: at 24 or more queued frames a held key's NOTE-ON is dropped. -/
theorem noteOn_drops (holds : held s k = true) (full : 24 ≤ s.vdp.queue.length) (level : Nat) (src : NoteSource) :
    noteOn k level src s = voiceDrop k level src (setSound k { s.sound k with offPending := false } s) := by
  unfold noteOn
  dsimp only
  rw [if_neg (by simpa [Config.voiceNoteLimit] using full), releaseEval_nothing]
  rw [held_voiceDrop, held_setSound]
  exacts [.inr holds, rfl, rfl]

end

/-! ### Release evaluation (R65, R73) -/

theorem releaseEval_queues {k : Key} {s : State} (sounds : (s.sound k).sounding = true) (unheld : held s k = false)
    (unowed : (s.sound k).offPending = false) (room : s.vdp.queue.length < 32) :
    releaseEval k s = voiceChoose (setSound k { s.sound k with sounding := false }
      { s with vdp := { s.vdp with queue :=
        s.vdp.queue ++ [.noteOff k (s.sound k).lastLevel (s.sound k).lastSource] } }) := by
  rw [releaseEval_room sounds unheld unowed room]
  rfl

theorem releaseEval_quiet {k : Key} {s : State}
    (quiet : (s.sound k).sounding = false ∨ held s k = true ∨ (s.sound k).offPending = true) : releaseEval k s = s := by
  rcases quiet with silent | holds | owed
  · exact releaseEval_nothing (.inl silent)
  · exact releaseEval_nothing (.inr holds)
  · simp [releaseEval, owed]

/-! ### Effective levels (R55) and their frames (R72) -/

theorem recomputeEffective_same {p : Pedal} {s : State}
    (same : max (s.pedalRec p).player (s.pedalRec p).playback = (s.pedalRec p).effective) :
    recomputeEffective p s = s := if_pos same

theorem recomputeEffective_changed {p : Pedal} {s : State}
    (changed : max (s.pedalRec p).player (s.pedalRec p).playback ≠ (s.pedalRec p).effective) :
    recomputeEffective p s = testPedal p (voicePedal p (max (s.pedalRec p).player (s.pedalRec p).playback)
      (setPedalRec p { s.pedalRec p with effective := max (s.pedalRec p).player (s.pedalRec p).playback } s)) :=
  if_neg changed

theorem isPedalFrame_absent {p : Pedal} {q : List VoiceFrame} (absent : ∀ l, .pedal p l ∉ q) :
    ∀ f ∈ q, isPedalFrame p f ≠ true := fun f inside isP => by
  obtain ⟨level, rfl⟩ := isPedalFrame_iff.1 isP
  exact absent level inside

theorem any_isPedalFrame_absent {p : Pedal} {q : List VoiceFrame} (absent : ∀ l, .pedal p l ∉ q) :
    q.any (isPedalFrame p) = false := List.any_eq_false.2 (isPedalFrame_absent absent)

theorem replacePedalFrame_absent {p : Pedal} {q : List VoiceFrame} (absent : ∀ l, .pedal p l ∉ q) (level : Nat) :
    replacePedalFrame p level q = q := by
  rw [replacePedalFrame, List.map_congr_left fun f inside => if_neg (isPedalFrame_absent absent f inside), List.map_id']

/-- R72: the level of a pedal's one unsent frame is replaced where it stands. -/
theorem voicePedal_replaces {p : Pedal} {old : Nat} {before after : List VoiceFrame} {s : State}
    (queue : s.vdp.queue = before ++ .pedal p old :: after) (first : ∀ l, .pedal p l ∉ before)
    (last : ∀ l, .pedal p l ∉ after) (level : Nat) :
    voicePedal p level s = { s with vdp := { s.vdp with queue := before ++ .pedal p level :: after } } := by
  have here (l : Nat) : isPedalFrame p (.pedal p l) = true := isPedalFrame_iff.2 ⟨l, rfl⟩
  have replaced : replacePedalFrame p level s.vdp.queue = before ++ .pedal p level :: after := by
    calc replacePedalFrame p level s.vdp.queue
      _ = replacePedalFrame p level before ++ .pedal p level :: replacePedalFrame p level after := by
        simp [replacePedalFrame, queue, here]
      _ = before ++ .pedal p level :: after := by
        rw [replacePedalFrame_absent first, replacePedalFrame_absent last]
  unfold voicePedal
  rw [if_pos (by simp [queue, here]), State.modVdp, replaced]

/-- R72: with no frame of the pedal in it, a queue with room takes one. -/
theorem voicePedal_queues {p : Pedal} {s : State} (absent : ∀ l, .pedal p l ∉ s.vdp.queue)
    (room : s.vdp.queue.length < 32) (level : Nat) : voicePedal p level s = voiceEnqueue (.pedal p level) s := by
  simp [voicePedal, any_isPedalFrame_absent absent, Config.voiceQueueSize, room]

/-- R72: before a full queue the level is remembered. -/
theorem voicePedal_remembers {p : Pedal} {s : State} (absent : ∀ l, .pedal p l ∉ s.vdp.queue)
    (full : 32 ≤ s.vdp.queue.length) (level : Nat) :
    voicePedal p level s = s.modVdp fun v => { v with remembered := v.remembered.set p (some level) } := by
  simp [voicePedal, any_isPedalFrame_absent absent, Config.voiceQueueSize, full.not_gt]

/-- Settles O31, one rule of VDP or PTR in each case. -/
theorem enqueueRules : Obligations.EnqueueRules := by
  refine ⟨fun bytes s takes => ⟨?joins, ?badLength, ?queueFull⟩, fun k s => held_iff s k,
    fun k level src s holds => ⟨?queues, ?counts, ?reports⟩,
    fun k ks s => ⟨releaseEval_quiet, ?evaluates, rfl, rfl⟩,
    fun p level s => ⟨rfl, ?effective⟩, fun p level s => ⟨?replaces, ?absent⟩⟩
  case joins =>
    intro some fit room
    refine (acceptCommand_takes takes kindVoicePass (ownVoicePass bytes)).trans ?_
    rw [ownVoicePass_joins some fit room]
    rfl
  case badLength =>
    intro bad
    refine (acceptCommand_takes takes kindVoicePass (ownVoicePass bytes)).trans ?_
    rw [ownVoicePass_badLength bad]
    rfl
  case queueFull =>
    intro some fit full
    refine (acceptCommand_takes takes kindVoicePass (ownVoicePass bytes)).trans ?_
    rw [ownVoicePass_full some fit full]
    rfl
  case queues =>
    intro room sending
    rw [noteOn_queues holds room sending]
    cases src <;> rfl
  case counts =>
    intro full waits
    rw [noteOn_drops holds full, voiceDrop_waiting (by simpa using waits)]
    rfl
  case reports =>
    intro full unreported enabled room
    rw [noteOn_drops holds full, voiceDrop_reported (by simpa using unreported) (by simpa using enabled)
      (by simpa using room)]
    rfl
  case evaluates =>
    exact fun sounds unheld unowed => ⟨releaseEval_queues sounds unheld unowed, releaseEval_full sounds unheld unowed⟩
  case effective =>
    rintro rfl
    exact ⟨recomputeEffective_same, fun changed => (recomputeEffective_changed changed).trans (by cases p <;> rfl)⟩
  case replaces => exact fun before after old queue first last => voicePedal_replaces queue first last level
  case absent =>
    intro absent
    refine ⟨voicePedal_queues absent (level := level), fun full => ?_⟩
    rw [voicePedal_remembers absent full]
    cases p <;> rfl

end Sys2Proof.Machine

namespace Sys2Proof.Machine

/-! ## Player strikes and the take recorder (R66, R98, R173 to R180) -/

/-! ### The rail's gate (R66, R98) -/

theorem gateOpen_eq_false_iff (s : State) : gateOpen s = false ↔ s.rlc.state ∈ [.disengaged, .waitToEngage] := by
  unfold gateOpen
  cases s.rlc.state <;> simp

theorem voiceStrike_gated {k : Key} {level : Nat} {s : State} (gated : s.rlc.state ∈ [.disengaged, .waitToEngage])
    (layer : s.par.layer ≠ 1) : voiceStrike k level s = s := by
  simp [voiceStrike, (gateOpen_eq_false_iff s).mpr gated, layer]

theorem voiceStrike_voiced {k : Key} {level : Nat} {s : State}
    (voiced : s.rlc.state ∉ [.disengaged, .waitToEngage] ∨ s.par.layer = 1) :
    voiceStrike k level s = noteOn k level .player s := by
  rcases voiced with opened | layer
  · have gate : gateOpen s = true := by
      rwa [← gateOpen_eq_false_iff, Bool.not_eq_false] at opened
    simp [voiceStrike, gate]
  · simp [voiceStrike, layer]

/-! ### One entry into the ring (R173, R180) -/

/-- PMEM with one more take entry at the write index. -/
def takeMemory (delta kind first second : Nat) (s : State) : Memory :=
  writeEntry s.mem (scoreSize s + s.tkr.writeIndex) (takeBytes delta kind first second)

theorem writeTake_takeBytes (delta kind first second : Nat) (s : State) :
    writeTake (takeBytes delta kind first second) s =
      { s with
        mem := takeMemory delta kind first second s
        tkr := { s.tkr with writeIndex := (s.tkr.writeIndex + 1) % takeRingSize s } } := rfl

theorem takeEntry_takeMemory {delta kind first second : Nat} {s : State} (wf : KeepsMemory s) (delta_lt : delta < 4096)
    (kind_lt : kind < 8) (first_lt : first < 128) (second_lt : second < 128) :
    takeEntry (readEntry (takeMemory delta kind first second s) (scoreSize s + s.tkr.writeIndex)) =
      ⟨delta, kind, first, second⟩ := by
  rw [takeMemory, readEntry_writeEntry_self wf, takeEntry_takeBytes delta_lt kind_lt first_lt second_lt]

theorem readEntry_takeMemory_ne (delta kind first second : Nat) (s : State) (i : Nat)
    (other : i ≠ scoreSize s + s.tkr.writeIndex) :
    readEntry (takeMemory delta kind first second s) i = readEntry s.mem i := readEntry_writeEntry_ne _ _ other

/-- RING mode never stops at a full ring. -/
theorem appendTake_ring {e : Entry} {s : State} (room : s.tkr.count < takeRingSize s) (mode : s.par.takeMode ≠ 1) :
    appendTake e s = (writeTake e s).modTkr fun b => { b with count := b.count + 1 } := by
  unfold appendTake
  rw [if_pos room]
  exact if_neg fun stops => mode stops.2

/-- R180: in ONE-SHOT mode the entry that fills the ring makes the recorder FULL. -/
theorem appendTake_fills {e : Entry} {s : State} (last : s.tkr.count + 1 = takeRingSize s) (mode : s.par.takeMode = 1) :
    appendTake e s = captureFull ((writeTake e s).modTkr fun b => { b with count := b.count + 1 }) := by
  unfold appendTake
  rw [if_pos (by omega)]
  exact if_pos ⟨last, mode⟩

/-- R180: in ONE-SHOT mode a full ring takes no entry. -/
theorem appendTake_refuses {e : Entry} {s : State} (full : takeRingSize s ≤ s.tkr.count) (mode : s.par.takeMode = 1) :
    appendTake e s = captureFull s := by
  unfold appendTake
  rw [if_neg (by omega), if_pos mode]

@[simp] theorem captureFull_state (s : State) : (captureFull s).tkr.state = .full := by
  simp [captureFull]

theorem appendTake_state (e : Entry) (s : State) :
    (appendTake e s).tkr.state = s.tkr.state ∨ (appendTake e s).tkr.state = .full := by
  unfold appendTake
  dsimp only
  split
  · split
    · exact .inr (captureFull_state _)
    · exact .inl rfl
  · split
    · exact .inr (captureFull_state _)
    · exact .inl rfl

/-! ### The append with its delta (R177) -/

section
variable {kind first second : Nat} {r : Sweep} {s t : State}

/-- The recorder that records on counts the next delta from now. -/
theorem appendTimed_recordsOn (reference : s.tkr.reference = some r)
    (appended : appendTake (takeBytes (elapsed s.now r) kind first second) s = t) (on : t.tkr.state = .recording) :
    appendTimed kind first second s = t.modTkr fun b => { b with reference := some s.now } := by
  simp only [appendTimed, reference, appended, on, if_true]

theorem appendTimed_stops (reference : s.tkr.reference = some r)
    (appended : appendTake (takeBytes (elapsed s.now r) kind first second) s = captureFull t) :
    appendTimed kind first second s = captureFull t := by
  simp [appendTimed, reference, appended]

theorem appendTimed_state (recording : s.tkr.state = .recording) :
    (appendTimed kind first second s).tkr.state = .recording ∨ (appendTimed kind first second s).tkr.state = .full := by
  have appended (e : Entry) : (appendTake e s).tkr.state = .recording ∨ (appendTake e s).tkr.state = .full := by
    simpa only [recording] using appendTake_state e s
  unfold appendTimed
  dsimp only
  split_ifs with on
  · exact .inl on
  · exact appended _

/-- R180: an append while the ring has room, which does not fill it in ONE-SHOT mode. -/
theorem appendTimed_room (reference : s.tkr.reference = some r) (recording : s.tkr.state = .recording)
    (room : s.tkr.count + 1 < takeRingSize s ∨ s.tkr.count < takeRingSize s ∧ s.par.takeMode = 0) :
    appendTimed kind first second s =
      { s with
        mem := takeMemory (elapsed s.now r) kind first second s
        tkr := { s.tkr with
          reference := some s.now, count := s.tkr.count + 1
          writeIndex := (s.tkr.writeIndex + 1) % takeRingSize s } } := by
  have appended := room.elim (appendTake_room (e := takeBytes (elapsed s.now r) kind first second))
    fun ⟨below, ring⟩ => appendTake_ring below (by omega)
  exact appendTimed_recordsOn reference appended recording

/-- R180: RING mode overwrites the oldest entry of a full ring. -/
theorem appendTimed_overwrites (reference : s.tkr.reference = some r) (recording : s.tkr.state = .recording)
    (full : takeRingSize s ≤ s.tkr.count) (ring : s.par.takeMode = 0) :
    appendTimed kind first second s =
      { s with
        mem := takeMemory (elapsed s.now r) kind first second s
        tkr := { s.tkr with
          reference := some s.now
          writeIndex := (s.tkr.writeIndex + 1) % takeRingSize s
          oldest := (s.tkr.oldest + 1) % takeRingSize s
          overwrites := min 65535 (s.tkr.overwrites + 1) } } :=
  appendTimed_recordsOn reference (appendTake_full full (by omega)) recording

end

/-! ### Player events (R176, R177) -/

section
variable {kind first second : Nat} {s : State}

theorem playerEvent_lost (lost : s.tkr.state = .idle ∨ s.tkr.state = .full) :
    playerEvent kind first second s = s := by
  rcases lost with state | state <;> simp [playerEvent, state]

theorem playerEvent_recording (recording : s.tkr.state = .recording) :
    playerEvent kind first second s = appendTimed kind first second s := by
  simp [playerEvent, recording]

/-- The recorder as its take starts. -/
def takeStarted (s : State) : State :=
  { s with tkr := { s.tkr with state := .recording, reference := some s.now, armedSync := none } }

theorem playerEvent_armed (armed : s.tkr.state = .armed) (noSync : s.tkr.armedSync = none) :
    playerEvent kind first second s = appendTimed kind first second (takeStarted s) := by
  simp only [playerEvent, armed, startTake, noSync]
  exact if_pos rfl

theorem playbackPlaced_recording (index : Nat) (recording : s.tkr.state = .recording) :
    playbackPlaced index s = playerEvent 5 (index / 128) (index % 128) s := by
  rw [playerEvent_recording recording]
  simp only [playbackPlaced, recording]
  rfl

/-- After the SYNC entry the recorder is RECORDING or FULL, and the event does in either what it does to a recorder found
so. -/
theorem playerEvent_armedSync {index : Nat} (armed : s.tkr.state = .armed) (sync : s.tkr.armedSync = some index) :
    playerEvent kind first second s = playerEvent kind first second (playbackPlaced index (takeStarted s)) := by
  have started : startTake s = appendSync index (takeStarted s) := by
    simp only [startTake, sync]
    rfl
  have placed : playbackPlaced index (takeStarted s) = appendSync index (takeStarted s) := rfl
  have event : playerEvent kind first second s =
      if (appendSync index (takeStarted s)).tkr.state = .recording
      then appendTimed kind first second (appendSync index (takeStarted s)) else appendSync index (takeStarted s) := by
    simp only [playerEvent, armed, started]
  have after : (appendSync index (takeStarted s)).tkr.state = .recording ∨
      (appendSync index (takeStarted s)).tkr.state = .full := appendTimed_state rfl
  rw [event, placed]
  rcases after with on | full
  · rw [if_pos on, playerEvent_recording on]
  · rw [if_neg (by simp [full]), playerEvent_lost (.inr full)]

/-- An event in RECORDING, or the first of an ARMED take without a SYNC, while the ring has room. -/
theorem playerEvent_room {delta : Nat}
    (room : s.tkr.count + 1 < takeRingSize s ∨ s.tkr.count < takeRingSize s ∧ s.par.takeMode = 0)
    (at_delta : s.tkr.state = .recording ∧ (∃ r, s.tkr.reference = some r ∧ elapsed s.now r = delta) ∨
      s.tkr.state = .armed ∧ s.tkr.armedSync = none ∧ delta = 0) :
    playerEvent kind first second s =
      { s with
        mem := takeMemory delta kind first second s
        tkr := { s.tkr with
          state := .recording, reference := some s.now, count := s.tkr.count + 1
          writeIndex := (s.tkr.writeIndex + 1) % takeRingSize s } } := by
  rcases at_delta with ⟨recording, r, reference, rfl⟩ | ⟨armed, noSync, rfl⟩
  · rw [playerEvent_recording recording, appendTimed_room reference recording room]
    simp only [recording]
  · have no_time : elapsed (takeStarted s).now s.now = 0 := by simp [elapsed, takeStarted, State.now]
    rw [playerEvent_armed armed noSync, appendTimed_room (s := takeStarted s) rfl rfl room, no_time]
    simp only [noSync]
    rfl

/-- R180: the entry that fills the ring in ONE-SHOT mode. -/
theorem playerEvent_fills {r : Sweep} (recording : s.tkr.state = .recording) (reference : s.tkr.reference = some r)
    (last : s.tkr.count + 1 = takeRingSize s) (mode : s.par.takeMode = 1) :
    playerEvent kind first second s =
      handReport (.captureFull (s.tkr.count + 1) (takeRingSize s) s.now)
        { s with
          mem := takeMemory (elapsed s.now r) kind first second s
          tkr := { s.tkr with
            state := .full, reference := none, count := s.tkr.count + 1
            writeIndex := (s.tkr.writeIndex + 1) % takeRingSize s } } := by
  rw [playerEvent_recording recording, appendTimed_stops reference (appendTake_fills last mode)]
  rfl

theorem playerEvent_refuses {r : Sweep} (recording : s.tkr.state = .recording) (reference : s.tkr.reference = some r)
    (full : takeRingSize s ≤ s.tkr.count) (mode : s.par.takeMode = 1) :
    playerEvent kind first second s =
      handReport (.captureFull s.tkr.count (takeRingSize s) s.now)
        { s with tkr := { s.tkr with state := .full, reference := none } } := by
  rw [playerEvent_recording recording, appendTimed_stops reference (appendTake_refuses full mode)]
  rfl

end

theorem syncIndex_of_index (delta index : Nat) :
    TakeEntry.syncIndex ⟨delta, 5, index / 128, index % 128⟩ = index := by
  simp only [TakeEntry.syncIndex]
  omega

/-- Settles O30: what an append does by the room left in the ring and the take mode; an armed SYNC is the entry that a
playback start places in the take just started. -/
theorem strikesAreVoicedAndPlayerEventsRecorded : Obligations.StrikesAreVoicedAndPlayerEventsRecorded := by
  refine ⟨fun k level s => ⟨voiceStrike_gated, voiceStrike_voiced⟩,
    fun kind first second delta s kind_lt first_lt second_lt =>
      ⟨playerEvent_lost, ?room, ?recording, ?armedSync, ?placed⟩⟩
  case room =>
    intro wf room delta_lt at_delta
    exact ⟨_, playerEvent_room room at_delta, takeEntry_takeMemory wf delta_lt kind_lt first_lt second_lt,
      readEntry_takeMemory_ne _ _ _ _ s⟩
  case recording =>
    rintro wf recording ⟨r, reference, rfl⟩ delta_lt
    have entry := takeEntry_takeMemory wf delta_lt kind_lt first_lt second_lt
    refine ⟨fun full ring => ⟨_, ?_, entry, readEntry_takeMemory_ne _ _ _ _ s⟩,
      fun last mode => ⟨_, playerEvent_fills recording reference last mode, entry, readEntry_takeMemory_ne _ _ _ _ s⟩,
      fun full mode => playerEvent_refuses recording reference full mode⟩
    rw [playerEvent_recording recording]
    exact appendTimed_overwrites reference recording full ring
  case armedSync => exact fun index => playerEvent_armedSync
  case placed =>
    intro index
    refine ⟨?_, fun armed => ?_, playbackPlaced_recording index, syncIndex_of_index delta index⟩
    · rintro (state | state) <;> simp [playbackPlaced, state]
    · simp only [playbackPlaced, armed, State.modTkr]

end Sys2Proof.Machine

namespace Sys2Proof.Machine

/-! ## Requests of the rail (R90 to R93) -/

/-! ### A move, a wait, a reversal and a completion, each as a whole next state -/

/-- R91, R94: a move starts: what the rail enters, and the report. -/
theorem startMove_eq (way : RailTarget) (s : State) :
    startMove way s =
      handReport (.rail (movingState way) .moving .none (some way) s.rlc.position s.now)
        { s with rlc := { s.rlc with
          state := movingState way, drive := driveOf (movingState way), waitOrigin := none, waitTimer := none
          moveTimer := some (s.now + BitVec.ofNat 32 s.par.railTimeout) } } := rfl

/-- R91: a wait starts, its timer only where RAIL_WAIT is not 0. -/
theorem startWait_eq (way : RailTarget) (origin : WaitOrigin) (s : State) :
    startWait way origin s =
      handReport (.rail (waitState way) .waiting .none (some way) s.rlc.position s.now)
        { s with rlc := { s.rlc with
          state := waitState way, drive := driveOf (waitState way), waitOrigin := some origin
          waitTimer := if s.par.railWait = 0 then none else some (s.now + BitVec.ofNat 32 s.par.railWait) } } := rfl

/-- R93: a reversal keeps all but the state, the drive and the timer. -/
theorem reverseMove_eq (way : RailTarget) (s : State) :
    reverseMove way s =
      handReport (.rail (movingState way) .reversed .none (some way) s.rlc.position s.now)
        { s with rlc := { s.rlc with
          state := movingState way, drive := driveOf (movingState way)
          moveTimer := some (s.now + BitVec.ofNat 32 s.par.railTimeout) } } := rfl

/-- R95: a move is complete in the rest state it reaches. -/
theorem completeMove_eq (there : RailState) (s : State) :
    completeMove there s =
      handReport (.rail there .done .none (railTargetOf s.rlc.state) s.rlc.position s.now)
        { s with rlc := { s.rlc with state := there, drive := driveOf there, moveTimer := none, drift := 0 } } := rfl

/-! ### The checks of RAIL (R90) -/

/-- R90: the operands 1 and 2 name the two ends. -/
theorem targetOfCode_named {target : Byte} {way : RailTarget}
    (named : target = 1 ∧ way = .inward ∨ target = 2 ∧ way = .outward) : targetOfCode target.toNat = some way := by
  rcases named with ⟨rfl, rfl⟩ | ⟨rfl, rfl⟩ <;> rfl

theorem targetOfCode_none {target : Byte} (one : target ≠ 1) (two : target ≠ 2) : targetOfCode target.toNat = none := by
  have one' : target.toNat ≠ 1 := fun h => one (BitVec.eq_of_toNat_eq h)
  have two' : target.toNat ≠ 2 := fun h => two (BitVec.eq_of_toNat_eq h)
  unfold targetOfCode
  split
  · contradiction
  · contradiction
  · rfl

section
variable {target : Byte} {way : RailTarget} {s : State}

theorem ownRail_badIndex (one : target ≠ 1) (two : target ≠ 2) : ownRail target s = answerRefused .badIndex s := by
  simp only [ownRail, targetOfCode_none one two]

theorem ownRail_faulted (named : target = 1 ∧ way = .inward ∨ target = 2 ∧ way = .outward)
    (faulted : s.rlc.faulted = true) : ownRail target s = answerRefused .refusedState s := by
  simp only [ownRail, targetOfCode_named named, faulted, if_true]

theorem ownRail_unsettled (named : target = 1 ∧ way = .inward ∨ target = 2 ∧ way = .outward)
    (sound : s.rlc.faulted = false) (unsettled : s.rlc.state = .unsettled) :
    ownRail target s = answerRefused .busy s := by
  simp [ownRail, targetOfCode_named named, sound, unsettled]

theorem ownRail_passes (named : target = 1 ∧ way = .inward ∨ target = 2 ∧ way = .outward)
    (sound : s.rlc.faulted = false) (settled : s.rlc.state ≠ .unsettled) :
    ownRail target s = answerOk (railRequest way s) [railStateCode (railRequest way s).rlc.state] := by
  simp [ownRail, targetOfCode_named named, sound, settled]

/-- R189, R190: RAIL is its owner's answer. -/
theorem exec_rail (takes : s.Takes) {a : Answer} (answers : ownRail target s = a) :
    exec (.rail target) s = .next (linkChoose (replied 0x10 a.code a.fields a.st)) := by
  rw [← answers]
  exact acceptCommand_takes takes kindRail (ownRail target)

/-- R90: a request past the three checks is answered with the state it leaves the rail in. -/
theorem exec_rail_request (takes : s.Takes) (named : target = 1 ∧ way = .inward ∨ target = 2 ∧ way = .outward)
    (sound : s.rlc.faulted = false) (settled : s.rlc.state ≠ .unsettled) {t : State}
    (requests : railRequest way s = t) :
    exec (.rail target) s = .next (linkChoose (replied 0x10 .ok [railStateCode t.rlc.state] t)) := by
  rw [exec_rail takes (ownRail_passes named sound settled), requests]
  rfl

/-- R99: a request that ends in a RAIL report; the report is LNK's and leaves the rail. -/
theorem exec_rail_reported (takes : s.Takes) (named : target = 1 ∧ way = .inward ∨ target = 2 ∧ way = .outward)
    (sound : s.rlc.faulted = false) (settled : s.rlc.state ≠ .unsettled) {r : Report} {t : State}
    (requests : railRequest way s = handReport r t) :
    exec (.rail target) s = .next (linkChoose (replied 0x10 .ok [railStateCode t.rlc.state] (handReport r t))) := by
  have rail : (handReport r t).rlc = t.rlc := by simp
  rw [exec_rail_request takes named sound settled requests, rail]

end

/-! ### What a request does in each state (R91 to R93) -/

section
variable {way : RailTarget} {s : State}

/-- R92, R93: a request in a wait, a move or the rest state it asks for. -/
theorem railRequest_same
    (same : way = .inward ∧ s.rlc.state ∈ [.engaged, .waitToEngage, .engaging] ∨
      way = .outward ∧ s.rlc.state ∈ [.disengaged, .waitToDisengage, .disengaging]) : railRequest way s = s := by
  simp only [List.mem_cons, List.not_mem_nil, or_false] at same
  rcases same with ⟨rfl, st | st | st⟩ | ⟨rfl, st | st | st⟩ <;> simp only [railRequest, st]

/-- R92: a request the other way ends a wait. -/
theorem railRequest_cancels
    (waits : s.rlc.state = .waitToEngage ∧ way = .outward ∨ s.rlc.state = .waitToDisengage ∧ way = .inward) :
    railRequest way s = endWait .cancelled .none s := by
  rcases waits with ⟨st, rfl⟩ | ⟨st, rfl⟩ <;> simp only [railRequest, st]

/-- R93: a request the other way reverses a move. -/
theorem railRequest_reverses
    (moves : s.rlc.state = .engaging ∧ way = .outward ∨ s.rlc.state = .disengaging ∧ way = .inward) :
    railRequest way s = reverseMove way s := by
  rcases moves with ⟨st, rfl⟩ | ⟨st, rfl⟩ <;> simp only [railRequest, st]

/-- R91: a request from a rest state toward the other end, or either way from HALTED. -/
theorem railRequest_fromRest {origin : WaitOrigin}
    (rests : way = .inward ∧ s.rlc.state = .disengaged ∧ origin = .disengaged ∨
      way = .outward ∧ s.rlc.state = .engaged ∧ origin = .engaged ∨ s.rlc.state = .halted ∧ origin = .halted) :
    railRequest way s = requestFromRest way origin s := by
  rcases rests with ⟨rfl, st, rfl⟩ | ⟨rfl, st, rfl⟩ | ⟨st, rfl⟩ <;> simp only [railRequest, st]

theorem requestFromRest_quiet (quiet : Quiet s) (origin : WaitOrigin) :
    requestFromRest way origin s = startMove way (s.modRlc fun b => { b with drift := 0 }) :=
  if_pos ((keysQuiet_iff (s.modRlc fun b => { b with drift := 0 })).2 quiet)

theorem requestFromRest_unquiet (unquiet : ¬ Quiet s) (origin : WaitOrigin) :
    requestFromRest way origin s = startWait way origin (s.modRlc fun b => { b with drift := 0 }) :=
  if_neg fun quiet => unquiet ((keysQuiet_iff (s.modRlc fun b => { b with drift := 0 })).1 quiet)

end

/-- Settles O19: the checks, then the request by the state it finds. -/
theorem railChecksAndTurnsBack : Obligations.RailChecksAndTurnsBack := by
  have ends {target : Byte} (one_or_two : target = 1 ∨ target = 2) :
      ∃ way : RailTarget, target = 1 ∧ way = .inward ∨ target = 2 ∧ way = .outward := by
    rcases one_or_two with one | two
    · exact ⟨.inward, .inl ⟨one, rfl⟩⟩
    · exact ⟨.outward, .inr ⟨two, rfl⟩⟩
  refine ⟨fun target s takes => ⟨fun one two => exec_rail takes (ownRail_badIndex one two), fun asks faulted => ?_,
    fun asks sound unsettled => ?_⟩, ?same, ?cancels, ?reverses⟩
  · obtain ⟨way, named⟩ := ends asks
    exact exec_rail takes (ownRail_faulted named faulted)
  · obtain ⟨way, named⟩ := ends asks
    exact exec_rail takes (ownRail_unsettled named sound unsettled)
  case same =>
    rintro target s takes sound (⟨one, st⟩ | ⟨two, st⟩)
    · exact exec_rail_request takes (.inl ⟨one, rfl⟩) sound (fun h => by simp [h] at st)
        (railRequest_same (.inl ⟨rfl, st⟩))
    · exact exec_rail_request takes (.inr ⟨two, rfl⟩) sound (fun h => by simp [h] at st)
        (railRequest_same (.inr ⟨rfl, st⟩))
  case cancels =>
    intro target way o back s takes sound waits returns ways
    have ended := endWait_eq waits .cancelled .none
    rw [originState_of returns] at ended
    rcases ways with ⟨one, st, rfl⟩ | ⟨two, st, rfl⟩
    · rw [st] at ended
      exact exec_rail_reported takes (.inl ⟨one, rfl⟩) sound (by simp [st])
        ((railRequest_cancels (.inr ⟨st, rfl⟩)).trans ended)
    · rw [st] at ended
      exact exec_rail_reported takes (.inr ⟨two, rfl⟩) sound (by simp [st])
        ((railRequest_cancels (.inl ⟨st, rfl⟩)).trans ended)
  case reverses =>
    rintro target way s takes sound (⟨one, st, rfl⟩ | ⟨two, st, rfl⟩)
    · exact exec_rail_reported takes (.inl ⟨one, rfl⟩) sound (by simp [st])
        ((railRequest_reverses (.inr ⟨st, rfl⟩)).trans (reverseMove_eq _ s))
    · exact exec_rail_reported takes (.inr ⟨two, rfl⟩) sound (by simp [st])
        ((railRequest_reverses (.inl ⟨st, rfl⟩)).trans (reverseMove_eq _ s))

/-- Settles O20: a request from rest is a move where the keys are quiet, else a wait. -/
theorem railRequestFromRest : Obligations.RailRequestFromRest := by
  intro target way origin s takes sound rests
  have named : target = 1 ∧ way = .inward ∨ target = 2 ∧ way = .outward := by tauto
  have settled : s.rlc.state ≠ .unsettled := by
    rcases rests with ⟨_, _, ⟨st, _⟩ | ⟨st, _⟩⟩ | ⟨_, _, ⟨st, _⟩ | ⟨st, _⟩⟩ <;> simp [st]
  have requests : railRequest way s = requestFromRest way origin s := railRequest_fromRest (by tauto)
  refine ⟨fun quiet => ?_, fun unquiet => ?_⟩
  · rw [requestFromRest_quiet quiet, startMove_eq] at requests
    rw [exec_rail_reported takes named sound settled requests]
    cases way <;> rfl
  · rw [requestFromRest_unquiet unquiet, startWait_eq] at requests
    rw [exec_rail_reported takes named sound settled requests]
    cases way <;> rfl

end Sys2Proof.Machine

namespace Sys2Proof.Machine

/-! ## Samples of the rail channel (R85, R88, R94 to R96) -/

/-! ### The drift watch (R96) -/

/-- R96: the watch tests a position, which lies outside its band or inside: in rest at an end, and in a wait from that
end that finds the keys not quiet. -/
def DriftWatched (s : State) (p : Nat) (outside : Bool) : Prop :=
  (s.rlc.state = .engaged ∨ s.rlc.state = .waitToDisengage ∧ s.rlc.waitOrigin = some .engaged ∧ ¬ Quiet s) ∧
      outside = decide (p + s.par.railDrift < s.par.railInLimit) ∨
    (s.rlc.state = .disengaged ∨ s.rlc.state = .waitToEngage ∧ s.rlc.waitOrigin = some .disengaged ∧ ¬ Quiet s) ∧
      outside = decide (s.par.railOutLimit + s.par.railDrift < p)

section
variable {p : Nat} {s : State}

theorem keysQuiet_eq_false (unquiet : ¬ Quiet s) : keysQuiet s = false :=
  Bool.eq_false_iff.2 fun quiet => unquiet ((keysQuiet_iff s).1 quiet)

theorem DriftWatched.outsideBand_eq {outside : Bool} (watched : DriftWatched s p outside) :
    outsideBand s p = some outside := by
  rcases watched with ⟨st | ⟨st, origin, _⟩, rfl⟩ | ⟨st | ⟨st, origin, _⟩, rfl⟩ <;> simp [outsideBand, *]

theorem DriftWatched.testRail_eq {outside : Bool} (watched : DriftWatched s p outside) :
    testRail p s = driftTest p s := by
  rcases watched with ⟨st | ⟨st, _, unquiet⟩, _⟩ | ⟨st | ⟨st, _, unquiet⟩, _⟩
  · simp only [testRail, st]
  · simp [testRail, st, keysQuiet_eq_false unquiet]
  · simp only [testRail, st]
  · simp [testRail, st, keysQuiet_eq_false unquiet]

/-- R96: a halt for drift reports the state it leaves, after the RAIL report. -/
theorem driftHalt_eq (s : State) :
    driftHalt s = handReport (.railDrift s.rlc.state s.rlc.position s.now) (haltRail .drift s) := by
  simp [driftHalt, haltRail_rlc]

theorem driftTest_inside (inside : outsideBand s p = some false) :
    driftTest p s = s.modRlc fun b => { b with drift := 0 } := by simp only [driftTest, inside]

theorem driftTest_unbanded (unbanded : outsideBand s p = none) : driftTest p s = s := by
  simp only [driftTest, unbanded]

theorem driftTest_counts (outside : outsideBand s p = some true) (below : s.rlc.drift + 1 < 64) :
    driftTest p s = s.modRlc fun b => { b with drift := b.drift + 1 } := by
  rw [driftTest_below below, driftAfter, outside]
  rfl

theorem driftTest_halts (outside : outsideBand s p = some true) (reached : 64 ≤ s.rlc.drift + 1) :
    driftTest p s = driftHalt (s.modRlc fun b => { b with drift := b.drift + 1 }) := by
  simp [driftTest, outside, Config.driftLimit, reached]

/-- R96: the sample that brings the count to 64 is one that the watch finds outside. -/
theorem driftHaltDue_of (watched : DriftWatched s p true) (reached : 64 ≤ s.rlc.drift + 1) :
    driftHaltDue s p = true := by
  have unmoved : ((s.rlc.state == .waitToEngage || s.rlc.state == .waitToDisengage) && keysQuiet s) = false := by
    rcases watched with ⟨st | ⟨_, _, unquiet⟩, _⟩ | ⟨st | ⟨_, _, unquiet⟩, _⟩
    · simp [st]
    · simp [keysQuiet_eq_false unquiet]
    · simp [st]
    · simp [keysQuiet_eq_false unquiet]
  simp [driftHaltDue, unmoved, watched.outsideBand_eq, Config.driftLimit, reached]

theorem driftHaltDue_below (below : s.rlc.drift + 1 < 64) : driftHaltDue s p = false := by
  simp [driftHaltDue, Config.driftLimit, below.not_ge]

theorem driftHaltDue_inside (inside : outsideBand s p = some false) : driftHaltDue s p = false := by
  simp [driftHaltDue, inside]

/-! ### The tests of the rail state (R88, R94, R95) -/

/-- R88: the first position settles the rail. -/
theorem testRail_derives {st : RailState} (unsettled : s.rlc.state = .unsettled)
    (order : s.par.railOutLimit < s.par.railInLimit)
    (place : s.par.railInLimit ≤ p ∧ st = .engaged ∨ p ≤ s.par.railOutLimit ∧ st = .disengaged ∨
      s.par.railOutLimit < p ∧ p < s.par.railInLimit ∧ st = .halted) :
    testRail p s = handReport (.rail st .settled .none none s.rlc.position s.now)
      { s with rlc := { s.rlc with state := st, drive := .off, drift := 0 } } := by
  have off : driveOf st = .off := by rcases place with ⟨_, rfl⟩ | ⟨_, rfl⟩ | ⟨_, _, rfl⟩ <;> rfl
  simp only [testRail, unsettled]
  rw [deriveRail_eq, derivedRail, derivedState_eq order place, ← off]
  rfl

theorem testRail_halted (halted : s.rlc.state = .halted) : testRail p s = s := by simp only [testRail, halted]

/-- R94: a wait that finds the keys quiet moves off. -/
theorem testRail_moves {way : RailTarget} (quiet : Quiet s) (waits : s.rlc.state = waitState way) :
    testRail p s = startMove way s := by
  have keys := (keysQuiet_iff s).2 quiet
  cases way <;> simp only [testRail, waits, waitState, keys, if_true]

/-- R96: a wait from HALTED that finds the keys not quiet has no band. -/
theorem testRail_waits (waits : s.rlc.state = .waitToEngage ∨ s.rlc.state = .waitToDisengage)
    (origin : s.rlc.waitOrigin = some .halted) (unquiet : ¬ Quiet s) : testRail p s = s := by
  have unbanded : outsideBand s p = none := by rcases waits with st | st <;> simp [outsideBand, st, origin]
  have tests : testRail p s = driftTest p s := by
    rcases waits with st | st <;> simp [testRail, st, keysQuiet_eq_false unquiet]
  rw [tests, driftTest_unbanded unbanded]

/-- R95: a position at the end it moves to completes a move. -/
theorem testRail_completes {there : RailState}
    (arrives : s.rlc.state = .engaging ∧ s.par.railInLimit ≤ p ∧ there = .engaged ∨
      s.rlc.state = .disengaging ∧ p ≤ s.par.railOutLimit ∧ there = .disengaged) :
    testRail p s = completeMove there s := by
  rcases arrives with ⟨st, reached, rfl⟩ | ⟨st, reached, rfl⟩ <;> simp only [testRail, st, reached, if_true]

theorem testRail_continues
    (short : s.rlc.state = .engaging ∧ p < s.par.railInLimit ∨ s.rlc.state = .disengaging ∧ s.par.railOutLimit < p) :
    testRail p s = s := by
  rcases short with ⟨st, short⟩ | ⟨st, short⟩ <;> simp [testRail, st, short]

end

/-! ### The conversion and RAIL_DRIFT_HALT (R85, log 1) -/

/-- R85: the position stored, before the tests. -/
def railAt (p : Nat) (s : State) : State := { s with rlc := { s.rlc with position := p } }

section
variable {r : Raw} {s : State} (runs : s.Runs) (running : s.scn.state = .running) (unwatched : s.scn.watch = none)
  (ok : (s.channel .rail).health = .ok) (inside : inWindow s.rlc.cal r = true)

include running unwatched ok inside in
/-- R2, R7, R12: an inside sample of the OK rail channel stores its position and is tested. -/
theorem convert_rail :
    convert .rail r s = testRail (normalize s.rlc.cal r)
      (railAt (normalize s.rlc.cal r) (setChannel .rail { s.channel .rail with lastRaw := r, persistence := 0 } s)) :=
  convert_delivers_inside running unwatched ok inside

include running ok inside in
theorem railDriftDue_eq : railDriftDue r s = driftHaltDue s (normalize s.rlc.cal r) := by
  have delivered : sampleDelivered .rail r s = true := by
    simp [sampleDelivered, convertsWith, running, ok, faultsNow, channelCal, inside]
  rw [railDriftDue, delivered, Bool.true_and]

include runs in
theorem exec_railDriftHalt :
    exec (.railDriftHalt r) s = .next (linkChoose (if railDriftDue r s then convert .rail r s else s)) :=
  partEvent_runs runs _

end

/-- Settles O45: a sample is one arrival, tested by the rail's state; RAIL_DRIFT_HALT is that arrival where it halts. -/
theorem railSamplesMoveTheRail : Obligations.RailSamplesMoveTheRail := by
  intro r p u s runs running unwatched ok above below position sampled
  have inside := inWindow_true above below
  have conversion := exec_conversion runs .rail r
  have driftHalts := exec_railDriftHalt (r := r) runs
  rw [convert_rail running unwatched ok inside, ← position, ← sampled] at conversion driftHalts
  rw [railDriftDue_eq running ok inside, ← position] at driftHalts
  obtain ⟨-, -, now, par, -, -, rlc, -, -, -, -, -⟩ := sampled_frame sampled
  have quietSame : Quiet s = Quiet u := by rw [sampled]; rfl
  have dueSame : driftHaltDue s p = driftHaltDue u p := by rw [sampled]; rfl
  rw [conversion, driftHalts, dueSame, quietSame, now, par, rlc]
  clear conversion driftHalts position
  refine ⟨?derives, ?halted, ?moves, ?completes, ?halts, ?notDue, ?drifts, ?stores⟩
  case derives =>
    intro st unsettled order place
    rw [testRail_derives (s := railAt p u) unsettled order place]
    rfl
  case halted =>
    intro halted
    rw [testRail_halted (s := railAt p u) halted]
    rfl
  case moves =>
    rintro way moving drive quiet (⟨st, rfl, rfl, rfl⟩ | ⟨st, rfl, rfl, rfl⟩)
    · rw [testRail_moves (s := railAt p u) (way := .inward) quiet st]
      rfl
    · rw [testRail_moves (s := railAt p u) (way := .outward) quiet st]
      rfl
  case completes =>
    rintro way there (⟨st, reached, rfl, rfl⟩ | ⟨st, reached, rfl, rfl⟩)
    · rw [testRail_completes (s := railAt p u) (.inl ⟨st, reached, rfl⟩), completeMove_eq,
        show (railAt p u).rlc.state = .engaging from st]
      rfl
    · rw [testRail_completes (s := railAt p u) (.inr ⟨st, reached, rfl⟩), completeMove_eq,
        show (railAt p u).rlc.state = .disengaging from st]
      rfl
  case halts =>
    intro way reached outside
    have target : DriftWatched u p true ∧ railTargetOf u.rlc.state = way := by
      rcases outside with ⟨st, rfl, out⟩ | ⟨st, rfl, out⟩ | ⟨st, origin, unquiet, rfl, out⟩ |
        ⟨st, origin, unquiet, rfl, out⟩
      · exact ⟨.inl ⟨.inl st, (decide_eq_true out).symm⟩, by rw [st]; rfl⟩
      · exact ⟨.inr ⟨.inl st, (decide_eq_true out).symm⟩, by rw [st]; rfl⟩
      · exact ⟨.inl ⟨.inr ⟨st, origin, unquiet⟩, (decide_eq_true out).symm⟩, by rw [st]; rfl⟩
      · exact ⟨.inr ⟨.inr ⟨st, origin, unquiet⟩, (decide_eq_true out).symm⟩, by rw [st]; rfl⟩
    obtain ⟨watched, rfl⟩ := target
    have placed : DriftWatched (railAt p u) p true := watched
    refine ⟨_, rfl, by rw [if_pos (driftHaltDue_of watched reached)], ?_⟩
    rw [placed.testRail_eq, driftTest_halts placed.outsideBand_eq reached, driftHalt_eq, haltRail_eq]
    rfl
  case notDue =>
    intro below
    rw [if_neg (by simp [driftHaltDue_below below])]
  case drifts =>
    intro outside watched
    have watched : DriftWatched u p outside := watched
    have placed : DriftWatched (railAt p u) p outside := watched
    rw [placed.testRail_eq]
    refine ⟨?_, ?_⟩
    · rintro rfl below
      rw [driftTest_counts placed.outsideBand_eq below]
      rfl
    · rintro rfl
      rw [driftTest_inside placed.outsideBand_eq, if_neg (by simp [driftHaltDue_inside watched.outsideBand_eq])]
      exact ⟨rfl, rfl⟩
  case stores =>
    rintro (⟨waits, origin, unquiet⟩ | short)
    · rw [testRail_waits (s := railAt p u) waits origin unquiet]
      rfl
    · rw [testRail_continues (s := railAt p u) short]
      rfl

end Sys2Proof.Machine

namespace Sys2Proof.Machine

/-! ## What every step keeps, for a property of the blocks behind SCN, VDP, HPM and LNK -/

/-- The blocks whose state outlasts an event's sampling and traffic are the same: the PARAM entries, KTR, PTR, RLC, PMEM,
PBE, PRM and TKR. -/
def SameBlocks (s t : State) : Prop :=
  t.par = s.par ∧ t.ktr = s.ktr ∧ t.ptr = s.ptr ∧ t.rlc = s.rlc ∧ t.mem = s.mem ∧ t.pbe = s.pbe ∧ t.prm = s.prm ∧
    t.tkr = s.tkr

/-- The owners of Action Link commands that reach one of these blocks. -/
inductive ActingOwner : (State → Answer) → Prop
  | resetPractice : ActingOwner ownResetPractice
  | calWrite (records : List CalArgs) : ActingOwner (ownCalWrite records)
  | pcalWrite (records : List PcalArgs) : ActingOwner (ownPcalWrite records)
  | curveWrite (curve first : Byte) (points : List Byte) : ActingOwner (ownCurveWrite curve first points)
  | paramWrite (entries : List ParamArgs) : ActingOwner (ownParamWrite entries)
  | rail (target : Byte) : ActingOwner (ownRail target)
  | scoreWrite (start : Half) (entries : List Entry) : ActingOwner (ownScoreWrite start entries)
  | play (source mark : Byte) : ActingOwner (ownPlay source mark)
  | stop : ActingOwner ownStop
  | pause : ActingOwner ownPause
  | resume : ActingOwner ownResume
  | locate (mark : Byte) : ActingOwner (ownLocate mark)
  | arm (mode : Byte) : ActingOwner (ownArm mode)
  | stopCapture : ActingOwner ownStopCapture
  | captureClear : ActingOwner ownCaptureClear
  | clearFlags : ActingOwner ownClearFlags

/-- A property of these blocks that holds of the reset tables and that the parts of every event keep: the owners of
commands, deliveries and notices, the timers' expiries and the sweep events. Every step keeps such a property
(`BlockProperty.step_keeps`). -/
structure BlockProperty (P : State → Prop) : Prop where
  reads {s t : State} : SameBlocks s t → P s → P t
  powerOn : P State.powerOn
  owner {own : State → Answer} : ActingOwner own → OwnerKeeps P own
  sample (c : Channel) (pos : Nat) {s : State} : P s → P (deliverSample c pos s)
  fault (c : Channel) {s : State} : P s → P (deliverFault c s)
  recovery (c : Channel) (pos : Nat) {s : State} : P s → P (deliverRecovery c pos s)
  gate (k : Key) {s : State} : P s → P (expireGate k s)
  strikeAge {s : State} : P s → P (expireStrikeAge s)
  railWait {s : State} : P s → P (expireRailWait s)
  railMove {s : State} : P s → P (expireRailMove s)
  playback {s : State} : P s → P (playbackSweep s)
  recorder {s : State} : P s → P (recorderSweep s)
  practice {s : State} : P s → P (practiceSweep s)

namespace BlockProperty

variable {P : State → Prop} (keeps : BlockProperty P) {s : State}
include keeps

/-! ### Conversions -/

theorem setChannel_keeps (c : Channel) (r : ChannelRecord) (held : P s) : P (setChannel c r s) :=
  keeps.reads (by simp [SameBlocks]) held

theorem noticed_keeps (c : Channel) (x : ChannelRecord) (report : Report) (held : P s) : P (noticed c x report s) :=
  keeps.reads (by simp [SameBlocks, noticed]) held

theorem judgeOk_keeps (c : Channel) (r : Raw) (held : P s) : P (judgeOk c r s) := by
  unfold judgeOk
  split
  · exact keeps.fault c (keeps.noticed_keeps _ _ _ held)
  · exact keeps.sample c _ (keeps.setChannel_keeps _ _ held)

theorem judgeFaulted_keeps (c : Channel) (r : Raw) (held : P s) : P (judgeFaulted c r s) := by
  unfold judgeFaulted
  split
  · exact keeps.recovery c _ (keeps.noticed_keeps _ _ _ held)
  · exact keeps.setChannel_keeps _ _ held

theorem convert_keeps (c : Channel) (r : Raw) (held : P s) : P (convert c r s) := by
  have gathers : P (gathered c r s) := keeps.reads (by simp [SameBlocks, gathered]) held
  cases st : s.scn.state with
  | warmup => rw [convert_warmup st]; exact gathers
  | running =>
    cases health : (s.channel c).health with
    | ok => rw [convert_ok st health]; exact keeps.judgeOk_keeps c r gathers
    | faulted => rw [convert_faulted st health]; exact keeps.judgeFaulted_keeps c r gathers

/-! ### Sweeps -/

theorem linkChoose_keeps (held : P s) : P (linkChoose s) := keeps.reads (by simp [SameBlocks]) held

theorem takeOwedExpiries_keeps (held : P s) : P (takeOwedExpiries s) := by
  have gates : P (gatesExpired s) := foldl_invariant P _ (fun _ k => keeps.gate k) _ _ held
  rw [takeOwedExpiries_eq]
  exact keeps.reads (by simp [SameBlocks]) (keeps.railMove (keeps.railWait (keeps.strikeAge gates)))

theorem beginSweep_keeps (held : P s) : P (beginSweep s) :=
  keeps.reads (by simp [SameBlocks]) (keeps.takeOwedExpiries_keeps held)

theorem takeSamples_keeps (samples : List (Channel × Raw)) (held : P s) : P (takeSamples samples s) :=
  foldl_invariant P _ (fun _ x held => keeps.linkChoose_keeps (keeps.convert_keeps x.1 x.2 held)) _ _ held

theorem beforePlayback_keeps (held : P s) : P (beforePlayback s) := by
  have begins (later : List (List (Channel × Raw))) : P (beginSweep { s with early := later }) :=
    keeps.beginSweep_keeps (keeps.reads (s := s) ⟨rfl, rfl, rfl, rfl, rfl, rfl, rfl, rfl⟩ held)
  unfold beforePlayback
  split
  · exact keeps.beginSweep_keeps held
  · dsimp only
    split
    · exact begins _
    · exact keeps.takeSamples_keeps _ (keeps.linkChoose_keeps (keeps.practice (keeps.recorder (begins _))))

theorem startSweep_keeps (held : P s) : P (startSweep s) := by
  have played : P (playbackSweep (beforePlayback s)) := keeps.playback (keeps.beforePlayback_keeps held)
  unfold startSweep
  dsimp only
  split
  · exact played
  · exact keeps.practice (keeps.recorder played)

/-! ### Commands and frames -/

/-- An owner that reaches none of the blocks. -/
theorem owner_of_same {own : State → Answer} (same : ∀ s, SameBlocks s (own s).st) : OwnerKeeps P own :=
  fun s held => keeps.reads (same s) held

theorem ownVoicePass_keeps (bytes : List Byte) : OwnerKeeps P (ownVoicePass bytes) := keeps.owner_of_same fun s => by
  unfold ownVoicePass
  (repeat' split) <;> simp [SameBlocks, answerOk, answerRefused]

theorem ownDampAll_keeps : OwnerKeeps P ownDampAll := keeps.owner_of_same fun s => by
  simp [SameBlocks, ownDampAll, answerOk]

theorem ownWatch_keeps (channel : Byte) (count : Half) : OwnerKeeps P (ownWatch channel count) :=
  keeps.owner_of_same fun s => by
    unfold ownWatch
    (repeat' split) <;> simp [SameBlocks, answerOk, answerRefused, openWatch]

theorem ownResetVoices_keeps : OwnerKeeps P ownResetVoices := keeps.owner_of_same fun s => by
  simp [SameBlocks, ownResetVoices, answerOk]

theorem ownLoudWrite_keeps (first : Byte) (gains : List Half) : OwnerKeeps P (ownLoudWrite first gains) :=
  keeps.owner_of_same fun s => by
    unfold ownLoudWrite
    dsimp only
    (repeat' split) <;> exact ⟨rfl, rfl, rfl, rfl, rfl, rfl, rfl, rfl⟩

theorem ownClickWrite_keeps (sound first : Byte) (samples : List Half) :
    OwnerKeeps P (ownClickWrite sound first samples) := keeps.owner_of_same fun s => by
  have stores (snd : Sound) : SameBlocks s (storeClick snd first.toNat samples s) := by
    cases snd <;> exact ⟨rfl, rfl, rfl, rfl, rfl, rfl, rfl, rfl⟩
  unfold ownClickWrite
  (repeat' split)
  · exact ⟨rfl, rfl, rfl, rfl, rfl, rfl, rfl, rfl⟩
  · exact ⟨rfl, rfl, rfl, rfl, rfl, rfl, rfl, rfl⟩
  · exact ⟨rfl, rfl, rfl, rfl, rfl, rfl, rfl, rfl⟩
  · exact stores _

theorem ownTableWriteFrame_keeps (payload : List Byte) : OwnerKeeps P (ownTableWriteFrame payload) := fun s held => by
  unfold ownTableWriteFrame
  split
  · exact held
  · split
    · exact OwnerKeeps.withRecords (fun records => keeps.owner (.calWrite records)) _ s held
    · exact OwnerKeeps.withRecords (fun records => keeps.owner (.pcalWrite records)) _ s held
    · exact keeps.owner (.curveWrite ..) s held
    · exact OwnerKeeps.withRecords (fun entries => keeps.owner (.paramWrite entries)) _ s held
    · exact OwnerKeeps.withRecords (keeps.ownLoudWrite_keeps _) _ s held
    · exact OwnerKeeps.withRecords (keeps.ownClickWrite_keeps _ _) _ s held
    · exact held

theorem ownReset_keeps (scope : Byte) : OwnerKeeps P (ownReset scope) := fun s held => by
  unfold ownReset
  (repeat' split)
  · exact keeps.owner .resetPractice s held
  · exact keeps.ownResetVoices_keeps s held
  · exact held

theorem ownerOf_keeps (kind : Byte) (payload : List Byte) : OwnerKeeps P (ownerOf kind payload) := by
  unfold ownerOf
  split
  · exact .formNone payload (.of_st fun _ => rfl)
  · exact keeps.ownTableWriteFrame_keeps payload
  · exact .of_st (ownTableReadFrame_st payload)
  · exact .formByte payload fun a => keeps.owner (.rail a)
  · exact .formScoreWrite payload fun a es => keeps.owner (.scoreWrite a es)
  · exact .formTwoHalves payload fun a b => .of_st (ownScoreRead_st · a b)
  · exact .formTwoBytes payload fun a b => keeps.owner (.play a b)
  · exact .formNone payload (keeps.owner .stop)
  · exact .formNone payload (keeps.owner .pause)
  · exact .formNone payload (keeps.owner .resume)
  · exact .formByte payload fun a => keeps.owner (.locate a)
  · exact .formByte payload fun a => keeps.owner (.arm a)
  · exact .formNone payload (keeps.owner .stopCapture)
  · exact .formTwoHalves payload fun a b => .of_st (ownCaptureRead_st · a b)
  · exact .formNone payload (keeps.owner .captureClear)
  · exact keeps.ownVoicePass_keeps payload
  · exact .formNone payload keeps.ownDampAll_keeps
  · exact .formByteHalf payload keeps.ownWatch_keeps
  · exact .formNone payload (.of_st fun _ => rfl)
  · exact .formNone payload (keeps.owner .clearFlags)
  · exact .formByte payload keeps.ownReset_keeps

theorem modLnk_keeps (f : Lnk → Lnk) (held : P s) : P (s.modLnk f) :=
  keeps.reads (s := s) ⟨rfl, rfl, rfl, rfl, rfl, rfl, rfl, rfl⟩ held

theorem acceptCommand_keeps {own : State → Answer} (owner : OwnerKeeps P own) (kind : Byte) (held : P s) :
    P (acceptCommand kind own s) := by
  unfold acceptCommand
  split
  · exact keeps.modLnk_keeps _ (owner s held)
  · exact keeps.modLnk_keeps _ held

/-- R196: a DEVICE RESET leaves the reset tables of these blocks. -/
theorem deviceReset_keeps (s : State) : P (deviceReset s) :=
  keeps.reads (by simp [SameBlocks, deviceReset, deviceResetFrom]) keeps.powerOn

theorem takeCommand_keeps (kind : Byte) (payload : List Byte) (held : P s) : P (takeCommand kind payload s) := by
  unfold takeCommand
  split
  · exact keeps.deviceReset_keeps s
  · exact keeps.acceptCommand_keeps (keeps.ownerOf_keeps kind payload) kind held

theorem takeByte_keeps (b : Byte) (held : P s) : P (takeByte b s) := by
  have links (f : Lnk → Lnk) : P (s.modLnk f) := keeps.modLnk_keeps f held
  unfold takeByte checkFrame
  cases s.lnk.rx with
  | hunt =>
    dsimp only
    split
    · exact links _
    · exact held
  | kind => exact links _
  | length k => dsimp only; (repeat' split) <;> exact links _
  | body k len got => dsimp only; split <;> exact links _
  | check k payload =>
    dsimp only
    split
    · exact keeps.takeCommand_keeps k payload (links _)
    · exact links _

theorem receiveByte_keeps (b : Byte) (framingError : Bool) (held : P s) : P (receiveByte b framingError s) := by
  unfold receiveByte takeBadByte
  (repeat' split)
  · exact held
  · exact keeps.modLnk_keeps _ held
  · exact keeps.takeByte_keeps b held

/-! ### Every event -/

/-- An event of a running part: its effect, then the link transmitter's choice. -/
theorem of_effect {effect : State → State} (effective : ∀ s, P s → P (effect s)) : EventKeeps P (partEvent effect) :=
  fun s t held next => by
    simp only [partEvent, Host.Outcome.next.injEq] at next
    subst next
    split
    · exact held
    · exact keeps.linkChoose_keeps (effective s held)

/-- An event that reaches none of the blocks. -/
theorem of_same {effect : State → State} (same : ∀ s, SameBlocks s (effect s)) : EventKeeps P (partEvent effect) :=
  keeps.of_effect fun s held => keeps.reads (same s) held

/-- An event named for what comes about in a larger one. -/
theorem of_onlyWhen {effect : State → State} (effective : ∀ s, P s → P (effect s)) (due : State → Bool) :
    EventKeeps P (partEvent (onlyWhen due effect)) :=
  keeps.of_effect fun s held => by
    unfold onlyWhen
    split
    · exact effective s held
    · exact held

/-- R189: a command keeps what its owner keeps. -/
theorem of_owner {own : State → Answer} (owner : OwnerKeeps P own) (kind : Byte) :
    EventKeeps P (partEvent (acceptCommand kind own)) :=
  keeps.of_effect fun _ held => keeps.acceptCommand_keeps owner kind held

theorem exec_keeps (i : Instr) : EventKeeps P (exec i) := by
  have acts {own : State → Answer} (acting : ActingOwner own) (kind : Byte) :
      EventKeeps P (partEvent (acceptCommand kind own)) := keeps.of_owner (keeps.owner acting) kind
  have answers {own : State → Answer} (same : ∀ s, (own s).st = s) (kind : Byte) :
      EventKeeps P (partEvent (acceptCommand kind own)) := keeps.of_owner (.of_st same) kind
  have convert (c : Channel) (r : Raw) (s : State) (held : P s) : P (convert c r s) := keeps.convert_keeps c r held
  have sweep (s : State) (held : P s) : P (startSweep s) := keeps.startSweep_keeps held
  have period (f : AudioFrame) (s : State) (held : P s) : P (samplePeriod f s) :=
    keeps.reads (by simp [SameBlocks]) held
  cases i with
  | powerOnReset =>
    rintro s t - ⟨⟩
    exact keeps.reads (s := State.powerOn) ⟨rfl, rfl, rfl, rfl, rfl, rfl, rfl, rfl⟩ keeps.powerOn
  | deviceReset => exact keeps.of_effect fun s _ => keeps.deviceReset_keeps s
  | resetPractice => exact acts .resetPractice _
  | resetVoices => exact keeps.of_owner keeps.ownResetVoices_keeps _
  | ping => exact answers (fun _ => rfl) _
  | tableRead code sel first count => exact answers (ownTableRead_st · code sel first count) _
  | calWrite records => exact acts (.calWrite records) _
  | pcalWrite records => exact acts (.pcalWrite records) _
  | curveWrite curve first points => exact acts (.curveWrite curve first points) _
  | loudWrite first gains => exact keeps.of_owner (keeps.ownLoudWrite_keeps first gains) _
  | clickWrite sound first samples => exact keeps.of_owner (keeps.ownClickWrite_keeps sound first samples) _
  | paramWrite entries => exact acts (.paramWrite entries) _
  | warmupWrite value => exact acts (.paramWrite _) _
  | pedalAccumWrite value => exact acts (.paramWrite _) _
  | holdOnWrite value => exact acts (.paramWrite _) _
  | holdOffWrite value => exact acts (.paramWrite _) _
  | practiceModeWrite value => exact acts (.paramWrite _) _
  | partMaskWrite value => exact acts (.paramWrite _) _
  | takeSizeWrite value => exact acts (.paramWrite _) _
  | rail target => exact acts (.rail target) _
  | scoreWrite start entries => exact acts (.scoreWrite start entries) _
  | scoreRead start count => exact answers (ownScoreRead_st · start count) _
  | play source mark => exact acts (.play source mark) _
  | stop => exact acts .stop _
  | pause => exact acts .pause _
  | resume => exact acts .resume _
  | locate mark => exact acts (.locate mark) _
  | arm mode => exact acts (.arm mode) _
  | stopCapture => exact acts .stopCapture _
  | captureRead offset count => exact answers (ownCaptureRead_st · offset count) _
  | captureClear => exact acts .captureClear _
  | voicePass bytes => exact keeps.of_owner (keeps.ownVoicePass_keeps bytes) _
  | dampAll => exact keeps.of_owner keeps.ownDampAll_keeps _
  | watch channel count => exact keeps.of_owner (keeps.ownWatch_keeps channel count) _
  | status => exact answers (fun _ => rfl) _
  | clearFlags => exact acts .clearFlags _
  | sweep => exact keeps.of_effect sweep
  | conversion c r => exact keeps.of_effect (convert c r)
  | warmupEnd => exact keeps.of_onlyWhen sweep _
  | channelFault c r => exact keeps.of_onlyWhen (convert c r) _
  | channelRecovery c r => exact keeps.of_onlyWhen (convert c r) _
  | gateExpiry k => exact keeps.of_effect fun _ => keeps.gate k
  | strikeAgeExpiry => exact keeps.of_effect fun _ => keeps.strikeAge
  | pedalGroupComplete p r => exact keeps.of_onlyWhen (convert (.pedal p) r) _
  | railWaitExpiry => exact keeps.of_effect fun _ => keeps.railWait
  | railMoveExpiry => exact keeps.of_effect fun _ => keeps.railMove
  | railDriftHalt r => exact keeps.of_onlyWhen (convert .rail r) _
  | outputSamplePeriod f => exact keeps.of_effect (period f)
  | jackAdoption f => exact keeps.of_onlyWhen (period f) _
  | clickEnd f => exact keeps.of_onlyWhen (period f) _
  | pulse => exact keeps.of_onlyWhen sweep _
  | run => exact keeps.of_onlyWhen sweep _
  | deadlineExpiry => exact keeps.of_onlyWhen sweep _
  | waitTimerExpiry => exact keeps.of_onlyWhen sweep _
  | staleStrikeAged => exact keeps.of_onlyWhen sweep _
  | takeGap => exact keeps.of_onlyWhen sweep _
  | voiceFrameCompletion => exact keeps.of_same fun s => by simp [SameBlocks]
  | holdInChange high =>
    exact fun s t held => keeps.of_same (effect := voiceChoose) (fun s => by simp [SameBlocks]) _ t
      (keeps.reads (s := s) ⟨rfl, rfl, rfl, rfl, rfl, rfl, rfl, rfl⟩ held)
  | byteReceived b framingError => exact keeps.of_effect fun _ => keeps.receiveByte_keeps b framingError
  | interByteTimeout => exact keeps.of_same fun s => by simp [SameBlocks]
  | linkFrameCompletion => exact keeps.of_effect fun _ => keeps.modLnk_keeps _
  | resetNRelease =>
    rintro s t held ⟨⟩
    unfold releaseReset
    split
    · exact keeps.reads (by simp [SameBlocks]) held
    · exact held

/-- Every step keeps a property of the blocks that the parts of every event keep. -/
theorem step_keeps {t : State} (held : P s) (next : step s = .next t) : P t := by
  unfold step at next
  split at next
  · cases next
    exact held
  · exact keeps.exec_keeps _ _ _ (keeps.reads (s := s) (by exact ⟨rfl, rfl, rfl, rfl, rfl, rfl, rfl, rfl⟩) held) next

end BlockProperty
end Sys2Proof.Machine

namespace Sys2Proof.Machine

/-! ## The motor drive is that of the rail state (R86) -/

/-- The rail is all that the drive's rule reads. -/
theorem keepsDrive_of_rlc {s t : State} (same : t.rlc = s.rlc) (drives : KeepsDrive s) : KeepsDrive t := by
  rw [KeepsDrive, same]
  exact drives

theorem reported_keepsDrive (r : Report) {s : State} (drives : KeepsDrive s) : KeepsDrive (handReport r s) :=
  keepsDrive_of_rlc (by simp) drives

/-! ### Entries of the rail: each sets the drive of the state it enters -/

theorem startMove_keepsDrive (way : RailTarget) (s : State) : KeepsDrive (startMove way s) := by
  rw [startMove_eq]
  exact reported_keepsDrive _ rfl

theorem startWait_keepsDrive (way : RailTarget) (origin : WaitOrigin) (s : State) :
    KeepsDrive (startWait way origin s) := by
  rw [startWait_eq]
  exact reported_keepsDrive _ rfl

theorem reverseMove_keepsDrive (way : RailTarget) (s : State) : KeepsDrive (reverseMove way s) := by
  rw [reverseMove_eq]
  exact reported_keepsDrive _ rfl

theorem completeMove_keepsDrive (there : RailState) (s : State) : KeepsDrive (completeMove there s) := by
  rw [completeMove_eq]
  exact reported_keepsDrive _ rfl

theorem haltRail_keepsDrive (cause : RailCause) (s : State) : KeepsDrive (haltRail cause s) := by
  rw [haltRail_eq]
  exact reported_keepsDrive _ rfl

theorem deriveRail_keepsDrive (p : Nat) (s : State) : KeepsDrive (deriveRail p s) := by
  rw [deriveRail_eq]
  exact reported_keepsDrive _ rfl

/-! ### Operations that enter a state or leave the rail in its state -/

section
variable {s : State} (drives : KeepsDrive s)
include drives

/-- R94: the origin of a wait is a rest state, whose drive is off. -/
theorem endWait_keepsDrive (outcome : RailOutcome) (cause : RailCause) : KeepsDrive (endWait outcome cause s) := by
  rcases waits : s.rlc.waitOrigin with _ | o
  · rw [endWait, waits]
    exact drives
  · rw [endWait_eq waits]
    refine reported_keepsDrive _ ?_
    cases o <;> rfl

theorem driftTest_keepsDrive (p : Nat) : KeepsDrive (driftTest p s) := by
  rcases band : outsideBand s p with _ | _ | _
  · rw [driftTest_unbanded band]
    exact drives
  · rw [driftTest_inside band]
    exact drives
  · rcases Nat.lt_or_ge (s.rlc.drift + 1) 64 with below | reached
    · rw [driftTest_counts band below]
      exact drives
    · rw [driftTest_halts band reached, driftHalt_eq]
      exact reported_keepsDrive _ (haltRail_keepsDrive _ _)

theorem testRail_keepsDrive (p : Nat) : KeepsDrive (testRail p s) := by
  have drifts := driftTest_keepsDrive drives p
  unfold testRail
  split
  case h_1 => exact deriveRail_keepsDrive p s
  case h_2 => exact drives
  case h_3 | h_4 => exact drifts
  case h_5 | h_6 =>
    split
    · exact startMove_keepsDrive _ s
    · exact drifts
  case h_7 | h_8 =>
    split
    · exact completeMove_keepsDrive _ s
    · exact drives

theorem railArrival_keepsDrive (p : Nat) : KeepsDrive (railArrival p s) := testRail_keepsDrive (s := railAt p s) drives p

theorem railFault_keepsDrive : KeepsDrive (railFault s) := by
  unfold railFault
  dsimp only
  split
  case h_1 | h_2 | h_3 | h_4 => exact drives
  case h_5 | h_6 => exact endWait_keepsDrive (by exact drives) _ _
  case h_7 | h_8 => exact haltRail_keepsDrive _ _

theorem railRecovery_keepsDrive (p : Nat) : KeepsDrive (railRecovery p s) := by
  unfold railRecovery
  dsimp only
  split
  case h_1 => exact deriveRail_keepsDrive p _
  case h_2 | h_3 => exact driftTest_keepsDrive (by exact drives) p
  all_goals exact drives

theorem railRequest_keepsDrive (way : RailTarget) : KeepsDrive (railRequest way s) := by
  have fromRest (way : RailTarget) (origin : WaitOrigin) : KeepsDrive (requestFromRest way origin s) := by
    unfold requestFromRest
    dsimp only
    split
    · exact startMove_keepsDrive _ _
    · exact startWait_keepsDrive _ _ _
  unfold railRequest
  split
  case h_2 | h_3 | h_5 => exact fromRest _ _
  case h_7 | h_8 => exact endWait_keepsDrive drives _ _
  case h_11 | h_12 => exact reverseMove_keepsDrive _ s
  all_goals exact drives

theorem expireRailWait_keepsDrive : KeepsDrive (expireRailWait s) := by
  unfold expireRailWait
  split
  · exact endWait_keepsDrive drives _ _
  · exact drives

theorem expireRailMove_keepsDrive : KeepsDrive (expireRailMove s) := by
  unfold expireRailMove
  split
  · exact reported_keepsDrive _ (haltRail_keepsDrive _ _)
  · exact drives

end

/-! ### The owners of the commands -/

/-- R84: a PCAL record leaves the rail in its state. -/
theorem takePcal_keepsDrive (a : PcalArgs) (w : WriteResult) (drives : KeepsDrive w.st) :
    KeepsDrive (takePcal a w).st := by
  unfold takePcal
  dsimp only
  (repeat' split)
  · exact keepsDrive_of_rlc (by simp [WriteResult.taken, placePedalCal]) drives
  all_goals exact drives

theorem takeCal_rlc (a : CalArgs) (w : WriteResult) : (takeCal a w).st.rlc = w.st.rlc := by
  unfold takeCal
  (repeat' split) <;> simp [WriteResult.taken, WriteResult.refuse]

theorem takeParam_rlc (a : ParamArgs) (w : WriteResult) : (takeParam a w).st.rlc = w.st.rlc := by
  unfold takeParam
  dsimp only
  split
  · simp [takePedalAccum, WriteResult.taken, storeParam]
  · simp [takeHoldOn, WriteResult.taken, testThresholds]
  · simp [takeHoldOff, WriteResult.taken, testThresholds]
  · simp [takePracticeMode, WriteResult.taken, storeParam]
  · simp [takePartMask, WriteResult.taken, storeParam]
  · unfold takeTakeSize
    split <;> simp [WriteResult.taken, WriteResult.refuseBusy, moveBoundary]
  · simp [takePlainParam, WriteResult.taken, storeParam]

theorem playFrom_rlc (src : Source) (place : Nat) (s : State) : (playFrom src place s).rlc = s.rlc := by
  simp only [playFrom, tellRecorder, fixWindow]
  cases src <;> (repeat' split) <;> simp [practicePlay]

theorem locateAt_rlc (place : Nat) (s : State) : (locateAt place s).rlc = s.rlc := by
  simp only [locateAt, tellRecorder]
  split <;> simp

theorem armRecorder_rlc (new : Bool) (s : State) : (armRecorder new s).rlc = s.rlc := by
  cases new <;> simp [armRecorder]

/-- R86: of the owners of the commands RAIL alone enters rail states. -/
theorem actingOwner_keepsDrive {own : State → Answer} (acting : ActingOwner own) : OwnerKeeps KeepsDrive own := by
  have of_same {own : State → Answer} (same : ∀ s, (own s).st.rlc = s.rlc) : OwnerKeeps KeepsDrive own :=
    fun s drives => keepsDrive_of_rlc (same s) drives
  cases acting with
  | resetPractice => exact of_same fun s => by simp [ownResetPractice, answerOk, resetMonitor, resetPlayback]
  | calWrite records =>
    intro s drives
    unfold ownCalWrite
    (repeat' split)
    · exact drives
    · exact drives
    · exact takeRecords_keeps (fun a w => keepsDrive_of_rlc (takeCal_rlc a w)) _ drives
  | pcalWrite records =>
    intro s drives
    unfold ownPcalWrite
    (repeat' split)
    · exact drives
    · exact drives
    · exact takeRecords_keeps takePcal_keepsDrive _ drives
  | curveWrite curve first points =>
    intro s drives
    unfold ownCurveWrite
    dsimp only
    (repeat' split) <;> exact drives
  | paramWrite entries =>
    intro s drives
    unfold ownParamWrite
    (repeat' split)
    · exact drives
    · exact drives
    · exact takeRecords_keeps (fun a w => keepsDrive_of_rlc (takeParam_rlc a w)) _ drives
  | rail target =>
    intro s drives
    unfold ownRail
    (repeat' split)
    · exact drives
    · exact drives
    · exact drives
    · exact railRequest_keepsDrive drives _
  | scoreWrite start entries =>
    refine of_same fun s => ?_
    unfold ownScoreWrite
    (repeat' split) <;> simp [answerOk, answerRefused]
  | play source mark =>
    refine of_same fun s => ?_
    unfold ownPlay
    (repeat' split) <;> simp [answerOk, answerRefused, playFrom_rlc]
  | stop =>
    refine of_same fun s => ?_
    unfold ownStop
    split <;> simp [answerOk]
  | pause =>
    refine of_same fun s => ?_
    unfold ownPause
    split <;> simp [answerOk, answerRefused, pauseFrom, practicePause]
  | resume =>
    refine of_same fun s => ?_
    unfold ownResume
    split <;> simp [answerOk, answerRefused, resumeSteps]
  | locate mark =>
    refine of_same fun s => ?_
    unfold ownLocate
    (repeat' split) <;> simp [answerOk, answerRefused, locateAt_rlc]
  | arm mode =>
    refine of_same fun s => ?_
    unfold ownArm
    (repeat' split) <;> simp [armAnswer, answerOk, answerRefused, armRecorder_rlc]
  | stopCapture =>
    refine of_same fun s => ?_
    unfold ownStopCapture answerOk
    dsimp only
    split <;> simp
  | captureClear =>
    refine of_same fun s => ?_
    unfold ownCaptureClear
    split <;> simp [answerOk, answerRefused]
  | clearFlags => exact of_same fun s => by simp [ownClearFlags, answerOk, clearAllFlags]

/-! ### Every step -/

/-- R85, R97: deliveries and notices of the other channels leave the rail. -/
theorem blockProperty_drive : BlockProperty KeepsDrive where
  reads := fun ⟨_, _, _, rlc, _⟩ => keepsDrive_of_rlc rlc
  powerOn := rfl
  owner := actingOwner_keepsDrive
  sample c pos s drives := by
    cases c with
    | key k => exact keepsDrive_of_rlc (by simp [deliverSample]) drives
    | pedal p => exact keepsDrive_of_rlc (by simp [deliverSample]) drives
    | rail => exact railArrival_keepsDrive drives pos
  fault c s drives := by
    cases c with
    | key k => exact keepsDrive_of_rlc (by simp [deliverFault]) drives
    | pedal p => exact keepsDrive_of_rlc (by simp [deliverFault]) drives
    | rail => exact railFault_keepsDrive drives
  recovery c pos s drives := by
    cases c with
    | key k => exact keepsDrive_of_rlc (by simp [deliverRecovery]) drives
    | pedal p => exact keepsDrive_of_rlc (by simp [deliverRecovery]) drives
    | rail => exact railRecovery_keepsDrive drives pos
  gate k _ := keepsDrive_of_rlc (by simp)
  strikeAge := keepsDrive_of_rlc (by simp)
  railWait := expireRailWait_keepsDrive
  railMove := expireRailMove_keepsDrive
  playback := keepsDrive_of_rlc (by simp)
  recorder := keepsDrive_of_rlc (by simp)
  practice := keepsDrive_of_rlc (by simp)

/-- Settles O57: the rail enters a state together with its drive, and nothing else sets either. -/
theorem stepKeepsDrive : Obligations.StepKeepsDrive := fun _ _ => blockProperty_drive.step_keeps

end Sys2Proof.Machine

namespace Sys2Proof.Machine

/-! ## The reset input (R83, R101, R117; log 6) -/

/-- R83, R101: an idle voice transmitter with ALL DAMP waiting sends it at the release, and the audio clocks start. -/
theorem releaseReset_urgent {s : State} (resetHeld : s.resetHeld = true) (idle : s.vdp.inFlight = none)
    (urgent : s.vdp.urgent = true) :
    releaseReset s =
      { s with
        resetHeld := false
        vdp := { s.vdp with urgent := false, inFlight := some .allDamp }
        hpm := { s.hpm with clocks := true } } := by
  rw [releaseReset, if_pos resetHeld, voiceChoose_urgent (by exact idle) (by exact urgent)]
  rfl

/-- A reset input that is not asserted cannot be released. -/
theorem releaseReset_runs {s : State} (runs : s.Runs) : releaseReset s = s := by
  simp [releaseReset, show s.resetHeld = false from runs]

/-- Settles O5: the two commands are `powerOnFrom` and `releaseReset`. -/
theorem resetInputResetsAndReleases : Obligations.ResetInputResetsAndReleases := by
  refine ⟨fun _ => rfl, ?resetTables, fun s resetHeld idle urgent => ?asserted, fun s runs => ?running⟩
  case resetTables => exact congrArg Host.Outcome.next (releaseReset_urgent rfl rfl rfl)
  case asserted => exact congrArg Host.Outcome.next (releaseReset_urgent resetHeld idle urgent)
  case running => exact congrArg Host.Outcome.next (releaseReset_runs runs)

end Sys2Proof.Machine

namespace Sys2Proof.Machine

/-! ## The output sample period (R103, R108 to R111, R114, R115) -/

/-! ### What it leaves -/

/-- Nothing outside HPM and LNK differs. -/
def MixerAndLinkOnly (s t : State) : Prop := t = { s with hpm := t.hpm, lnk := t.lnk }

theorem MixerAndLinkOnly.trans {s t u : State} (first : MixerAndLinkOnly s t) (second : MixerAndLinkOnly t u) :
    MixerAndLinkOnly s u := by
  unfold MixerAndLinkOnly at *
  rw [second, first]

theorem modHpm_mixerAndLinkOnly (f : Hpm → Hpm) (s : State) : MixerAndLinkOnly s (s.modHpm f) := rfl

theorem handReport_mixerAndLinkOnly (r : Report) (s : State) : MixerAndLinkOnly s (handReport r s) := by
  unfold handReport
  (repeat' split) <;> rfl

theorem jackStage_mixerAndLinkOnly (high : Bool) (s : State) : MixerAndLinkOnly s (jackStage high s) := by
  unfold jackStage
  (repeat' split)
  · exact modHpm_mixerAndLinkOnly _ s
  · exact (modHpm_mixerAndLinkOnly _ s).trans (handReport_mixerAndLinkOnly _ _)
  · exact modHpm_mixerAndLinkOnly _ s

theorem limitStage_mixerAndLinkOnly (left right : Int) (s : State) :
    MixerAndLinkOnly s (limitStage left right s) := by
  unfold limitStage
  split
  · exact (modHpm_mixerAndLinkOnly _ s).trans (handReport_mixerAndLinkOnly _ _)
  · rfl

theorem mixStage_mixerAndLinkOnly (l r : Tone) (s : State) : MixerAndLinkOnly s (mixStage l r s) :=
  (limitStage_mixerAndLinkOnly _ _ s).trans (modHpm_mixerAndLinkOnly _ _)

theorem samplePeriod_mixerAndLinkOnly (f : AudioFrame) (s : State) : MixerAndLinkOnly s (samplePeriod f s) :=
  have gain (t : State) : MixerAndLinkOnly t (gainStage t) := modHpm_mixerAndLinkOnly _ t
  have click (t : State) : MixerAndLinkOnly t (clickStage t) := modHpm_mixerAndLinkOnly _ t
  (((jackStage_mixerAndLinkOnly _ s).trans (gain _)).trans (mixStage_mixerAndLinkOnly _ _ _)).trans (click _)

/-! ### Stages 1 and 2: the jack and the master gain (R114, R115) -/

theorem jackAdopts_iff {s : State} {high : Bool} :
    jackAdopts s high = true ↔ jackReading high ≠ s.hpm.jack ∧ 96 ≤ s.hpm.jackCount + 1 := by
  simp [jackAdopts, Config.jackPeriods]

theorem jackStage_hpm (high : Bool) (s : State) :
    (jackStage high s).hpm =
      { s.hpm with
        jack := if jackAdopts s high then jackReading high else s.hpm.jack
        jackCount := if jackReading high = s.hpm.jack ∨ jackAdopts s high = true then 0 else s.hpm.jackCount + 1 } := by
  unfold jackStage
  by_cases same : jackReading high = s.hpm.jack
  · have stays : jackAdopts s high = false := by simp [jackAdopts, same]
    simp [same, stays]
  · cases adopts : jackAdopts s high <;> simp [same]

/-- R114: a plug gives the gain of the volume, no plug gives 0. -/
theorem gainTarget_eq (s : State) :
    gainTarget s = if s.hpm.jack = .plug then s.hpm.loud[s.par.volume]?.getD 0 else 0 := by
  unfold gainTarget
  cases s.hpm.jack <;> rfl

/-- The part after stages 1 and 2, from which stage 4 takes the master gain. -/
def ramped (f : AudioFrame) (s : State) : State := gainStage (jackStage f.jackHigh s)

theorem ramped_hpm (f : AudioFrame) (s : State) :
    (ramped f s).hpm =
      { (jackStage f.jackHigh s).hpm with
        gain := gainStep s.par.rampStep s.hpm.gain (gainTarget (jackStage f.jackHigh s)) } := by
  simp [ramped, gainStage, jackStage_hpm]

theorem ramped_par (f : AudioFrame) (s : State) : (ramped f s).par = s.par := by simp [ramped]

/-! ### Stages 3 to 5: the click, the mix and LIMIT (R108 to R111) -/

/-- R108: the click contributes its present sample. -/
theorem clickContribution_eq (h : Hpm) :
    clickContribution h =
      match h.click with
      | none => 0
      | some ⟨.a, i⟩ => (h.clickA[i]?.getD 0).toInt * 256
      | some ⟨.b, i⟩ => (h.clickB[i]?.getD 0).toInt * 256 := by
  unfold clickContribution
  rcases h.click with _ | ⟨_ | _, i⟩ <;> rfl

theorem clickContribution_ramped (f : AudioFrame) (s : State) :
    clickContribution (ramped f s).hpm = clickContribution s.hpm := by
  rw [ramped_hpm, jackStage_hpm]
  rfl

theorem saturates_iff {x : Int} : saturates x = true ↔ x < -8388608 ∨ 8388607 < x := by simp [saturates]

theorem limitStage_hpm (left right : Int) (s : State) :
    (limitStage left right s).hpm =
      { s.hpm with limit := s.hpm.limit || (saturates left || saturates right) } := by
  unfold limitStage
  split
  case isTrue raised =>
    obtain ⟨saturated, -⟩ := (Bool.and_eq_true ..).mp raised
    simp [saturated]
  case isFalse unraised =>
    have kept : (s.hpm.limit || (saturates left || saturates right)) = s.hpm.limit := by
      cases limit : s.hpm.limit <;> simp_all
    rw [kept]

theorem samplePeriod_hpm (f : AudioFrame) (s : State) :
    (samplePeriod f s).hpm =
      { (ramped f s).hpm with
        limit := s.hpm.limit || (saturates (outOf (ramped f s) f.left) || saturates (outOf (ramped f s) f.right))
        outLeft := outputSample (outOf (ramped f s) f.left)
        outRight := outputSample (outOf (ramped f s) f.right)
        click := s.hpm.click.bind advanceClick } := by
  have limit : (ramped f s).hpm.limit = s.hpm.limit := by rw [ramped_hpm, jackStage_hpm]
  have click : (ramped f s).hpm.click = s.hpm.click := by rw [ramped_hpm, jackStage_hpm]
  rw [← limit, ← click]
  simp [samplePeriod, mixStage, clickStage, limitStage_hpm, ramped]

/-! ### The items after the period -/

section
variable (f : AudioFrame) (s : State)

theorem samplePeriod_jack :
    (samplePeriod f s).hpm.jack = if jackAdopts s f.jackHigh then jackReading f.jackHigh else s.hpm.jack := by
  rw [samplePeriod_hpm, ramped_hpm, jackStage_hpm]

theorem samplePeriod_jackCount :
    (samplePeriod f s).hpm.jackCount =
      if jackReading f.jackHigh = s.hpm.jack ∨ jackAdopts s f.jackHigh = true then 0 else s.hpm.jackCount + 1 := by
  rw [samplePeriod_hpm, ramped_hpm, jackStage_hpm]

/-- R114: the master gain takes one step toward the target of the jack state as it now stands. -/
theorem samplePeriod_gain :
    (samplePeriod f s).hpm.gain = gainStep s.par.rampStep s.hpm.gain
      (if (samplePeriod f s).hpm.jack = .plug then s.hpm.loud[s.par.volume]?.getD 0 else 0) := by
  rw [samplePeriod_hpm, ramped_hpm, gainTarget_eq, jackStage_hpm]
  simp

/-- R109, R110: the output before saturation, under the gain after its step. -/
theorem outOf_ramped (x : Tone) :
    outOf (ramped f s) x =
      roundGain (roundGain (x.toInt * s.par.gTone + clickContribution s.hpm * s.par.gClick) *
        (samplePeriod f s).hpm.gain) := by
  rw [outOf, mixOf, ramped_par, clickContribution_ramped, samplePeriod_hpm]

theorem samplePeriod_limit :
    (samplePeriod f s).hpm.limit = true ↔ s.hpm.limit = true ∨
      outOf (ramped f s) f.left < -8388608 ∨ 8388607 < outOf (ramped f s) f.left ∨
      outOf (ramped f s) f.right < -8388608 ∨ 8388607 < outOf (ramped f s) f.right := by
  simp only [samplePeriod_hpm, Bool.or_eq_true, saturates_iff, or_assoc]

theorem samplePeriod_click : (samplePeriod f s).hpm.click = s.hpm.click.bind advanceClick := by
  rw [samplePeriod_hpm]

/-- R105, R113: the tables stand, and the audio clocks run on. -/
theorem samplePeriod_tables :
    (samplePeriod f s).hpm.clickA = s.hpm.clickA ∧ (samplePeriod f s).hpm.clickB = s.hpm.clickB ∧
    (samplePeriod f s).hpm.loud = s.hpm.loud ∧ (samplePeriod f s).hpm.clocks = s.hpm.clocks := by
  rw [samplePeriod_hpm, ramped_hpm, jackStage_hpm]
  exact ⟨rfl, rfl, rfl, rfl⟩

end

/-! ### The JACK report (R115) -/

theorem jackStage_adopts {s : State} {high : Bool} (adopts : jackAdopts s high = true) :
    jackStage high s =
      handReport (.jack (jackReading high) s.par.volume (if high then s.hpm.loud[s.par.volume]?.getD 0 else 0) s.now)
        (s.modHpm fun h => { h with jack := jackReading high, jackCount := 0 }) := by
  have target (t : State) (jack : t.hpm.jack = jackReading high) :
      gainTarget t = if high then t.hpm.loud[t.par.volume]?.getD 0 else 0 := by
    rw [gainTarget_eq, jack]
    cases high <;> rfl
  simp only [jackStage, if_neg (jackAdopts_iff.1 adopts).1, if_pos adopts]
  rw [target _ rfl]
  rfl

/-- R111: the AUDIO LIMIT report is of class E. -/
theorem limitStage_classP (left right : Int) (s : State) :
    (limitStage left right s).lnk.classP = s.lnk.classP := by
  unfold limitStage
  split
  · rw [(handReport_of_classE rfl _).2, State.modHpm_lnk]
  · rfl

theorem samplePeriod_classP (f : AudioFrame) (s : State) :
    (samplePeriod f s).lnk.classP = (jackStage f.jackHigh s).lnk.classP := by
  simp [samplePeriod, mixStage, limitStage_classP]

/-- R115, R197: a jack reading that is adopted is reported in class P. -/
theorem samplePeriod_reports_jack {f : AudioFrame} {s : State} (adopts : jackAdopts s f.jackHigh = true)
    (enabled : s.par.reportEnable.testBit 1 = true) (room : s.lnk.classP.length < 32) :
    (samplePeriod f s).lnk.classP = s.lnk.classP ++
      [.jack (jackReading f.jackHigh) s.par.volume
        (if f.jackHigh then s.hpm.loud[s.par.volume]?.getD 0 else 0) s.now] := by
  rw [samplePeriod_classP, jackStage_adopts adopts]
  exact handReport_joins_classP rfl enabled room

/-! ### The commands -/

theorem exec_outputSamplePeriod {s : State} (runs : s.Runs) (f : AudioFrame) :
    exec (.outputSamplePeriod f) s = .next (linkChoose (samplePeriod f s)) :=
  partEvent_runs runs _

theorem exec_jackAdoption {s : State} (runs : s.Runs) (f : AudioFrame) :
    exec (.jackAdoption f) s = .next (linkChoose (if jackAdopts s f.jackHigh then samplePeriod f s else s)) :=
  partEvent_runs runs _

theorem exec_clickEnd {s : State} (runs : s.Runs) (f : AudioFrame) :
    exec (.clickEnd f) s = .next (linkChoose (if clickEndDue s then samplePeriod f s else s)) :=
  partEvent_runs runs _

theorem clickEndDue_iff {s : State} : clickEndDue s = true ↔ ∃ c, s.hpm.click = some c ∧ 255 ≤ c.index := by
  unfold clickEndDue
  cases s.hpm.click <;> simp

/-! ## The audio ports (R101 to R103) -/

/-- R101: the left slot's periods and then the right slot's. -/
theorem audioFramePeriods_getElem? (left right : Tone) {i : Nat} (inside : i < 64) :
    (audioFramePeriods left right)[i]? =
      some (decide (32 ≤ i),
        decide (1 ≤ i % 32 ∧ i % 32 ≤ 24) && (if i < 32 then left else right).getMsbD (i % 32 - 1)) := by
  unfold audioFramePeriods
  by_cases first : i < 32
  · rw [List.getElem?_append_left (by simpa using first), List.getElem?_map, slotBits_getElem? left i first,
      Nat.mod_eq_of_lt first]
    simp [first, first.not_ge]
  · have place : i % 32 = i - 32 := by omega
    rw [List.getElem?_append_right (by simpa using first), List.getElem?_map, List.length_map, slotBits_length,
      slotBits_getElem? right (i - 32) (by omega), place]
    simp [first, Nat.le_of_not_lt first]

theorem audioOutput_running {s : State} (running : s.hpm.clocks = true) :
    audioOutput s = audioFramePeriods s.hpm.outLeft s.hpm.outRight := by
  simp [audioOutput, running]

theorem audioOutput_still {s : State} (still : s.hpm.clocks = false) :
    audioOutput s = List.replicate 64 (false, false) := by
  simp [audioOutput, still]

theorem audioOutput_length (s : State) : (audioOutput s).length = 64 := by
  cases clocks : s.hpm.clocks
  · simp [audioOutput_still clocks]
  · simp [audioOutput_running clocks]

/-- R101: the number read from a sample's bits, most significant first, is the sample. -/
theorem bitsValue_msbFirst (t : Tone) :
    BitVec.ofNat 24 (bitsValue ((List.range 24).map fun i => t.getMsbD i).reverse) = t := by
  apply BitVec.eq_of_getLsbD_eq
  intro i inside
  have mirrored : 24 - 1 - i < 24 := by omega
  rw [BitVec.getLsbD_ofNat, bitsValue_testBit, List.getElem?_reverse (by simpa using inside), List.length_map,
    List.length_range, List.getElem?_map, List.getElem?_range mirrored]
  simp [BitVec.getMsbD, inside, mirrored, show 23 - (23 - i) = i by omega]

/-- R102: what stands in a slot's other eight periods is not read. -/
theorem slotSample_sent (t : Tone) (a : Bool) {rest : List Bool} :
    slotSample (a :: (List.range 24).map (fun i => t.getMsbD i) ++ rest) = t := by
  have read : (((a :: (List.range 24).map (fun i => t.getMsbD i)) ++ rest).drop 1).take 24 =
      (List.range 24).map fun i => t.getMsbD i := by
    rw [List.cons_append, List.drop_one, List.tail_cons, List.take_append_of_le_length (by simp),
      List.take_of_length_le (by simp)]
  rw [slotSample, read, bitsValue_msbFirst]

theorem audioFrameOf_append {left right : List Bool} (full : left.length = 32) (jackHigh : Bool) :
    audioFrameOf (left ++ right) jackHigh = ⟨slotSample left, slotSample right, jackHigh⟩ := by
  rw [audioFrameOf, List.take_left' full, List.drop_left' full]

/-- Settles O47: the items after the period by their lemmas, then the two ports, then the two commands that are the
period where the jack reading is adopted or the click ends. -/
theorem samplePeriodComputes : Obligations.SamplePeriodComputes := by
  refine ⟨fun f s runs => ⟨samplePeriod f s, exec_outputSamplePeriod runs f, samplePeriod_mixerAndLinkOnly f s, ?items⟩,
    fun s i inside => ⟨fun running => ?sent, fun still => ?low, audioOutput_length s⟩,
    fun left right a b jackHigh x y seven _ => ?read,
    fun f s runs => ⟨fun differs lasts => ⟨samplePeriod f s, ?adoption, exec_outputSamplePeriod runs f, ?jack, ?count,
      ?report⟩, fun stays => ?noAdoption,
      fun c plays last => ⟨samplePeriod f s, ?clickEnd, exec_outputSamplePeriod runs f, ?silent⟩,
      fun early => ?noClickEnd⟩⟩
  case items =>
    intro reading adopted target click out
    have adopts : jackAdopts s f.jackHigh = true ↔ adopted := jackAdopts_iff
    have click_eq : click = clickContribution s.hpm := (clickContribution_eq s.hpm).symm
    have out_eq (x : Tone) : out x = outOf (ramped f s) x := by
      rw [outOf_ramped, ← click_eq]
      rfl
    have jack := samplePeriod_jack f s
    have count := samplePeriod_jackCount f s
    simp only [adopts] at jack count
    obtain ⟨clickA, clickB, loud, clocks⟩ := samplePeriod_tables f s
    refine ⟨jack, count, samplePeriod_gain f s, ?_, ?_, ?_, ?_, clickA, clickB, loud, clocks⟩
    · rw [out_eq, samplePeriod_hpm]
      rfl
    · rw [out_eq, samplePeriod_hpm]
      rfl
    · rw [out_eq, out_eq]
      exact samplePeriod_limit f s
    · rw [samplePeriod_click]
      cases s.hpm.click <;> rfl
  case sent => rw [audioOutput_running running, audioFramePeriods_getElem? _ _ inside]
  case low => rw [audioOutput_still still, List.getElem?_replicate_of_lt inside]
  case read => rw [audioFrameOf_append (by simp [seven]), slotSample_sent, slotSample_sent]
  case adoption => rw [exec_jackAdoption runs, if_pos (jackAdopts_iff.2 ⟨differs, lasts⟩)]
  case jack => rw [samplePeriod_jack, if_pos (jackAdopts_iff.2 ⟨differs, lasts⟩)]; rfl
  case count => rw [samplePeriod_jackCount, if_pos (.inr (jackAdopts_iff.2 ⟨differs, lasts⟩))]
  case report => exact samplePeriod_reports_jack (jackAdopts_iff.2 ⟨differs, lasts⟩)
  case noAdoption =>
    have undue : ¬ jackAdopts s f.jackHigh = true := fun adopts => by
      obtain ⟨differs, lasts⟩ := jackAdopts_iff.1 adopts
      rcases stays with same | short
      · exact differs same
      · omega
    rw [exec_jackAdoption runs, if_neg undue]
  case clickEnd => rw [exec_clickEnd runs, if_pos (clickEndDue_iff.2 ⟨c, plays, last⟩)]
  case silent => rw [samplePeriod_click, plays, Option.bind_some, advanceClick, if_neg (by omega)]
  case noClickEnd =>
    have undue : ¬ clickEndDue s = true := fun due => by
      obtain ⟨c, plays, last⟩ := clickEndDue_iff.1 due
      exact absurd (early c plays) (by omega)
    rw [exec_clickEnd runs, if_neg undue]

end Sys2Proof.Machine

namespace Sys2Proof.Machine

/-! ## What a step keeps of PMEM and the take ring (R118 to R120, R128, R173, R180) -/

/-- PMEM and the take ring are the same: the TAKE_SIZE code, the bytes of PMEM and the ring's count and indices. -/
def SameRing (s t : State) : Prop :=
  t.par.takeSize = s.par.takeSize ∧ t.mem = s.mem ∧ t.tkr.count = s.tkr.count ∧ t.tkr.oldest = s.tkr.oldest ∧
    t.tkr.writeIndex = s.tkr.writeIndex

/-- A property of PMEM and the take ring that holds of the reset tables and that the four operations on them keep. Every
step keeps such a property (`RingProperty.blockProperty`, `BlockProperty.step_keeps`). -/
structure RingProperty (P : State → Prop) : Prop where
  reads {s t : State} : SameRing s t → P s → P t
  powerOn : P State.powerOn
  append (e : Entry) {s : State} : P s → P (appendTake e s)
  empty {s : State} : P s → P (emptyRing s)
  boundary (code : Nat) {s : State} : P s → P (moveBoundary code s)
  store (start : Nat) (es : List Entry) {s : State} : P s → P (s.setMem (writeRun s.mem start es))

theorem paramSet_takeSize {i : Nat} (other : i ≠ 30) (v : Nat) (p : Params) : (paramSet i v p).takeSize = p.takeSize := by
  unfold paramSet
  split
  case h_31 => exact absurd rfl other
  all_goals rfl

/-- A PARAM entry that is not TAKE_SIZE leaves PMEM and the ring. -/
theorem takeParam_sameRing {a : ParamArgs} (other : a.index.toNat ≠ 30) (w : WriteResult) :
    SameRing w.st (takeParam a w).st := by
  have stores (i v : Nat) (entry : i ≠ 30) : SameRing w.st (storeParam i v w.st) :=
    ⟨paramSet_takeSize entry v _, rfl, rfl, rfl, rfl⟩
  unfold takeParam
  dsimp only
  split
  · simpa [SameRing, takePedalAccum, WriteResult.taken] using stores 7 _ (by decide)
  · simp [SameRing, takeHoldOn, WriteResult.taken, testThresholds]
  · simp [SameRing, takeHoldOff, WriteResult.taken, testThresholds]
  · simpa [SameRing, takePracticeMode, WriteResult.taken] using stores 24 _ (by decide)
  · simpa [SameRing, takePartMask, WriteResult.taken] using stores 25 _ (by decide)
  · next index => exact absurd index other
  · exact stores _ _ other

namespace RingProperty

variable {P : State → Prop} (keeps : RingProperty P) {s : State}
include keeps

/-! ### TKR (R174 to R180) -/

/-- The recorder's state, its reference sweep and its armed SYNC are no part of the ring. -/
theorem modTkr_keeps {f : Tkr → Tkr} (same : ∀ b, (f b).count = b.count ∧ (f b).oldest = b.oldest ∧
    (f b).writeIndex = b.writeIndex) (held : P s) : P (s.modTkr f) :=
  keeps.reads (s := s) ⟨rfl, rfl, same _⟩ held

theorem endTake_keeps (held : P s) : P (endTake s) := keeps.modTkr_keeps (fun _ => ⟨rfl, rfl, rfl⟩) held

theorem appendTimed_keeps (kind first second : Nat) (held : P s) : P (appendTimed kind first second s) := by
  unfold appendTimed
  dsimp only
  generalize takeBytes _ kind first second = e
  split
  · exact keeps.modTkr_keeps (fun _ => ⟨rfl, rfl, rfl⟩) (keeps.append e held)
  · exact keeps.append e held

theorem startTake_keeps (held : P s) : P (startTake s) := by
  unfold startTake
  dsimp only
  split
  · exact keeps.appendTimed_keeps _ _ _ (keeps.modTkr_keeps (fun _ => ⟨rfl, rfl, rfl⟩) held)
  · exact keeps.modTkr_keeps (fun _ => ⟨rfl, rfl, rfl⟩) held

theorem playerEvent_keeps (kind first second : Nat) (held : P s) : P (playerEvent kind first second s) := by
  unfold playerEvent
  dsimp only
  (repeat' split)
  · exact held
  · exact held
  · exact keeps.appendTimed_keeps _ _ _ held
  · exact keeps.appendTimed_keeps _ _ _ (keeps.startTake_keeps held)
  · exact keeps.startTake_keeps held

theorem playbackPlaced_keeps (index : Nat) (held : P s) : P (playbackPlaced index s) := by
  unfold playbackPlaced
  split
  · exact keeps.appendTimed_keeps _ _ _ held
  · exact keeps.modTkr_keeps (fun _ => ⟨rfl, rfl, rfl⟩) held
  · exact held
  · exact held

theorem recorderSweep_keeps (held : P s) : P (recorderSweep s) := by
  unfold recorderSweep
  split
  · exact keeps.appendTimed_keeps _ _ _ held
  · exact held

theorem armRecorder_keeps (new : Bool) (held : P s) : P (armRecorder new s) := by
  have ended := keeps.endTake_keeps held
  unfold armRecorder
  refine keeps.modTkr_keeps (fun _ => ⟨rfl, rfl, rfl⟩) ?_
  cases new with
  | true => exact keeps.empty ended
  | false => exact ended

/-! ### Player events of the keys and the pedals (R42, R43, R50, R52) -/

theorem deliverRelease_keeps (k : Key) (fault : Bool) (held : P s) : P (deliverRelease k fault s) :=
  keeps.reads (by simp [SameRing, deliverRelease])
    (keeps.playerEvent_keeps kindRelease (keyNumber k) 0 (s := voiceRelease k s) (keeps.reads (by simp [SameRing]) held))

theorem deliverStrike_keeps (k : Key) (level speed : Nat) (repeated : Bool) (interval : Nat) (held : P s) :
    P (deliverStrike k level speed repeated interval s) :=
  keeps.reads (by simp [SameRing, deliverStrike])
    (keeps.playerEvent_keeps kindStrike (keyNumber k) level (s := practiceStrike k (voiceStrike k level (noteStrike s)))
      (keeps.reads (by simp [SameRing]) held))

theorem deliverKeyEvent_keeps (k : Key) (e : KeyEvent) (held : P s) : P (deliverKeyEvent k s e) := by
  cases e with
  | lift => exact keeps.reads (by simp [SameRing, deliverKeyEvent]) held
  | strike level speed repeated interval => exact keeps.deliverStrike_keeps k level speed repeated interval held
  | release fault => exact keeps.deliverRelease_keeps k fault held

theorem replaceKey_keeps (k : Key) (r : KeyRecord) (held : P s) : P (replaceKey k r s) :=
  keeps.reads (by simp [SameRing]) held

/-- R24: the events of an arrival are delivered in turn. -/
theorem keyArrival_keeps (k : Key) (pos : Nat) (held : P s) : P (keyArrival k pos s) :=
  foldl_invariant P _ (fun _ e before => keeps.deliverKeyEvent_keeps k e before) _ _ (keeps.replaceKey_keeps k _ held)

theorem keyFault_keeps (k : Key) (held : P s) : P (keyFault k s) := by
  unfold keyFault
  dsimp only
  split
  · exact keeps.deliverRelease_keeps k true (keeps.replaceKey_keeps k _ held)
  · exact keeps.replaceKey_keeps k _ held

theorem setPedalRec_keeps (p : Pedal) (r : PedalRecord) (held : P s) : P (setPedalRec p r s) :=
  keeps.reads (by simp [SameRing]) held

theorem adoptPlayer_keeps (p : Pedal) (level : Nat) (fault : Bool) (held : P s) : P (adoptPlayer p level fault s) := by
  have reported : P (handReport (.pedal p level fault s.now) (setPedalRec p { s.pedalRec p with player := level } s)) :=
    keeps.reads (by simp [SameRing]) held
  exact keeps.reads (by simp [SameRing, adoptPlayer]) (keeps.playerEvent_keeps kindPedal (pedalCode p) level reported)

theorem pedalArrival_keeps (p : Pedal) (pos : Nat) (held : P s) : P (pedalArrival p pos s) := by
  unfold pedalArrival evaluatePlayer
  dsimp only
  (repeat' split)
  · exact keeps.adoptPlayer_keeps _ _ _ (keeps.setPedalRec_keeps p _ held)
  · exact keeps.setPedalRec_keeps p _ held
  · exact keeps.setPedalRec_keeps p _ held

theorem emptyGroup_keeps (p : Pedal) (held : P s) : P (emptyGroup p s) := keeps.setPedalRec_keeps p _ held

theorem pedalFault_keeps (p : Pedal) (held : P s) : P (pedalFault p s) := by
  unfold pedalFault
  dsimp only
  split
  · exact keeps.emptyGroup_keeps p held
  · exact keeps.adoptPlayer_keeps _ _ _ (keeps.emptyGroup_keeps p held)

/-! ### Channels and their owners (R12, R13) -/

theorem deliverSample_keeps (c : Channel) (pos : Nat) (held : P s) : P (deliverSample c pos s) := by
  cases c with
  | key k => exact keeps.keyArrival_keeps k pos held
  | pedal p => exact keeps.pedalArrival_keeps p pos held
  | rail => exact keeps.reads (by simp [SameRing, deliverSample]) held

theorem deliverFault_keeps (c : Channel) (held : P s) : P (deliverFault c s) := by
  cases c with
  | key k => exact keeps.keyFault_keeps k held
  | pedal p => exact keeps.pedalFault_keeps p held
  | rail => exact keeps.reads (by simp [SameRing, deliverFault]) held

theorem deliverRecovery_keeps (c : Channel) (pos : Nat) (held : P s) : P (deliverRecovery c pos s) := by
  cases c with
  | key k => exact keeps.reads (by simp [SameRing, deliverRecovery]) held
  | pedal p => exact keeps.pedalArrival_keeps p pos (keeps.emptyGroup_keeps p held)
  | rail => exact keeps.reads (by simp [SameRing, deliverRecovery]) held

/-! ### The owners of the commands -/

theorem takeParam_keeps (a : ParamArgs) (w : WriteResult) (held : P w.st) : P (takeParam a w).st := by
  by_cases index : a.index.toNat = 30
  · have boundary : takeParam a w = takeTakeSize a.value.toNat w := by simp only [takeParam, index]
    rw [boundary, takeTakeSize]
    split
    · exact keeps.boundary _ held
    · exact held
  · exact keeps.reads (takeParam_sameRing index w) held

/-- R150 step 7, R154: TKR receives the place. -/
theorem tellRecorder_keeps (held : P s) : P (tellRecorder s) := by
  unfold tellRecorder
  split
  · exact keeps.playbackPlaced_keeps _ held
  · exact held

theorem afterPlacing_keeps (held : P s) : P (afterPlacing s) := keeps.reads (by simp [SameRing]) held

theorem playFrom_keeps (src : Source) (place : Nat) (held : P s) : P (playFrom src place s) := by
  have windowed : P (fixWindow src (practicePlay (s.modPbe (playItems src)))) := by
    cases src <;> exact keeps.reads (by simp [SameRing, fixWindow]) held
  exact keeps.afterPlacing_keeps (keeps.tellRecorder_keeps (keeps.reads (by simp [SameRing]) windowed))

theorem locateAt_keeps (place : Nat) (held : P s) : P (locateAt place s) :=
  keeps.afterPlacing_keeps (keeps.tellRecorder_keeps (keeps.reads (by simp [SameRing]) held))

/-- An owner that leaves PMEM and the ring. -/
theorem owner_of_same {own : State → Answer} (same : ∀ s, SameRing s (own s).st) : OwnerKeeps P own :=
  fun s held => keeps.reads (same s) held

/-- R119: of the owners of the commands those of PMEM and of the recorder reach the ring, and PARAM moves the boundary. -/
theorem actingOwner_keeps {own : State → Answer} (acting : ActingOwner own) : OwnerKeeps P own := by
  cases acting with
  | resetPractice =>
    exact fun s held => keeps.endTake_keeps (keeps.reads (by simp [SameRing, resetMonitor, resetPlayback]) held)
  | calWrite records =>
    intro s held
    unfold ownCalWrite
    (repeat' split)
    · exact held
    · exact held
    · refine takeRecords_keeps (fun a w before => keeps.reads ?_ before) _ held
      unfold takeCal
      (repeat' split) <;> simp [SameRing, WriteResult.taken, WriteResult.refuse]
  | pcalWrite records =>
    intro s held
    unfold ownPcalWrite
    (repeat' split)
    · exact held
    · exact held
    · refine takeRecords_keeps (fun a w before => keeps.reads ?_ before) _ held
      unfold takePcal
      dsimp only
      (repeat' split) <;>
        simp [SameRing, WriteResult.taken, WriteResult.refuse, WriteResult.refuseBusy, placePedalCal, placeRailCal]
  | curveWrite curve first points =>
    intro s held
    unfold ownCurveWrite
    dsimp only
    (repeat' split)
    · exact held
    · exact held
    · exact keeps.reads (s := s) ⟨rfl, rfl, rfl, rfl, rfl⟩ held
  | paramWrite entries =>
    intro s held
    unfold ownParamWrite
    (repeat' split)
    · exact held
    · exact held
    · exact takeRecords_keeps keeps.takeParam_keeps _ held
  | rail target =>
    refine keeps.owner_of_same fun s => ?_
    unfold ownRail
    (repeat' split) <;> simp [SameRing, answerOk, answerRefused]
  | scoreWrite start entries =>
    intro s held
    unfold ownScoreWrite
    (repeat' split)
    · exact held
    · exact held
    · exact held
    · exact keeps.store _ _ held
  | play source mark =>
    intro s held
    unfold ownPlay
    (repeat' split)
    · exact held
    · exact held
    · exact held
    · exact held
    · exact keeps.playFrom_keeps _ _ held
  | stop =>
    refine keeps.owner_of_same fun s => ?_
    unfold ownStop
    split <;> simp [SameRing, answerOk]
  | pause =>
    refine keeps.owner_of_same fun s => ?_
    unfold ownPause
    split <;> simp [SameRing, answerOk, answerRefused, pauseFrom]
  | resume =>
    refine keeps.owner_of_same fun s => ?_
    unfold ownResume
    split <;> simp [SameRing, answerOk, answerRefused, resumeSteps]
  | locate mark =>
    intro s held
    unfold ownLocate
    (repeat' split)
    · exact held
    · exact held
    · exact keeps.locateAt_keeps _ held
  | arm mode =>
    intro s held
    unfold ownArm
    (repeat' split)
    · exact held
    · exact keeps.armRecorder_keeps true held
    · exact keeps.armRecorder_keeps false held
    · exact held
  | stopCapture =>
    intro s held
    unfold ownStopCapture answerOk
    dsimp only
    split
    · exact held
    · exact keeps.endTake_keeps held
  | captureClear =>
    intro s held
    unfold ownCaptureClear
    split
    · exact held
    · exact keeps.empty held
  | clearFlags => exact keeps.owner_of_same fun s => by simp [SameRing, ownClearFlags, answerOk, clearAllFlags]

/-- R135, R159: playback and the practice monitor read PMEM and leave it and the ring, as do the timers of KTR and
RLC. -/
theorem blockProperty : BlockProperty P where
  reads := fun ⟨par, _, _, _, mem, _, _, tkr⟩ =>
    keeps.reads ⟨by rw [par], mem, by rw [tkr], by rw [tkr], by rw [tkr]⟩
  powerOn := keeps.powerOn
  owner := keeps.actingOwner_keeps
  sample c pos _ := keeps.deliverSample_keeps c pos
  fault c _ := keeps.deliverFault_keeps c
  recovery c pos _ := keeps.deliverRecovery_keeps c pos
  gate k _ := keeps.reads (by simp [SameRing])
  strikeAge := keeps.reads (by simp [SameRing])
  railWait := keeps.reads (by simp [SameRing])
  railMove := keeps.reads (by simp [SameRing])
  playback := keeps.reads (by simp [SameRing])
  recorder := keeps.recorderSweep_keeps
  practice := keeps.reads (by simp [SameRing])

end RingProperty

/-! ### PMEM in its canonical form (log 24) -/

/-- PMEM is all that the form reads. -/
theorem keepsMemory_of_mem {s t : State} (same : t.mem = s.mem) (wf : KeepsMemory s) : KeepsMemory t := by
  rw [KeepsMemory, same]
  exact wf

theorem appendTake_keepsMemory (e : Entry) {s : State} (wf : KeepsMemory s) : KeepsMemory (appendTake e s) := by
  have written : KeepsMemory (writeTake e s) := wf_writeEntry wf _ _
  unfold appendTake
  dsimp only
  (repeat' split)
  · exact keepsMemory_of_mem (by simp) written
  · exact written
  · exact keepsMemory_of_mem (by simp) wf
  · exact written

theorem ringProperty_memory : RingProperty KeepsMemory where
  reads := fun ⟨_, mem, _⟩ => keepsMemory_of_mem mem
  powerOn := wf_nil
  append := appendTake_keepsMemory
  empty wf := wf
  boundary _ _ wf := wf_memClear wf _ _
  store start es _ wf := wf_writeRun wf start es

/-! ### The ring's count and indices (R173) -/

theorem ringSize_pos (code : Nat) : 0 < ringSize code := Nat.mul_pos (by decide) (Nat.two_pow_pos code)

theorem keepsRing_iff (s : State) : KeepsRing s ↔ s.tkr.count ≤ takeRingSize s ∧ s.tkr.oldest < takeRingSize s ∧
    s.tkr.writeIndex = (s.tkr.oldest + s.tkr.count) % takeRingSize s := Iff.rfl

theorem keepsRing_of_same {s t : State} (same : SameRing s t) (ring : KeepsRing s) : KeepsRing t := by
  obtain ⟨size, -, count, oldest, writeIndex⟩ := same
  rw [KeepsRing, size, count, oldest, writeIndex]
  exact ring

/-- R120, R183: an empty ring starts at its base, whatever its size. -/
theorem emptyRing_keepsRing (s : State) : KeepsRing (emptyRing s) :=
  ⟨Nat.zero_le _, ringSize_pos s.par.takeSize, (Nat.zero_mod _).symm⟩

/-- R180: an entry written past the newest, while the ring has room. -/
theorem writeTake_counts_keepsRing (e : Entry) {s : State} (ring : KeepsRing s) (room : s.tkr.count < takeRingSize s) :
    KeepsRing ((writeTake e s).modTkr fun b => { b with count := b.count + 1 }) := by
  obtain ⟨-, oldest, writeIndex⟩ := (keepsRing_iff s).1 ring
  refine ⟨room, oldest, ?_⟩
  show (s.tkr.writeIndex + 1) % takeRingSize s = (s.tkr.oldest + (s.tkr.count + 1)) % takeRingSize s
  rw [writeIndex, Nat.mod_add_mod, Nat.add_assoc]

/-- R180: an entry written over the oldest: both indices advance by one. -/
theorem writeTake_overwrites_keepsRing (e : Entry) (n : Nat) {s : State} (ring : KeepsRing s) :
    KeepsRing ((writeTake e s).modTkr fun b =>
      { b with oldest := (b.oldest + 1) % takeRingSize s, overwrites := n }) := by
  obtain ⟨count, -, writeIndex⟩ := (keepsRing_iff s).1 ring
  refine ⟨count, Nat.mod_lt _ (ringSize_pos s.par.takeSize), ?_⟩
  show (s.tkr.writeIndex + 1) % takeRingSize s =
    ((s.tkr.oldest + 1) % takeRingSize s + s.tkr.count) % takeRingSize s
  rw [writeIndex, Nat.mod_add_mod, Nat.mod_add_mod, Nat.add_right_comm]

theorem appendTake_keepsRing (e : Entry) {s : State} (ring : KeepsRing s) : KeepsRing (appendTake e s) := by
  have stops {t : State} (before : KeepsRing t) : KeepsRing (captureFull t) :=
    keepsRing_of_same (by simp [SameRing, captureFull]) before
  unfold appendTake
  dsimp only
  split
  · next room =>
    have counted := writeTake_counts_keepsRing e ring room
    split
    · exact stops counted
    · exact counted
  · split
    · exact stops ring
    · exact writeTake_overwrites_keepsRing e _ ring

theorem ringProperty_ring : RingProperty KeepsRing where
  reads := keepsRing_of_same
  powerOn := emptyRing_keepsRing State.powerOn
  append := appendTake_keepsRing
  empty _ := emptyRing_keepsRing _
  boundary _ _ _ := emptyRing_keepsRing _
  store _ _ _ ring := ring

/-- Settles O52: PMEM and the ring change by an append, a run stored, a move of the boundary and an emptied ring alone,
and each of the four keeps both forms. -/
theorem stepKeepsMemory : Obligations.StepKeepsMemory :=
  ⟨fun _ _ => ringProperty_memory.blockProperty.step_keeps, fun _ _ => ringProperty_ring.blockProperty.step_keeps⟩

end Sys2Proof.Machine

namespace Sys2Proof.Machine

/-! ## The boundary of PMEM (R119, R120) -/

section
variable {s : State}

/-- R120: the zero-fill runs from the old boundary to the new one, and is empty where the score region shrinks. -/
theorem moveBoundary_eq (code : Nat) (s : State) :
    moveBoundary code s =
      { s with
        par := { s.par with takeSize := code }
        mem := memClear s.mem (4 * scoreSize s) (4 * ringBase code)
        tkr := { s.tkr with count := 0, oldest := 0, writeIndex := 0, overwrites := 0 } } := rfl

theorem takeTakeSize_moves (idle : s.tkr.state = .idle) (stopped : s.pbe.state = .stopped) (v : Nat) :
    takeTakeSize v ⟨s, 0, 0, 0, false⟩ = ⟨moveBoundary (min 3 v) s, 1, if v ≤ 3 then 0 else 1, 0, false⟩ := by
  have stored : clamp 0 3 v = min 3 v := Nat.zero_max _
  have clamped : clampCount 0 3 v = if v ≤ 3 then 0 else 1 := by simp [clampCount_eq, outside]
  simp [takeTakeSize, WriteResult.taken, idle, stopped, stored, clamped]

theorem takeTakeSize_busy (busy : s.tkr.state ≠ .idle ∨ s.pbe.state ≠ .stopped) (v : Nat) :
    takeTakeSize v ⟨s, 0, 0, 0, false⟩ = ⟨s, 0, 0, 1, true⟩ := by
  rw [takeTakeSize, if_neg (fun ⟨idle, stopped⟩ => busy.elim (· idle) (· stopped))]
  rfl

/-- R190, R191: a TAKE_SIZE write is a TABLE WRITE of one entry, answered with its counts. -/
theorem takeSizeWrite_takes (takes : s.Takes) {v : Half} {w : WriteResult}
    (taken : takeTakeSize v.toNat ⟨s, 0, 0, 0, false⟩ = w) :
    exec (.takeSizeWrite v) s = .next (linkChoose (repliedResult w)) := by
  have answers : ownParamWrite [⟨30, v⟩] s = w.answer := by rw [← taken]; rfl
  exact tableWrite_inTurn takes answers

end

/-- Settles O16: a TAKE_SIZE write is taken or refused by TKR's state and PBE's, and the memory it leaves is PMEM with the
entries between the two boundaries cleared. -/
theorem takeSizeWriteMovesTheBoundary : Obligations.TakeSizeWriteMovesTheBoundary := by
  refine fun v s takes => ⟨fun idle stopped => ⟨_, ?moved, memRead_memClear s.mem _ _⟩, fun busy => ?refused⟩
  case moved =>
    rw [takeSizeWrite_takes takes (takeTakeSize_moves idle stopped _), moveBoundary_eq]
    rfl
  case refused =>
    rw [takeSizeWrite_takes takes (takeTakeSize_busy busy _)]
    rfl

/-! ## The transfer of the score and of the take (R128 to R131, R182) -/

/-- R189: the reply of a taken command whose owner's answer is known. -/
theorem command_takes {s : State} (takes : s.Takes) {kind : Byte} {own : State → Answer} {a : Answer}
    (answers : own s = a) :
    partEvent (acceptCommand kind own) s = .next (linkChoose (replied kind a.code a.fields a.st)) := by
  rw [acceptCommand_takes takes, answers]

section
variable {s : State}

/-- R128, R131, R182: a run outside 1..56. -/
theorem badTransfer_iff (n : Nat) : badTransfer n = true ↔ n = 0 ∨ 56 < n := by
  show (decide (n = 0) || decide (56 < n)) = true ↔ _
  rw [Bool.or_eq_true, decide_eq_true_eq, decide_eq_true_eq]

theorem badTransfer_false {n : Nat} (nonempty : 1 ≤ n) (few : n ≤ 56) : ¬ badTransfer n = true := by
  rw [badTransfer_iff]
  omega

theorem playsFrom_iff (s : State) (source : Source) :
    playsFrom s source = true ↔ s.pbe.state ≠ .stopped ∧ s.pbe.source = source := by
  simp [playsFrom]

/-! ### SCORE_WRITE: the checks of R128 to R130 in their order -/

theorem ownScoreWrite_badLength (start : Half) {es : List Entry} (bad : es.length = 0 ∨ 56 < es.length) :
    ownScoreWrite start es s = answerRefused .badLength s := by
  rw [ownScoreWrite, if_pos ((badTransfer_iff _).2 bad)]

section
variable {start : Half} {es : List Entry} (nonempty : 1 ≤ es.length) (few : es.length ≤ 56)
include nonempty few

theorem ownScoreWrite_badIndex (out : scoreSize s < start.toNat + es.length) :
    ownScoreWrite start es s = answerRefused .badIndex s := by
  rw [ownScoreWrite, if_neg (badTransfer_false nonempty few), if_pos (by exact out)]

theorem ownScoreWrite_busy (inside : start.toNat + es.length ≤ scoreSize s) (plays : s.pbe.state ≠ .stopped)
    (source : s.pbe.source = .score) : ownScoreWrite start es s = answerRefused .busy s := by
  rw [ownScoreWrite, if_neg (badTransfer_false nonempty few), if_neg (by exact inside.not_gt),
    if_pos ((playsFrom_iff _ _).2 ⟨plays, source⟩)]

theorem ownScoreWrite_stores (inside : start.toNat + es.length ≤ scoreSize s)
    (free : ¬ (s.pbe.state ≠ .stopped ∧ s.pbe.source = .score)) :
    ownScoreWrite start es s =
      answerOk { s with mem := writeRun s.mem start.toNat es } (field2 start.toNat ++ field2 es.length) := by
  rw [ownScoreWrite, if_neg (badTransfer_false nonempty few), if_neg (by exact inside.not_gt),
    if_neg (by rwa [playsFrom_iff])]
  rfl

end

/-! ### SCORE_READ (R131) -/

/-- A run of entries read is its entries in turn. -/
theorem readRun_eq_map (m : Memory) (start n : Nat) :
    readRun m start n = (List.range n).map fun i => readEntry m (start + i) := by
  induction n generalizing start with
  | zero => rfl
  | succ n ih =>
    rw [readRun, ih, List.range_succ_eq_map, List.map_cons, List.map_map]
    refine congrArg _ (List.map_congr_left fun i _ => ?_)
    show readEntry m (start + 1 + i) = readEntry m (start + (i + 1))
    rw [Nat.add_right_comm, Nat.add_assoc]

theorem ownScoreRead_badLength {count : Half} (bad : count.toNat = 0 ∨ 56 < count.toNat) (start : Half) :
    ownScoreRead start count s = answerRefused .badLength s := by
  rw [ownScoreRead, if_pos ((badTransfer_iff _).2 bad)]

theorem ownScoreRead_badIndex {start count : Half} (nonempty : 1 ≤ count.toNat) (few : count.toNat ≤ 56)
    (out : scoreSize s ≤ start.toNat) : ownScoreRead start count s = answerRefused .badIndex s := by
  rw [ownScoreRead, if_neg (badTransfer_false nonempty few), if_pos (by exact out)]

theorem ownScoreRead_shows {start count : Half} (nonempty : 1 ≤ count.toNat) (few : count.toNat ≤ 56)
    (inside : start.toNat < scoreSize s) :
    ownScoreRead start count s =
      answerOk s (field2 start.toNat ++ field2 (min count.toNat (scoreSize s - start.toNat))
        ++ (List.range (min count.toNat (scoreSize s - start.toNat))).flatMap fun i =>
          entryBytes (readEntry s.mem (start.toNat + i))) := by
  rw [ownScoreRead, if_neg (badTransfer_false nonempty few), if_neg (by exact inside.not_ge)]
  simp only [readRun_eq_map, List.flatMap_map]
  rfl

/-! ### CAPTURE_READ (R182) -/

theorem ownCaptureRead_badLength {count : Half} (bad : count.toNat = 0 ∨ 56 < count.toNat) (offset : Half) :
    ownCaptureRead offset count s = answerRefused .badLength s := by
  rw [ownCaptureRead, if_pos ((badTransfer_iff _).2 bad)]

theorem ownCaptureRead_shows {count : Half} (nonempty : 1 ≤ count.toNat) (few : count.toNat ≤ 56) (offset : Half) :
    ownCaptureRead offset count s =
      answerOk s ([takeStateCode s.tkr.state] ++ field2 s.tkr.count ++ field2 s.tkr.overwrites ++ field2 offset.toNat
        ++ field2 (min count.toNat (s.tkr.count - offset.toNat))
        ++ (List.range (min count.toNat (s.tkr.count - offset.toNat))).flatMap fun i =>
          entryBytes (readEntry s.mem
            (scoreSize s + (s.tkr.oldest + (offset.toNat + i)) % (1024 * 2 ^ s.par.takeSize)))) := by
  rw [ownCaptureRead, if_neg (badTransfer_false nonempty few)]
  simp only [captureEntries, numbersFrom, List.flatMap_map]
  rfl

end

/-- Settles O21: the checks of SCORE_WRITE in their order, and what a read gives in the run stored and outside it. -/
theorem scoreWriteStoresTheRun : Obligations.ScoreWriteStoresTheRun := by
  refine fun start es s takes => ⟨fun nonempty few inside free => ?stored, fun bad => ?badLength,
    fun nonempty few out => command_takes takes (ownScoreWrite_badIndex nonempty few out),
    fun nonempty few inside plays source =>
      command_takes takes (ownScoreWrite_busy nonempty few inside plays source)⟩
  case stored =>
    exact ⟨_, command_takes takes (ownScoreWrite_stores nonempty few inside free),
      fun wf i run => readEntry_writeRun wf start.toNat es i run,
      fun _ outside => memRead_writeRun_out s.mem es outside⟩
  case badLength =>
    exact command_takes takes (ownScoreWrite_badLength start (bad.imp_left List.length_eq_zero_iff.2))

/-- Settles O22: both reads answer with entries of PMEM in turn, and their answer leaves the state. -/
theorem readsShowTheScoreAndTheRing : Obligations.ReadsShowTheScoreAndTheRing := by
  have empty {count : Half} (none : count = 0) : count.toNat = 0 := by rw [none]; rfl
  refine ⟨fun start count s takes => ⟨fun bad => ?badLength,
      fun nonempty few out => command_takes takes (ownScoreRead_badIndex nonempty few out),
      fun nonempty few inside => command_takes takes (ownScoreRead_shows nonempty few inside)⟩,
    fun offset count s takes => ⟨fun bad => ?badCapture,
      fun nonempty few => command_takes takes (ownCaptureRead_shows nonempty few offset)⟩⟩
  case badLength => exact command_takes takes (ownScoreRead_badLength (bad.imp_left empty) start)
  case badCapture => exact command_takes takes (ownCaptureRead_badLength (bad.imp_left empty) offset)

end Sys2Proof.Machine

namespace Sys2Proof.Machine

/-! ## PBE's items, operation by operation (R133 to R154) -/

/-! ### Stops and faults (R134, R145) -/

/-- R134, R145: PBE's items after the stop steps, with the cursor and the stack-error flag that the stop finds. -/
def Pbe.halted (cursor : Nat) (error : Bool) (b : Pbe) : Pbe :=
  { b with state := .stopped, saved := none, stack := [], countdown := 0, cursor := cursor, stackError := error }

theorem stopSteps_pbe (cause : PlayCause) (s : State) :
    (stopSteps cause s).pbe = s.pbe.halted s.pbe.cursor s.pbe.stackError := by
  unfold stopSteps
  dsimp only
  split <;> simp [Pbe.halted]

/-- R169: the stop steps at PRM. -/
theorem stopSteps_prm (cause : PlayCause) (s : State) :
    (stopSteps cause s).prm = { s.prm with expected := [], waitTimer := none, pauseSweep := none } := by
  unfold stopSteps
  dsimp only
  split <;> simp [practiceStop]

theorem scoreFault_pbe (cause : ScoreCause) (index : Nat) (s : State) :
    (scoreFault cause index s).pbe = s.pbe.halted s.pbe.cursor (s.pbe.stackError || setsStackError cause) := by
  simp [scoreFault, stopSteps_pbe, Pbe.halted]

/-! ### Waits (R147, R157) -/

/-- R147: PBE's items after a wait release. -/
def Pbe.released (b : Pbe) : Pbe :=
  match b.state with
  | .waiting => { b with state := .running }
  | .paused => if b.saved = some .waiting then { b with saved := some .running } else b
  | .stopped | .running => b

theorem waitRelease_pbe (s : State) : (waitRelease s).pbe = s.pbe.released := by
  unfold waitRelease Pbe.released
  cases state : s.pbe.state with
  | waiting => simp
  | paused =>
    dsimp only
    split <;> simp [state]
  | stopped => rfl
  | running => rfl

/-- R147: a wait release leaves PBE as it is where nothing waits. -/
theorem Pbe.released_still {b : Pbe} (still : b.state = .running ∨ b.state = .stopped) : b.released = b := by
  unfold Pbe.released
  rcases still with running | stopped
  · rw [running]
  · rw [stopped]

theorem releaseIfEmpty_pbe (s : State) : (releaseIfEmpty s).pbe = s.pbe ∨ (releaseIfEmpty s).pbe = s.pbe.released := by
  unfold releaseIfEmpty
  split
  · exact .inr (waitRelease_pbe _)
  · exact .inl rfl

/-- R160, R166: a strike at PRM at most releases a wait. -/
theorem practiceStrike_pbe (k : Key) (s : State) :
    (practiceStrike k s).pbe = s.pbe ∨ (practiceStrike k s).pbe = s.pbe.released := by
  unfold practiceStrike
  dsimp only
  (repeat' split)
  · exact .inl rfl
  · simpa using releaseIfEmpty_pbe (resolve k .hit .late _ _ (dropExpected k (examine s)))
  · exact .inl (by simp)

theorem expireWait_pbe (s : State) : (expireWait s).pbe = s.pbe.released := by
  unfold expireWait
  rw [waitRelease_pbe, foldl_keeps State.pbe _ (fun _ _ => by simp)]
  rfl

/-- R159, R167: PRM's sweep event at most releases a wait. -/
theorem practiceSweep_pbe (s : State) :
    (practiceSweep s).pbe = s.pbe ∨ (practiceSweep s).pbe = s.pbe.released := by
  unfold practiceSweep
  dsimp only
  (repeat' split)
  · exact .inl rfl
  · exact .inr (by rw [expireWait_pbe]; simp)
  · exact .inl (by simp)

theorem practiceSweep_pbe_still {s : State} (still : s.pbe.state = .running ∨ s.pbe.state = .stopped) :
    (practiceSweep s).pbe = s.pbe := by
  rcases practiceSweep_pbe s with same | released
  · exact same
  · rw [released, Pbe.released_still still]

/-- R170: a write of PRACTICE_MODE or PART_MASK at most releases a wait. -/
theorem afterModeWrite_pbe (changed : Bool) (s : State) :
    (afterModeWrite changed s).pbe = s.pbe ∨ (afterModeWrite changed s).pbe = s.pbe.released := by
  unfold afterModeWrite modeChange
  dsimp only
  (repeat' split)
  · exact .inr (by rw [waitRelease_pbe]; simp)
  · exact .inr (by rw [waitRelease_pbe]; simp)
  · exact .inl rfl

/-! ### The group key set (R157): between runs nothing but a run reaches it -/

@[simp] theorem waitRelease_groupKeys (s : State) : (waitRelease s).prm.groupKeys = s.prm.groupKeys := by simp

@[simp] theorem resolve_groupKeys (k : Key) (result : PracticeResult) (cause : PracticeCause) (offset : Int)
    (index : Option Nat) (s : State) : (resolve k result cause offset index s).prm.groupKeys = s.prm.groupKeys := by
  cases result <;> simp [resolve, countResult]

@[simp] theorem examine_groupKeys (s : State) : (examine s).prm.groupKeys = s.prm.groupKeys :=
  foldl_keeps (fun t => t.prm.groupKeys) _ (fun _ _ => by simp [resolveWrong]) _ _

@[simp] theorem joinRecent_groupKeys (k : Key) (s : State) : (joinRecent k s).prm.groupKeys = s.prm.groupKeys := by
  unfold joinRecent resolveWrong
  dsimp only
  (repeat' split) <;> simp

@[simp] theorem releaseIfEmpty_groupKeys (s : State) : (releaseIfEmpty s).prm.groupKeys = s.prm.groupKeys := by
  unfold releaseIfEmpty
  split <;> simp

@[simp] theorem practiceStrike_groupKeys (k : Key) (s : State) :
    (practiceStrike k s).prm.groupKeys = s.prm.groupKeys := by
  unfold practiceStrike dropExpected
  dsimp only
  (repeat' split) <;> simp

@[simp] theorem expireDeadlines_groupKeys (s : State) : (expireDeadlines s).prm.groupKeys = s.prm.groupKeys :=
  foldl_keeps (fun t => t.prm.groupKeys) _ (fun _ _ => by simp [resolveMiss]) _ _

@[simp] theorem expireWait_groupKeys (s : State) : (expireWait s).prm.groupKeys = s.prm.groupKeys := by
  unfold expireWait
  rw [waitRelease_groupKeys]
  exact foldl_keeps (fun t => t.prm.groupKeys) _ (fun _ _ => by simp [missTimeout, guideNote, resolveMiss]) _ _

@[simp] theorem practiceSweep_groupKeys (s : State) : (practiceSweep s).prm.groupKeys = s.prm.groupKeys := by
  unfold practiceSweep
  dsimp only
  (repeat' split) <;> simp

@[simp] theorem afterModeWrite_groupKeys (changed : Bool) (s : State) :
    (afterModeWrite changed s).prm.groupKeys = s.prm.groupKeys := by
  unfold afterModeWrite modeChange emptyExpected
  dsimp only
  (repeat' split) <;> simp

/-- R146: a run ends with an empty group key set. -/
theorem endGroup_groupKeys (s : State) : (endGroup s).prm.groupKeys = [] := rfl

/-! ### Entries and the cursor (R137 to R144) -/

theorem scoreEntry_delta_le (e : Entry) : (scoreEntry e).delta ≤ 1023 := by
  have b0 := e.b0.isLt
  have b1 := e.b1.isLt
  simp only [scoreEntry]
  omega

theorem takeEntry_delta_le (e : Entry) : (takeEntry e).delta ≤ 4095 := by
  have b0 := e.b0.isLt
  have b1 := e.b1.isLt
  simp only [takeEntry]
  omega

/-- R138: a place inside the region: the cursor moves there and the entry is loaded. -/
theorem moveCursor_inside {target : Nat} {s : State} (inside : target < regionSize s) (faultIndex : Nat) :
    moveCursor target faultIndex s =
      s.modPbe fun b => { b with cursor := target, countdown := (scoreAt s target).delta } := by
  simp [moveCursor, regionSize, State.modPbe, scoreAt, not_le.2 (show target < ringBase s.par.takeSize from inside)]

/-- R138: a place at the region size faults RANGE, the cursor standing there. -/
theorem moveCursor_outside {target : Nat} {s : State} (outside : regionSize s ≤ target) (faultIndex : Nat) :
    moveCursor target faultIndex s = scoreFault .range faultIndex (s.modPbe fun b => { b with cursor := target }) :=
  if_pos outside

/-- What the entries of one run can do to PBE's items, one change at a time: a new tempo, a stop, a move of the cursor
in the score region with its changed stack or in the take window, and the wait for a group. -/
inductive RunStep (region : Nat) : Pbe → Pbe → Prop
  | tempo (b : Pbe) (n : Nat) : RunStep region b { b with tempo := clamp 20 300 n }
  | halt (b : Pbe) (cursor : Nat) (error : Bool) : RunStep region b (b.halted cursor error)
  | move (b : Pbe) (stack : List NavRecord) (target delta : Nat) (running : b.state = .running)
      (score : b.source = .score) (depth : stack.length ≤ max 8 b.stack.length) (inside : target < region)
      (loaded : delta ≤ 1023) : RunStep region b { b with stack := stack, cursor := target, countdown := delta }
  | entry (b : Pbe) (w : TakeWindow) (place delta : Nat) (running : b.state = .running) (take : b.source = .take)
      (window : b.window = some w) (inside : place < w.count) (loaded : delta ≤ 4095) :
      RunStep region b { b with cursor := place, countdown := delta }
  | wait (b : Pbe) (running : b.state = .running) : RunStep region b { b with state := .waiting }

/-- What a run does to PBE's items. -/
abbrev RunSteps (region : Nat) : Pbe → Pbe → Prop := Relation.ReflTransGen (RunStep region)

/-- The items that no entry touches: the source, the take window and the pulse clock. -/
def SameClock (b c : Pbe) : Prop :=
  c.source = b.source ∧ c.window = b.window ∧ c.acc = b.acc ∧ c.beatPulse = b.beatPulse ∧
    c.barPosition = b.barPosition

theorem RunSteps.sameClock {region : Nat} {b c : Pbe} (steps : RunSteps region b c) : SameClock b c := by
  induction steps with
  | refl => exact ⟨rfl, rfl, rfl, rfl, rfl⟩
  | tail _ step ih => cases step <;> exact ih

theorem performScore_runSteps (e : ScoreEntry) (index : Nat) (s : State) :
    RunSteps (regionSize s) s.pbe (performScore e index s).pbe := by
  have same {t : State} (unchanged : t.pbe = s.pbe) : RunSteps (regionSize s) s.pbe t.pbe := unchanged ▸ .refl
  unfold performScore
  split
  · rw [stopSteps_pbe]; exact .single (.halt ..)
  · exact same (by simp)
  · exact same (by simp)
  · exact same (by simp)
  · split
    · exact same (by simp)
    · exact .refl
  · exact .single (.tempo ..)
  · exact same (by simp)
  · exact .refl
  · rw [scoreFault_pbe]; exact .single (.halt ..)

theorem performTake_pbe (e : TakeEntry) (offset : Nat) (s : State) : (performTake e offset s).pbe = s.pbe := by
  unfold performTake
  split <;> simp

theorem scoreFault_runSteps (cause : ScoreCause) (index : Nat) (s : State) :
    RunSteps (regionSize s) s.pbe (scoreFault cause index s).pbe := by
  rw [scoreFault_pbe]
  exact .single (.halt ..)

section
variable {s : State} (running : s.pbe.state = .running) (score : s.pbe.source = .score)
include running score

/-- R138, R143: the cursor moves with a changed stack, or faults. -/
theorem moveCursor_runSteps {stack : List NavRecord} (depth : stack.length ≤ max 8 s.pbe.stack.length)
    (target faultIndex : Nat) : RunSteps (regionSize s) s.pbe
      (moveCursor target faultIndex (s.modPbe fun b => { b with stack := stack })).pbe := by
  rcases Nat.lt_or_ge target (regionSize s) with inside | outside
  · rw [moveCursor_inside (by exact inside)]
    exact .single (.move _ _ _ _ running score depth inside (scoreEntry_delta_le _))
  · rw [moveCursor_outside (by exact outside), scoreFault_pbe]
    exact .single (.halt ..)

/-- R143, R144: a navigation entry moves the cursor, with a stack of at most 8 or a shorter one, or faults. -/
theorem navigate_runSteps (e : ScoreEntry) (i : Nat) : RunSteps (regionSize s) s.pbe (navigate e i s).pbe := by
  have moves {stack : List NavRecord} (depth : stack.length ≤ max 8 s.pbe.stack.length) (target : Nat) :=
    moveCursor_runSteps running score depth target i
  have faults (cause : ScoreCause) := scoreFault_runSteps cause i s
  unfold navigate
  dsimp only
  split
  case h_1 =>
    split
    · exact moves (stack := s.pbe.stack) (le_max_right ..) _
    · exact faults _
  case h_2 =>
    (repeat' split)
    · exact faults _
    · exact faults _
    · next room => exact moves (stack := .call (i + 2) :: s.pbe.stack) (by simp [Config.stackDepth] at *; omega) _
  case h_3 =>
    split
    · next r rest top => exact moves (stack := rest) (by simp [top]) _
    · exact faults _
  case h_4 =>
    split
    · exact faults _
    · next room => exact moves (stack := .loop (i + 2) _ :: s.pbe.stack) (by simp [Config.stackDepth] at *; omega) _
  case h_5 =>
    split
    · next start passes rest top =>
      split
      · exact moves (stack := rest) (by simp [top]) _
      · exact moves (stack := .loop start (passes - 1) :: rest) (by simp [top]) _
    · exact faults _

end

/-- R142: the carry, then the navigation. -/
theorem performNavigation_runSteps (e : ScoreEntry) (i : Nat) {s : State} (score : s.pbe.source = .score) :
    RunSteps (regionSize s) s.pbe (performNavigation e i s).pbe := by
  have carried := performScore_runSteps (scoreAt s (i + 1)) (i + 1) s
  have region : regionSize (performScore (scoreAt s (i + 1)) (i + 1) s) = regionSize s := by simp [regionSize]
  unfold performNavigation
  dsimp only
  (repeat' split)
  · exact scoreFault_runSteps _ _ s
  · exact scoreFault_runSteps _ _ s
  · next on =>
    have navigates := navigate_runSteps on (carried.sameClock.1.trans score) e i
    rw [region] at navigates
    exact carried.trans navigates
  · exact carried

theorem scoreStep_runSteps (e : ScoreEntry) {s : State} (score : s.pbe.source = .score) :
    RunSteps (regionSize s) s.pbe (scoreStep e s).pbe := by
  have performed := performScore_runSteps e s.pbe.cursor s
  have region : regionSize (performScore e s.pbe.cursor s) = regionSize s := by simp [regionSize]
  unfold scoreStep
  dsimp only
  split
  · next on =>
    have moves := moveCursor_runSteps on (performed.sameClock.1.trans score) (le_max_right ..)
      ((performScore e s.pbe.cursor s).pbe.cursor + 1) ((performScore e s.pbe.cursor s).pbe.cursor + 1)
    rw [region] at moves
    exact performed.trans moves
  · exact performed

theorem runGoesOn_iff (s : State) : runGoesOn s = true ↔ s.pbe.state = .running ∧ s.pbe.countdown = 0 := by
  simp [runGoesOn]

/-- R137: the run of a score is its entries in turn. -/
theorem scoreRun_runSteps (places : Nat) {s : State} (running : s.pbe.state = .running)
    (score : s.pbe.source = .score) :
    RunSteps (regionSize s) s.pbe (scoreRun places s).pbe := by
  induction places, s using scoreRun.induct with
  | case1 s => exact .refl
  | case2 s e navigation => rw [show scoreRun 1 s = s from if_pos navigation]
  | case3 s e navigation left t on ih =>
    have performed : RunSteps (regionSize s) s.pbe t.pbe := performNavigation_runSteps e s.pbe.cursor score
    have rest := ih ((runGoesOn_iff t).1 on).1 (performed.sameClock.1.trans score)
    rw [show regionSize t = regionSize s by simp [t, regionSize]] at rest
    rw [show scoreRun (left + 2) s = scoreRun left t from (if_pos navigation).trans (if_pos on)]
    exact performed.trans rest
  | case4 s e navigation left t off =>
    rw [show scoreRun (left + 2) s = t from (if_pos navigation).trans (if_neg off)]
    exact performNavigation_runSteps e s.pbe.cursor score
  | case5 left s e entry t on ih =>
    have performed : RunSteps (regionSize s) s.pbe t.pbe := scoreStep_runSteps e score
    have rest := ih ((runGoesOn_iff t).1 on).1 (performed.sameClock.1.trans score)
    rw [show regionSize t = regionSize s by simp [t, regionSize]] at rest
    rw [show scoreRun (left + 1) s = scoreRun left t from (scoreRun_succ (Bool.eq_false_iff.2 entry)).trans (if_pos on)]
    exact performed.trans rest
  | case6 left s e entry t off =>
    rw [show scoreRun (left + 1) s = t from (scoreRun_succ (Bool.eq_false_iff.2 entry)).trans (if_neg off)]
    exact scoreStep_runSteps e score

theorem windowOf_eq {w : TakeWindow} {s : State} (window : s.pbe.window = some w) : windowOf s = w := by
  rw [windowOf, window]

/-- A take window that names an entry is present. -/
theorem window_of_inside {place : Nat} {s : State} (inside : place < (windowOf s).count) :
    s.pbe.window = some (windowOf s) := by
  cases window : s.pbe.window with
  | none => exact absurd inside (by simp [windowOf, window])
  | some w => rw [windowOf_eq window]

/-- A take entry reads PMEM, TAKE_SIZE and the window alone. -/
theorem takeAt_congr {s t : State} (par : t.par = s.par) (mem : t.mem = s.mem) (window : t.pbe.window = s.pbe.window)
    (offset : Nat) : takeAt t offset = takeAt s offset := by
  simp only [takeAt, windowOf, ringEntryIndex, regionSize, takeRingSize, par, mem, window]

section
variable {s : State}

/-- R148: past the last entry the take is over. -/
theorem takeStep_last (last : (windowOf s).count ≤ s.pbe.cursor + 1) :
    takeStep s = stopSteps .takeEnd
      ((performTake (takeAt s s.pbe.cursor) s.pbe.cursor s).modPbe fun b => { b with cursor := s.pbe.cursor + 1 }) := by
  have window := performTake_pbe (takeAt s s.pbe.cursor) s.pbe.cursor s
  exact if_pos (by simpa [windowOf, window] using last)

/-- R148: before it the next entry is loaded. -/
theorem takeStep_more (more : s.pbe.cursor + 1 < (windowOf s).count) :
    takeStep s = (performTake (takeAt s s.pbe.cursor) s.pbe.cursor s).modPbe fun b =>
      { b with cursor := s.pbe.cursor + 1, countdown := (takeAt s (s.pbe.cursor + 1)).delta } := by
  have window := performTake_pbe (takeAt s s.pbe.cursor) s.pbe.cursor s
  have loaded := takeAt_congr (s := s)
    (t := (performTake (takeAt s s.pbe.cursor) s.pbe.cursor s).modPbe fun b => { b with cursor := s.pbe.cursor + 1 })
    (by simp) (by simp) (by simp [window]) (s.pbe.cursor + 1)
  rw [← loaded]
  exact if_neg (not_le.2 (by simpa [windowOf, window] using more))

/-- R148: the entry of a take is performed and the cursor moves on in the window, or the take ends. -/
theorem takeStep_runSteps (running : s.pbe.state = .running) (take : s.pbe.source = .take) :
    RunSteps (regionSize s) s.pbe (takeStep s).pbe := by
  rcases Nat.lt_or_ge (s.pbe.cursor + 1) (windowOf s).count with more | last
  · rw [takeStep_more more, State.modPbe_pbe, performTake_pbe]
    exact .single (.entry _ _ _ _ running take (window_of_inside more) more (takeEntry_delta_le _))
  · rw [takeStep_last last, stopSteps_pbe, State.modPbe_pbe, performTake_pbe]
    exact .single (.halt ..)

end

theorem takeRun_runSteps (places : Nat) {s : State} (running : s.pbe.state = .running) (take : s.pbe.source = .take) :
    RunSteps (regionSize s) s.pbe (takeRun places s).pbe := by
  induction places generalizing s with
  | zero => exact .refl
  | succ places ih =>
    have stepped := takeStep_runSteps running take
    rw [takeRun]
    split
    · next on =>
      have rest := ih ((runGoesOn_iff _).1 on).1 (stepped.sameClock.1.trans take)
      rw [show regionSize (takeStep s) = regionSize s by simp [regionSize]] at rest
      exact stepped.trans rest
    · exact stepped

/-- R146, R165: at the end of a run PBE at most enters WAITING. -/
theorem endGroup_runSteps (region : Nat) (s : State) : RunSteps region s.pbe (endGroup s).pbe := by
  have closes (running : s.pbe.state = .running) : RunSteps region s.pbe (closeGroup s).pbe := by
    unfold closeGroup
    dsimp only
    split
    · exact .refl
    · simpa using Relation.ReflTransGen.single (RunStep.wait (region := region) s.pbe running)
  unfold endGroup
  dsimp only
  split
  · next closing =>
    simp only [Bool.and_eq_true, beq_iff_eq] at closing
    exact closes closing.1.2
  · exact .refl

theorem performRun_runSteps {s : State} (running : s.pbe.state = .running) :
    RunSteps (regionSize s) s.pbe (performRun s).pbe := by
  unfold performRun
  cases source : s.pbe.source with
  | score => exact (scoreRun_runSteps _ running source).trans (endGroup_runSteps _ _)
  | take => exact (takeRun_runSteps _ running source).trans (endGroup_runSteps _ _)

theorem performRun_groupKeys (s : State) : (performRun s).prm.groupKeys = [] := endGroup_groupKeys _

end Sys2Proof.Machine

namespace Sys2Proof.Machine

/-! ## What a step keeps of PARAM, PBE and the group key set (R133, R135, R144, R191) -/

/-! ### PBE's items in their ranges -/

/-- The cursor names an entry of its source (R133). -/
def Pbe.OnEntry (region : Nat) (b : Pbe) : Prop :=
  match b.source with
  | .score => b.cursor < region
  | .take => ∃ w, b.window = some w ∧ b.cursor < w.count

/-- The items of PBE that KeepsPlayback reads and, where `places` holds, those that KeepsPlaces reads. -/
structure PbeWithin (places : Prop) (region : Nat) (b : Pbe) : Prop where
  acc : b.acc < 500000
  tempo : 20 ≤ b.tempo ∧ b.tempo ≤ 300
  depth : b.stack.length ≤ 8
  error : b.stackError = true → b.state = .stopped
  loaded : places → (b.source = .score → b.countdown ≤ 1024) ∧ b.countdown ≤ 4096
  beat : places → b.beatPulse < 96 ∧ b.barPosition < 16
  saved : places → (b.saved ≠ none ↔ b.state = .paused)
  onEntry : places → b.state ≠ .stopped → b.OnEntry region

/-- KeepsPlayback and, where `places` holds, KeepsPlaces. -/
def PlaybackKept (places : Prop) (s : State) : Prop := KeepsPlayback s ∧ (places → KeepsPlaces s)

theorem playbackKept_iff (places : Prop) (s : State) : PlaybackKept places s ↔
    KeepsParams s ∧ PbeWithin places (regionSize s) s.pbe ∧ s.prm.groupKeys = [] := by
  constructor
  · rintro ⟨⟨params, acc, tempo, depth, error, groups⟩, placed⟩
    refine ⟨params,
      ⟨acc, tempo, depth, error, fun asked => ?_, fun asked => ?_, fun asked => ?_, fun asked => ?_⟩, groups⟩
    all_goals obtain ⟨score, loaded, pulse, bar, saved, onEntry⟩ := placed asked
    · exact ⟨score, loaded⟩
    · exact ⟨pulse, bar⟩
    · exact saved
    · exact onEntry
  · rintro ⟨params, within, groups⟩
    refine ⟨⟨params, within.acc, within.tempo, within.depth, within.error, groups⟩, fun asked => ?_⟩
    obtain ⟨score, loaded⟩ := within.loaded asked
    obtain ⟨pulse, bar⟩ := within.beat asked
    exact ⟨score, loaded, pulse, bar, within.saved asked, within.onEntry asked⟩

namespace PbeWithin

variable {places : Prop} {region : Nat} {b : Pbe}

/-- R134: after a stop PBE's own items alone are read: A, the tempo and the beat. -/
theorem of_halted (acc : b.acc < 500000) (tempo : 20 ≤ b.tempo ∧ b.tempo ≤ 300)
    (beat : places → b.beatPulse < 96 ∧ b.barPosition < 16) (cursor : Nat) (error : Bool) :
    PbeWithin places region (b.halted cursor error) where
  acc := acc
  tempo := tempo
  depth := Nat.zero_le _
  error _ := rfl
  loaded _ := ⟨fun _ => Nat.zero_le _, Nat.zero_le _⟩
  beat := beat
  saved _ := by simp [Pbe.halted]
  onEntry _ playing := absurd rfl playing

theorem halted (within : PbeWithin places region b) (cursor : Nat) (error : Bool) :
    PbeWithin places region (b.halted cursor error) :=
  of_halted within.acc within.tempo within.beat cursor error

/-- In STOPPED the region is not read. -/
theorem of_stopped (within : PbeWithin places region b) (stopped : b.state = .stopped) (other : Nat) :
    PbeWithin places other b :=
  { within with onEntry := fun _ playing => absurd stopped playing }

/-- R145: a playing PBE has no stack error. -/
theorem error_false (within : PbeWithin places region b) (playing : b.state ≠ .stopped) : b.stackError = false := by
  cases flag : b.stackError with
  | false => rfl
  | true => exact absurd (within.error flag) playing

/-- A state that is neither STOPPED nor PAUSED saves nothing. -/
theorem saved_none (within : PbeWithin places region b) (asked : places) (other : b.state ≠ .paused) :
    b.saved = none := by
  by_contra saves
  exact other ((within.saved asked).1 saves)

/-- R146, R147: RUNNING and WAITING follow each other with nothing else changed. -/
theorem playing (within : PbeWithin places region b) {later : PlayState}
    (now : b.state = .running ∨ b.state = .waiting) (next : later = .running ∨ later = .waiting) :
    PbeWithin places region { b with state := later } := by
  have moving : b.state ≠ .stopped ∧ b.state ≠ .paused := by rcases now with state | state <;> simp [state]
  have going : later ≠ .paused := by rcases next with rfl | rfl <;> simp
  exact { within with
    error := fun flag => absurd flag (by simp [within.error_false moving.1])
    saved := fun asked => by simp [within.saved_none asked moving.2, going]
    onEntry := fun asked _ => within.onEntry asked moving.1 }

theorem released (within : PbeWithin places region b) : PbeWithin places region b.released := by
  unfold Pbe.released
  split
  · next waiting => exact within.playing (.inr waiting) (.inl rfl)
  · next paused =>
    split
    · exact { within with saved := fun asked => by simp [paused] }
    · exact within
  · exact within
  · exact within

/-- R137 to R148: an entry of a run keeps the ranges: it checks the index before the cursor stands there. -/
theorem runStep {c : Pbe} (within : PbeWithin places region b) (step : RunStep region b c) :
    PbeWithin places region c := by
  cases step with
  | tempo n => exact { within with tempo := ⟨le_clamp .., clamp_le (by decide) n⟩ }
  | halt cursor error => exact within.halted cursor error
  | move stack target delta running score depth inside loaded =>
    have shallow := within.depth
    exact { within with
      depth := by simp only; omega
      loaded := fun _ => ⟨fun _ => by simp only; omega, by simp only; omega⟩
      onEntry := fun _ _ => by simpa only [Pbe.OnEntry, score] using inside }
  | entry w place delta running take window inside loaded =>
    exact { within with
      loaded := fun _ => ⟨fun score => by simp [take] at score, by simp only; omega⟩
      onEntry := fun _ _ => by simpa only [Pbe.OnEntry, take] using ⟨w, window, inside⟩ }
  | wait running => exact within.playing (.inl running) (.inr rfl)

theorem runSteps {c : Pbe} (within : PbeWithin places region b) (steps : RunSteps region b c) :
    PbeWithin places region c := by
  induction steps with
  | refl => exact within
  | tail _ step ih => exact ih.runStep step

/-- R135, R141: the pulse clock moves within its ranges. -/
theorem clock (within : PbeWithin places region b) {acc pulse bar : Nat} (low : acc < 500000)
    (beat : places → pulse < 96 ∧ bar < 16) :
    PbeWithin places region { b with acc := acc, beatPulse := pulse, barPosition := bar } :=
  { within with acc := low, beat := beat }

theorem countDown (within : PbeWithin places region b) :
    PbeWithin places region { b with countdown := b.countdown - 1 } :=
  { within with
    loaded := fun asked => by
      obtain ⟨score, all⟩ := within.loaded asked
      exact ⟨fun source => (Nat.sub_le _ _).trans (score source), (Nat.sub_le _ _).trans all⟩ }

end PbeWithin

/-! ### The operations of PBE, PRM and PARAM -/

section
variable {places : Prop} {s t : State}

/-- The PARAM entries, PBE and the group key set are all that is read. -/
theorem PlaybackKept.reads (par : t.par = s.par) (pbe : t.pbe = s.pbe) (groups : t.prm.groupKeys = s.prm.groupKeys)
    (kept : PlaybackKept places s) : PlaybackKept places t := by
  rw [playbackKept_iff] at kept ⊢
  rw [KeepsParams, regionSize, par, pbe, groups]
  exact kept

/-- An operation of PBE alone. -/
theorem PlaybackKept.of_pbe (kept : PlaybackKept places s) (par : t.par = s.par)
    (pbe : PbeWithin places (regionSize s) s.pbe → PbeWithin places (regionSize s) t.pbe)
    (groups : t.prm.groupKeys = s.prm.groupKeys) : PlaybackKept places t := by
  rw [playbackKept_iff] at kept ⊢
  obtain ⟨params, within, none⟩ := kept
  rw [KeepsParams, regionSize, par, groups]
  exact ⟨params, pbe within, none⟩

/-- An operation that at most releases a wait. -/
theorem PlaybackKept.of_release (kept : PlaybackKept places s) (par : t.par = s.par)
    (pbe : t.pbe = s.pbe ∨ t.pbe = s.pbe.released) (groups : t.prm.groupKeys = s.prm.groupKeys) :
    PlaybackKept places t :=
  kept.of_pbe par (fun within => by rcases pbe with same | released <;> simp only [*, within.released]) groups

theorem stopSteps_playbackKept (cause : PlayCause) (kept : PlaybackKept places s) :
    PlaybackKept places (stopSteps cause s) :=
  kept.of_pbe (by simp) (fun within => by rw [stopSteps_pbe]; exact within.halted _ _) (by rw [stopSteps_prm])

theorem practiceSweep_playbackKept (kept : PlaybackKept places s) : PlaybackKept places (practiceSweep s) :=
  kept.of_release (by simp) (practiceSweep_pbe s) (by simp)

/-! ### PBE's sweep event (R135, R137, R141) -/

/-- A run leaves the group key set empty, whatever it was. -/
theorem performRun_playbackKept (params : KeepsParams s) (within : PbeWithin places (regionSize s) s.pbe)
    (running : s.pbe.state = .running) : PlaybackKept places (performRun s) := by
  rw [playbackKept_iff, KeepsParams, regionSize, (performRun_frame s).2.1, performRun_groupKeys]
  exact ⟨params, within.runSteps (performRun_runSteps running), rfl⟩

theorem playUnit_playbackKept (kept : PlaybackKept places s) (running : s.pbe.state = .running) :
    PlaybackKept places (playUnit s) := by
  have counted : PlaybackKept places (countDown s) := kept.of_pbe rfl (·.countDown) rfl
  unfold playUnit
  dsimp only
  split
  · obtain ⟨params, within, -⟩ := (playbackKept_iff _ _).1 counted
    exact performRun_playbackKept params within running
  · exact counted

/-- R135: the gain of a sweep, from the ranges of the tempo and of TEMPO_SCALE. -/
theorem gain_le (params : KeepsParams s) (within : PbeWithin places (regionSize s) s.pbe) :
    s.pbe.tempo * s.par.tempoScale ≤ 300 * 200 :=
  Nat.mul_le_mul within.tempo.2 (params 21 (by decide)).2

/-- R135, R141: a pulse leaves A below the modulus, the beat pulse count below 96 and the bar position below
BEATS_PER_BAR. -/
theorem atUnit_playbackKept {m : Nat} (modulus : m = 500000) (kept : PlaybackKept places s) :
    PlaybackKept places (atUnit m s) := by
  obtain ⟨par, prm⟩ : (atUnit m s).par = s.par ∧ (atUnit m s).prm = s.prm := by
    obtain ⟨-, par, -, -, -, -, -, -, prm, -⟩ := atUnit_frame m s
    exact ⟨par, prm⟩
  obtain ⟨params, -, -⟩ := (playbackKept_iff _ _).1 kept
  refine kept.of_pbe par (fun within => ?_) (by rw [prm])
  have gain := gain_le params within
  have acc := within.acc
  have bar : s.par.beatsPerBar ≤ 16 := (params 23 (by decide)).2
  obtain ⟨pulse, position⟩ := atUnit_beat m s
  rw [atUnit_pbe, pulse, position]
  refine within.clock (by omega) fun asked => ?_
  obtain ⟨pulses, bars⟩ := within.beat asked
  refine ⟨by split <;> omega, ?_⟩
  (repeat' split) <;> omega

theorem playbackSweep_playbackKept (kept : PlaybackKept places s) : PlaybackKept places (playbackSweep s) := by
  by_cases running : s.pbe.state = .running
  · cases source : s.pbe.source with
    | take =>
      have unit : playbackSweep s = playUnit s := by simp only [playbackSweep, running, source]
      rw [unit]
      exact playUnit_playbackKept kept running
    | score =>
      rcases Nat.lt_or_ge (s.pbe.acc + s.pbe.tempo * s.par.tempoScale) 500000 with below | due
      · rw [playbackSweep_gain running source below]
        exact kept.of_pbe rfl (fun within => { within with acc := below }) rfl
      · rw [playbackSweep_pulse running source due, performPulse_eq]
        exact playUnit_playbackKept (atUnit_playbackKept rfl kept) (by rw [atUnit_pbe]; exact running)
  · rw [playbackSweep_still running]
    exact kept

/-! ### Strikes (R166) -/

theorem deliverKeyEvent_playbackKept (k : Key) (e : KeyEvent) (kept : PlaybackKept places s) :
    PlaybackKept places (deliverKeyEvent k s e) := by
  cases e with
  | lift => exact kept.reads (by simp [deliverKeyEvent]) (by simp [deliverKeyEvent]) (by simp [deliverKeyEvent])
  | strike level speed repeated interval =>
    have strikes := practiceStrike_pbe k (voiceStrike k level (noteStrike s))
    refine kept.of_release (by simp [deliverKeyEvent, deliverStrike]) ?_ (by simp [deliverKeyEvent, deliverStrike])
    simpa [deliverKeyEvent, deliverStrike] using strikes
  | release fault =>
    exact kept.reads (by simp [deliverKeyEvent]) (by simp [deliverKeyEvent]) (by simp [deliverKeyEvent])

theorem deliverSample_playbackKept (c : Channel) (pos : Nat) (kept : PlaybackKept places s) :
    PlaybackKept places (deliverSample c pos s) := by
  cases c with
  | key k =>
    exact foldl_invariant (PlaybackKept places) _ (fun _ e before => deliverKeyEvent_playbackKept k e before) _ _
      (kept.reads (by simp) (by simp) (by simp))
  | pedal p => exact kept.reads (by simp [deliverSample]) (by simp [deliverSample]) (by simp [deliverSample])
  | rail => exact kept.reads (by simp [deliverSample]) (by simp [deliverSample]) (by simp [deliverSample])

/-! ### TABLE WRITE of PARAM (R191) -/

/-- R191: the PARAM entries lie in their ranges. -/
def Params.InRange (p : Params) : Prop := ∀ i < paramCount, paramLo i ≤ paramGet p i ∧ paramGet p i ≤ paramHi i

theorem paramSet_inRange {p : Params} (ranges : p.InRange) {i v : Nat} (low : paramLo i ≤ v) (high : v ≤ paramHi i) :
    (paramSet i v p).InRange := by
  intro j inside
  rcases Nat.lt_or_ge i 33 with stored | past
  · by_cases same : j = i
    · rw [same, paramGet_paramSet_self stored]
      exact ⟨low, high⟩
    · rw [paramGet_paramSet_ne stored inside same]
      exact ranges j inside
  · obtain ⟨n, rfl⟩ := Nat.exists_eq_add_of_le' past
    exact ranges j inside

/-- A PARAM write that leaves TAKE_SIZE and PBE. -/
theorem PlaybackKept.of_par (kept : PlaybackKept places s) (ranges : s.par.InRange → t.par.InRange)
    (size : t.par.takeSize = s.par.takeSize) (pbe : t.pbe = s.pbe) (groups : t.prm.groupKeys = s.prm.groupKeys) :
    PlaybackKept places t := by
  rw [playbackKept_iff] at kept ⊢
  obtain ⟨params, within, none⟩ := kept
  rw [regionSize, size, pbe, groups]
  exact ⟨ranges params, within, none⟩

theorem storeParam_playbackKept (kept : PlaybackKept places s) {i v : Nat} (other : i ≠ 30) (low : paramLo i ≤ v)
    (high : v ≤ paramHi i) : PlaybackKept places (storeParam i v s) :=
  kept.of_par (fun ranges => paramSet_inRange ranges low high) (paramSet_takeSize other v s.par) rfl rfl

theorem paramLo_le_paramHi (i : Nat) : paramLo i ≤ paramHi i := by
  rcases Nat.lt_or_ge i 33 with inside | past
  · interval_cases i <;> decide
  · obtain ⟨n, rfl⟩ := Nat.exists_eq_add_of_le' past
    exact Nat.zero_le _

theorem testThresholds_playbackKept (kept : PlaybackKept places s) : PlaybackKept places (testThresholds s) :=
  kept.reads (by simp [testThresholds]) (by simp [testThresholds]) (by simp [testThresholds])

/-- R57: HOLD_ON is stored, and HOLD_OFF below it where it must fall. -/
theorem takeHoldOn_playbackKept (v : Nat) {w : WriteResult} (kept : PlaybackKept places w.st) :
    PlaybackKept places (takeHoldOn v w).st := by
  have low := le_clamp 1 127 v
  have high := clamp_le (show 1 ≤ 127 by decide) v
  refine testThresholds_playbackKept (kept.of_par (fun ranges => ?_) rfl rfl rfl)
  have on : (paramSet 9 (clamp 1 127 v) w.st.par).InRange := paramSet_inRange ranges low high
  by_cases lowers : clamp 1 127 v ≤ w.st.par.holdOff
  · simp only [State.modPar_par, if_pos lowers]
    exact paramSet_inRange on (i := 10) (v := clamp 1 127 v - 1) (Nat.zero_le _)
      (show clamp 1 127 v - 1 ≤ 126 by omega)
  · simp only [State.modPar_par, if_neg lowers]
    exact on

theorem takeHoldOff_playbackKept (v : Nat) {w : WriteResult} (kept : PlaybackKept places w.st) :
    PlaybackKept places (takeHoldOff v w).st := by
  have high := clamp_le (show 0 ≤ 126 by decide) v
  refine testThresholds_playbackKept (kept.of_par (fun ranges => ?_) rfl rfl rfl)
  exact paramSet_inRange ranges (i := 10) (Nat.zero_le _) ((min_le_left ..).trans high)

/-- R120: the boundary moves in STOPPED alone, where the cursor names no entry. -/
theorem takeTakeSize_playbackKept (v : Nat) {w : WriteResult} (kept : PlaybackKept places w.st) :
    PlaybackKept places (takeTakeSize v w).st := by
  unfold takeTakeSize
  split
  · next idle =>
    obtain ⟨params, within, none⟩ := (playbackKept_iff _ _).1 kept
    rw [playbackKept_iff]
    exact ⟨paramSet_inRange (i := 30) params (Nat.zero_le _) (clamp_le (by decide) v),
      within.of_stopped idle.2 _, none⟩
  · exact kept

theorem takeParam_playbackKept (a : ParamArgs) (w : WriteResult) (kept : PlaybackKept places w.st) :
    PlaybackKept places (takeParam a w).st := by
  have clamps {lo hi : Nat} (ordered : lo ≤ hi) (v : Nat) := And.intro (le_clamp lo hi v) (clamp_le ordered v)
  have mode {i v : Nat} (changed : Bool) (other : i ≠ 30) (low : paramLo i ≤ v) (high : v ≤ paramHi i) :
      PlaybackKept places (afterModeWrite changed (storeParam i v w.st)) :=
    (storeParam_playbackKept kept other low high).of_release (by simp) (afterModeWrite_pbe _ _) (by simp)
  unfold takeParam
  dsimp only
  split
  · obtain ⟨low, high⟩ := clamps (show 0 ≤ 7 by decide) a.value.toNat
    exact (storeParam_playbackKept (i := 7) kept (by decide) low high).reads
      (by simp [takePedalAccum, WriteResult.taken])
      (by simp [takePedalAccum, WriteResult.taken]) (by simp [takePedalAccum, WriteResult.taken])
  · exact takeHoldOn_playbackKept _ kept
  · exact takeHoldOff_playbackKept _ kept
  · obtain ⟨low, high⟩ := clamps (show 0 ≤ 2 by decide) a.value.toNat
    exact mode (i := 24) _ (by decide) low high
  · obtain ⟨low, high⟩ := clamps (show 0 ≤ 15 by decide) a.value.toNat
    exact mode (i := 25) _ (by decide) low high
  · exact takeTakeSize_playbackKept _ kept
  · next other =>
    obtain ⟨low, high⟩ := clamps (paramLo_le_paramHi a.index.toNat) a.value.toNat
    exact storeParam_playbackKept kept other low high

end

end Sys2Proof.Machine

namespace Sys2Proof.Machine

/-! ### Places (R149, R150, R154) -/

@[simp] theorem tellRecorder_frame (s : State) :
    (tellRecorder s).resetHeld = s.resetHeld ∧ (tellRecorder s).par = s.par ∧ (tellRecorder s).scn = s.scn ∧
    (tellRecorder s).ktr = s.ktr ∧ (tellRecorder s).ptr = s.ptr ∧ (tellRecorder s).rlc = s.rlc ∧
    (tellRecorder s).vdp = s.vdp ∧ (tellRecorder s).hpm = s.hpm ∧ (tellRecorder s).pbe = s.pbe ∧
    (tellRecorder s).prm = s.prm ∧ (tellRecorder s).pending = s.pending ∧ (tellRecorder s).now = s.now := by
  unfold tellRecorder
  split <;> simp

theorem placeCursor_score {s : State} (score : s.pbe.source = .score) (place : Nat) :
    placeCursor place s = s.modPbe fun b => { b with cursor := place, countdown := (scoreAt s place).delta + 1 } := by
  unfold placeCursor
  rw [score]
  rfl

theorem placeCursor_take {s : State} (take : s.pbe.source = .take) (place : Nat) :
    placeCursor place s = s.modPbe fun b => { b with cursor := place, countdown := (takeAt s place).delta + 1 } := by
  unfold placeCursor
  rw [take]
  rfl

/-- R137, R149: a place loads the countdown with a delta of its source. -/
theorem placeCursor_loads (place : Nat) (s : State) : ∃ delta, (s.pbe.source = .score → delta ≤ 1023) ∧ delta ≤ 4095 ∧
    placeCursor place s = s.modPbe fun b => { b with cursor := place, countdown := delta + 1 } := by
  cases source : s.pbe.source with
  | score =>
    have loaded : (scoreAt s place).delta ≤ 1023 := scoreEntry_delta_le _
    exact ⟨_, fun _ => loaded, loaded.trans (by decide), placeCursor_score source place⟩
  | take => exact ⟨_, fun score => (nomatch score), takeEntry_delta_le _, placeCursor_take source place⟩

theorem onEntry_score {s : State} (score : s.pbe.source = .score) :
    s.pbe.OnEntry (regionSize s) ↔ s.pbe.cursor < regionSize s := by
  rw [Pbe.OnEntry, score]

theorem onEntry_take {s : State} (take : s.pbe.source = .take) :
    s.pbe.OnEntry (regionSize s) ↔ s.pbe.cursor < (windowOf s).count := by
  rw [Pbe.OnEntry, take]
  constructor
  · rintro ⟨w, window, inside⟩
    rwa [windowOf_eq window]
  · exact fun inside => ⟨_, window_of_inside inside, inside⟩

/-- R149: a place on an entry stands. -/
theorem afterPlacing_on {s : State} (on : s.pbe.OnEntry (regionSize s)) : afterPlacing s = s := by
  unfold afterPlacing
  split
  · next score => exact if_neg (not_le.2 ((onEntry_score score).1 on))
  · next take => exact if_neg (not_le.2 ((onEntry_take take).1 on))

/-- R138, R149: a place at the end of the material stops PBE there. -/
theorem afterPlacing_off {s : State} (off : ¬ s.pbe.OnEntry (regionSize s)) :
    (afterPlacing s).pbe = s.pbe.halted s.pbe.cursor s.pbe.stackError ∧
      (afterPlacing s).prm = { s.prm with expected := [], waitTimer := none, pauseSweep := none } := by
  unfold afterPlacing
  split
  · next score =>
    rw [if_pos (not_lt.1 (mt (onEntry_score score).2 off))]
    exact ⟨by rw [scoreFault_pbe]; simp [setsStackError], by rw [scoreFault, stopSteps_prm]; simp⟩
  · next take =>
    rw [if_pos (not_lt.1 (mt (onEntry_take take).2 off))]
    exact ⟨stopSteps_pbe .takeEnd s, stopSteps_prm .takeEnd s⟩

section
variable {places : Prop} {s : State}

theorem afterPlacing_playbackKept (params : KeepsParams s)
    (stops : ∀ cursor error, PbeWithin places (regionSize s) (s.pbe.halted cursor error))
    (plays : s.pbe.OnEntry (regionSize s) → PbeWithin places (regionSize s) s.pbe) (groups : s.prm.groupKeys = []) :
    PlaybackKept places (afterPlacing s) := by
  by_cases on : s.pbe.OnEntry (regionSize s)
  · rw [afterPlacing_on on, playbackKept_iff]
    exact ⟨params, plays on, groups⟩
  · obtain ⟨pbe, prm⟩ := afterPlacing_off on
    rw [playbackKept_iff, KeepsParams, regionSize, (afterPlacing_frame s).2.1, pbe, prm]
    exact ⟨params, stops _ _, groups⟩

/-- R150: PLAY starts from items in their ranges, and stops at once where the place is no entry. -/
theorem playFrom_playbackKept (kept : PlaybackKept places s) (stopped : s.pbe.state = .stopped) (source : Source)
    (place : Nat) : PlaybackKept places (playFrom source place s) := by
  obtain ⟨params, within, groups⟩ := (playbackKept_iff _ _).1 kept
  obtain ⟨w, windowed⟩ : ∃ w, fixWindow source (practicePlay (s.modPbe (playItems source))) =
      practicePlay (s.modPbe fun b => { playItems source b with window := w }) := by
    cases source
    · exact ⟨s.pbe.window, rfl⟩
    · exact ⟨some (presentWindow s), rfl⟩
  obtain ⟨delta, short, long, loads⟩ :=
    placeCursor_loads place (practicePlay (s.modPbe fun b => { playItems source b with window := w }))
  have short' : source = .score → delta ≤ 1023 := short
  unfold playFrom
  dsimp only
  rw [windowed, loads]
  refine afterPlacing_playbackKept (by simpa [KeepsParams] using params) (fun _ _ => ?_) (fun on => ?_)
    (by simpa [practicePlay] using groups)
  · exact .of_halted (by simp [playItems]) (by simp [playItems]) (fun _ => by simp [playItems]) _ _
  · simp only [tellRecorder_frame, playReport_frame, State.modPbe_pbe, practicePlay_frame] at on ⊢
    exact {
      acc := by simp [playItems]
      tempo := by simp [playItems]
      depth := by simp [playItems]
      error := by simp [playItems]
      loaded := fun _ => ⟨fun score => Nat.succ_le_succ (short' score), Nat.succ_le_succ long⟩
      beat := fun _ => by simp [playItems]
      saved := fun asked => by simp [playItems, within.saved_none asked (by simp [stopped])]
      onEntry := fun _ _ => on }

/-- R154: LOCATE leaves a wait, keeps A and the tempo, and stops where the place is no entry. -/
theorem locateAt_playbackKept (kept : PlaybackKept places s) (playing : s.pbe.state ≠ .stopped) (place : Nat) :
    PlaybackKept places (locateAt place s) := by
  obtain ⟨params, within, groups⟩ := (playbackKept_iff _ _).1 kept
  obtain ⟨delta, short, long, loads⟩ :=
    placeCursor_loads place (emptyExpected (s.modPbe fun b => { b with stack := [] }))
  have short' : s.pbe.source = .score → delta ≤ 1023 := short
  unfold locateAt
  dsimp only
  rw [loads]
  refine afterPlacing_playbackKept (by simpa [KeepsParams] using params) (fun _ _ => ?_) (fun on => ?_)
    (by simpa [emptyExpected] using groups)
  · exact .of_halted (by simpa [leaveWaiting] using within.acc) (by simpa [leaveWaiting] using within.tempo)
      (fun _ => by simp) _ _
  · simp only [tellRecorder_frame, playReport_frame, State.modPbe_pbe, emptyExpected_frame] at on ⊢
    exact {
      acc := within.acc
      tempo := within.tempo
      depth := Nat.zero_le _
      error := fun flag => absurd flag (by simp [leaveWaiting, within.error_false playing])
      loaded := fun _ => ⟨fun score => Nat.succ_le_succ (short' score), Nat.succ_le_succ long⟩
      beat := fun _ => by simp
      saved := fun asked => by
        have saved := within.saved asked
        by_cases waiting : s.pbe.state = .waiting
        · simp [leaveWaiting, waiting, within.saved_none asked (by simp [waiting])]
        · simpa [leaveWaiting, waiting] using saved
      onEntry := fun _ _ => on }

/-! ### The owners of the commands -/

theorem pauseFrom_pbe (saved : SavedState) (s : State) :
    (pauseFrom saved s).pbe = { s.pbe with state := .paused, saved := some saved } := by
  simp [pauseFrom]

theorem pauseFrom_prm (saved : SavedState) (s : State) :
    (pauseFrom saved s).prm = { s.prm with pauseSweep := some s.now } := by
  simp [pauseFrom, practicePause, State.now]

theorem pauseFrom_playbackKept (kept : PlaybackKept places s) (playing : s.pbe.state ≠ .stopped) (saved : SavedState) :
    PlaybackKept places (pauseFrom saved s) := by
  refine kept.of_pbe (by simp [pauseFrom]) (fun within => ?_) (by rw [pauseFrom_prm])
  rw [pauseFrom_pbe]
  exact { within with
    error := fun flag => absurd flag (by simp [within.error_false playing])
    saved := fun _ => by simp
    onEntry := fun asked _ => within.onEntry asked playing }

theorem practiceResume_groupKeys (s : State) : (practiceResume s).prm.groupKeys = s.prm.groupKeys := by
  unfold practiceResume
  split <;> rfl

theorem resumeSteps_playbackKept (kept : PlaybackKept places s) (paused : s.pbe.state = .paused) :
    PlaybackKept places (resumeSteps s) := by
  refine kept.of_pbe (by simp [resumeSteps]) (fun within => ?_) (by simp [resumeSteps, practiceResume_groupKeys])
  have moving : s.pbe.state ≠ .stopped := by simp [paused]
  have going : resumedState s.pbe.saved ≠ .paused := by unfold resumedState; split <;> simp
  simp only [resumeSteps, playReport_frame, practiceResume_frame, State.modPbe_pbe]
  exact { within with
    error := fun flag => absurd flag (by simp [within.error_false moving])
    saved := fun _ => by simp [going]
    onEntry := fun asked _ => within.onEntry asked moving }

/-- R156: RESET PRACTICE leaves PBE's reset items. -/
theorem resetPractice_playbackKept (kept : PlaybackKept places s) : PlaybackKept places (ownResetPractice s).st := by
  have pbe : (ownResetPractice s).st.pbe = State.reset.pbe := rfl
  have groups : (ownResetPractice s).st.prm.groupKeys = s.prm.groupKeys := by
    simp [ownResetPractice, answerOk, resetMonitor, resetPlayback, stopSteps_prm]
  obtain ⟨-, within, -⟩ := (playbackKept_iff places State.reset).1 ⟨reset_keepsPlayback, fun _ => reset_keepsPlaces⟩
  refine kept.of_pbe (by simp [ownResetPractice, answerOk, resetMonitor, resetPlayback]) (fun _ => ?_) groups
  rw [pbe]
  exact within.of_stopped rfl _

theorem actingOwner_playbackKept {own : State → Answer} (acting : ActingOwner own) :
    OwnerKeeps (PlaybackKept places) own := by
  have of_same {own : State → Answer}
      (same : ∀ s, (own s).st.par = s.par ∧ (own s).st.pbe = s.pbe ∧ (own s).st.prm = s.prm) :
      OwnerKeeps (PlaybackKept places) own := fun s kept =>
    kept.reads (same s).1 (same s).2.1 (by rw [(same s).2.2])
  cases acting with
  | resetPractice => exact fun _ => resetPractice_playbackKept
  | calWrite records =>
    intro s kept
    unfold ownCalWrite
    (repeat' split)
    · exact kept
    · exact kept
    · refine takeRecords_keeps (fun a w before => ?_) _ kept
      unfold takeCal
      (repeat' split)
      · exact before
      · exact before.reads (by simp [WriteResult.taken]) (by simp [WriteResult.taken]) (by simp [WriteResult.taken])
      · exact before
  | pcalWrite records =>
    intro s kept
    unfold ownPcalWrite
    (repeat' split)
    · exact kept
    · exact kept
    · refine takeRecords_keeps (fun a w before => ?_) _ kept
      have same : (takePcal a w).st.par = w.st.par ∧ (takePcal a w).st.pbe = w.st.pbe ∧
          (takePcal a w).st.prm = w.st.prm := by
        unfold takePcal
        dsimp only
        (repeat' split) <;>
          simp [WriteResult.taken, WriteResult.refuse, WriteResult.refuseBusy, placePedalCal, placeRailCal]
      obtain ⟨par, pbe, prm⟩ := same
      exact before.reads par pbe (by rw [prm])
  | curveWrite curve first points =>
    refine of_same fun s => ?_
    unfold ownCurveWrite
    dsimp only
    (repeat' split) <;> exact ⟨rfl, rfl, rfl⟩
  | paramWrite entries =>
    intro s kept
    unfold ownParamWrite
    (repeat' split)
    · exact kept
    · exact kept
    · exact takeRecords_keeps takeParam_playbackKept _ kept
  | rail target =>
    refine of_same fun s => ?_
    unfold ownRail
    (repeat' split) <;> simp [answerOk, answerRefused]
  | scoreWrite start entries =>
    refine of_same fun s => ?_
    unfold ownScoreWrite
    (repeat' split) <;> simp [answerOk, answerRefused]
  | play source mark =>
    intro s kept
    unfold ownPlay
    split
    · exact kept
    · split
      · exact kept
      · next idle =>
        (repeat' split)
        · exact kept
        · exact kept
        · exact playFrom_playbackKept kept (by simpa using idle) _ _
  | stop =>
    intro s kept
    unfold ownStop
    split
    · exact kept
    · exact stopSteps_playbackKept _ kept
  | pause =>
    intro s kept
    unfold ownPause
    split
    · exact kept
    · exact kept
    · next running => exact pauseFrom_playbackKept kept (by simp [running]) _
    · next waiting => exact pauseFrom_playbackKept kept (by simp [waiting]) _
  | resume =>
    intro s kept
    unfold ownResume
    split
    · exact kept
    · exact kept
    · exact kept
    · next paused => exact resumeSteps_playbackKept kept paused
  | locate mark =>
    intro s kept
    unfold ownLocate
    split
    · exact kept
    · next playing =>
      split
      · exact kept
      · exact locateAt_playbackKept kept playing _
  | arm mode =>
    refine of_same fun s => ?_
    unfold ownArm armRecorder
    (repeat' split) <;> simp [armAnswer, answerOk, answerRefused]
  | stopCapture =>
    refine of_same fun s => ?_
    unfold ownStopCapture answerOk
    dsimp only
    split <;> simp
  | captureClear =>
    refine of_same fun s => ?_
    unfold ownCaptureClear
    split <;> simp [answerOk, answerRefused]
  | clearFlags =>
    exact fun s kept => kept.of_pbe rfl (fun within => { within with error := fun flag => (nomatch flag) }) rfl

end

/-! ### Every step -/

/-- R34: a fault notice at KTR reaches neither PBE nor PRM. -/
theorem keyFault_playback (k : Key) (s : State) : (keyFault k s).pbe = s.pbe ∧ (keyFault k s).prm = s.prm := by
  unfold keyFault
  dsimp only
  split <;> simp [deliverRelease]

theorem blockProperty_playback (places : Prop) : BlockProperty (PlaybackKept places) where
  reads := fun ⟨par, _, _, _, _, pbe, prm, _⟩ kept => kept.reads par pbe (by rw [prm])
  powerOn := ⟨reset_keepsPlayback, fun _ => reset_keepsPlaces⟩
  owner := actingOwner_playbackKept
  sample c pos _ := deliverSample_playbackKept c pos
  fault c s kept := by
    cases c with
    | key k =>
      obtain ⟨pbe, prm⟩ := keyFault_playback k s
      exact kept.reads (by simp [deliverFault]) pbe (by rw [deliverFault, prm])
    | pedal p => exact kept.reads (by simp [deliverFault]) (by simp [deliverFault]) (by simp [deliverFault])
    | rail => exact kept.reads (by simp [deliverFault]) (by simp [deliverFault]) (by simp [deliverFault])
  recovery c pos s kept := by
    cases c <;> exact kept.reads (by simp [deliverRecovery]) (by simp [deliverRecovery]) (by simp [deliverRecovery])
  gate k _ kept := kept.reads (by simp) (by simp) (by simp)
  strikeAge kept := kept.reads (by simp) (by simp) (by simp)
  railWait kept := kept.reads (by simp) (by simp) (by simp)
  railMove kept := kept.reads (by simp) (by simp) (by simp)
  playback := playbackSweep_playbackKept
  recorder kept := kept.reads (by simp) (by simp) (by simp)
  practice := practiceSweep_playbackKept

/-- Settles O53: a stop, a wait release, an entry of a run, the pulse clock, a place and a PARAM entry are all that
reach these items, and each keeps them in their ranges. The first part does not ask for the places, the second does. -/
theorem stepKeepsPlayback : Obligations.StepKeepsPlayback :=
  ⟨fun _ _ kept next => ((blockProperty_playback False).step_keeps ⟨kept, False.elim⟩ next).1,
    fun _ _ kept placed next => ((blockProperty_playback True).step_keeps ⟨kept, fun _ => placed⟩ next).2 trivial⟩

end Sys2Proof.Machine

namespace Sys2Proof.Machine

/-! ## PLAY, STOP, PAUSE, RESUME and LOCATE (R149 to R154) -/

/-! ### The checks of PLAY (R150) -/

theorem placeOf_eq_none {s : State} {source : Source} {w : TakeWindow} {mark : Nat}
    (missing : ∀ place, ¬ Placed s source w mark place) : placeOf s source w mark = none :=
  Option.eq_none_iff_forall_ne_some.2 fun place found => missing place ((placeOf_iff ..).1 found)

section
variable {s : State} {code mark : Byte} {source : Source}

theorem ownPlay_badSource (out : 1 < code.toNat) : ownPlay code mark s = answerRefused .badIndex s := by
  have unnamed : sourceOfCode code.toNat = none := by
    obtain ⟨n, more⟩ := Nat.exists_eq_add_of_le' out
    rw [more]
    rfl
  rw [ownPlay, unnamed]

/-- R150: past the checks of the take the place decides. -/
theorem takeUnready_passed (ready : source = .take → s.tkr.state = .idle ∧ s.tkr.count ≠ 0) :
    (source == .take && takeUnready s) = false := by
  cases source with
  | score => rfl
  | take => simp [takeUnready, ready rfl]

section
variable (named : sourceOfCode code.toNat = some source)
include named

theorem ownPlay_busy (playing : s.pbe.state ≠ .stopped) : ownPlay code mark s = answerRefused .busy s := by
  simp [ownPlay, named, playing]

variable (stopped : s.pbe.state = .stopped)
include stopped

theorem ownPlay_unready (take : source = .take) (unready : s.tkr.state ≠ .idle ∨ s.tkr.count = 0) :
    ownPlay code mark s = answerRefused .refusedState s := by
  simp [ownPlay, named, stopped, take, takeUnready, unready]

variable (ready : source = .take → s.tkr.state = .idle ∧ s.tkr.count ≠ 0)
include ready

theorem ownPlay_missing (missing : ∀ place, ¬ Placed s source (presentWindow s) mark.toNat place) :
    ownPlay code mark s = answerRefused .badIndex s := by
  simp [ownPlay, named, stopped, takeUnready_passed ready, placeOf_eq_none missing]

theorem ownPlay_placed {place : Nat} (placed : Placed s source (presentWindow s) mark.toNat place) :
    ownPlay code mark s = answerOk (playFrom source place s) [] := by
  simp [ownPlay, named, stopped, takeUnready_passed ready, (placeOf_iff ..).2 placed]

end
end

/-- Settles O23, check by check. -/
theorem playChecks : Obligations.PlayChecks := by
  refine fun source mark s takes => ⟨fun out => command_takes takes (ownPlay_badSource out), fun named playing => ?busy,
    ?unready, ?score, ?take⟩
  case busy =>
    obtain ⟨src, code⟩ : ∃ src, sourceOfCode source.toNat = some src := by
      interval_cases source.toNat
      · exact ⟨.score, rfl⟩
      · exact ⟨.take, rfl⟩
    exact command_takes takes (ownPlay_busy code playing)
  case unready =>
    rintro rfl stopped unready
    exact command_takes takes (ownPlay_unready rfl stopped rfl unready)
  case score =>
    rintro rfl stopped missing
    exact command_takes takes (ownPlay_missing (source := .score) rfl stopped (fun take => nomatch take) missing)
  case take =>
    rintro rfl stopped idle filled missing
    exact command_takes takes (ownPlay_missing (source := .take) rfl stopped (fun _ => ⟨idle, filled⟩) missing)

/-! ### The start of PLAY (R148, R150, R179) -/

/-- R155: outside PAUSED a PLAY report carries no saved state. -/
theorem playReport_unsaved {s : State} (moving : s.pbe.state ≠ .paused) (cause : PlayCause) :
    playReport cause s = handReport (.play s.pbe.state none s.pbe.source s.pbe.cursor cause none s.now) s := by
  rw [playReport, if_neg moving]

theorem tellRecorder_score {s : State} (score : s.pbe.source = .score) :
    tellRecorder s = playbackPlaced s.pbe.cursor s := by
  rw [tellRecorder, score]

theorem tellRecorder_take {s : State} (take : s.pbe.source = .take) : tellRecorder s = s := by
  rw [tellRecorder, take]

/-- R150: PBE's items after a start: those of every start, the place, its countdown and the window. -/
def Pbe.started (source : Source) (place delta : Nat) (window : Option TakeWindow) (b : Pbe) : Pbe :=
  { playItems source b with state := .running, cursor := place, countdown := delta + 1, window := window }

/-- R150: the state after a start, its report not yet handed out. -/
def startedAt (source : Source) (place delta : Nat) (window : Option TakeWindow) (s : State) : State :=
  { s with
    pbe := s.pbe.started source place delta window
    prm := { s.prm with expected := [], recent := [], hits := 0, misses := 0, wrongs := 0 } }

theorem takeAt_window {w : TakeWindow} {s : State} (window : s.pbe.window = some w) (offset : Nat) :
    takeAt s offset = windowEntry s w.oldest offset := by
  rw [takeAt, windowOf_eq window, windowEntry_eq]

theorem playFrom_score (place : Nat) (s : State) : playFrom .score place s =
    afterPlacing (playbackPlaced place (handReport (.play .running none .score place .started none s.now)
      (startedAt .score place (scoreAt s place).delta s.pbe.window s))) := by
  unfold playFrom
  dsimp only
  rw [placeCursor_score (by rfl), playReport_unsaved (by simp),
    tellRecorder_score (by simp [playItems, practicePlay, fixWindow])]
  simp only [handReport_frame]
  rfl

theorem playFrom_take (place : Nat) (s : State) : playFrom .take place s =
    afterPlacing (handReport (.play .running none .take place .started none s.now)
      (startedAt .take place (windowEntry s s.tkr.oldest place).delta (some (presentWindow s)) s)) := by
  unfold playFrom
  dsimp only
  rw [placeCursor_take (by rfl), takeAt_window (w := presentWindow s) (by rfl), playReport_unsaved (by simp),
    tellRecorder_take (by simp [playItems, practicePlay, fixWindow])]
  rfl

theorem onEntry_started_score {place delta : Nat} {window : Option TakeWindow} {s t : State} (par : t.par = s.par)
    (pbe : t.pbe = s.pbe.started .score place delta window) : t.pbe.OnEntry (regionSize t) ↔ place < scoreSize s := by
  rw [onEntry_score (by rw [pbe]; rfl), pbe, regionSize, par]
  rfl

theorem onEntry_started_take {place delta : Nat} {w : TakeWindow} {b : Pbe} {t : State}
    (pbe : t.pbe = b.started .take place delta (some w)) : t.pbe.OnEntry (regionSize t) ↔ place < w.count := by
  rw [onEntry_take (by rw [pbe]; rfl), windowOf_eq (by rw [pbe]; rfl), pbe]
  rfl

/-- R138, R149: a start at the end of the material leaves PBE STOPPED there. -/
theorem afterPlacing_started {source : Source} {place delta : Nat} {window : Option TakeWindow} {s t : State}
    (pbe : t.pbe = s.pbe.started source place delta window) (off : ¬ t.pbe.OnEntry (regionSize t)) :
    (afterPlacing t).pbe.state = .stopped ∧ (afterPlacing t).pbe.cursor = place ∧
      (afterPlacing t).pbe.source = source := by
  rw [(afterPlacing_off off).1, pbe]
  exact ⟨rfl, rfl, rfl⟩

/-- Settles O24: a place that passes the checks starts PBE, and one at the end of the material stops it there. -/
theorem playStarts : Obligations.PlayStarts := by
  refine ⟨fun mark place s takes stopped placed => ?score, fun mark place s takes stopped idle filled placed => ?take⟩
  case score =>
    have plays : exec (.play 0 mark) s = .next (linkChoose (replied 0x22 .ok [] (playFrom .score place s))) :=
      command_takes takes (ownPlay_placed (code := 0) (source := .score) rfl stopped (fun take => nomatch take) placed)
    rw [plays, playFrom_score]
    generalize placedAt : playbackPlaced place _ = t
    have pbe : t.pbe = s.pbe.started .score place (scoreAt s place).delta s.pbe.window := by
      rw [← placedAt]
      simp [startedAt]
    have onEntry := onEntry_started_score (s := s) (t := t) (by rw [← placedAt]; simp [startedAt]) pbe
    refine ⟨fun inside => ?_, fun outside => ⟨_, rfl, afterPlacing_started pbe ?_⟩⟩
    · rw [afterPlacing_on (onEntry.2 inside), ← placedAt]
      rfl
    · exact mt onEntry.1 (not_lt.2 outside)
  case take =>
    have plays : exec (.play 1 mark) s = .next (linkChoose (replied 0x22 .ok [] (playFrom .take place s))) :=
      command_takes takes (ownPlay_placed (code := 1) (source := .take) rfl stopped (fun _ => ⟨idle, filled⟩) placed)
    rw [plays, playFrom_take]
    generalize placedAt : handReport _ _ = t
    have pbe : t.pbe = s.pbe.started .take place (windowEntry s s.tkr.oldest place).delta (some (presentWindow s)) := by
      rw [← placedAt]
      simp [startedAt]
    have onEntry := onEntry_started_take pbe
    refine ⟨fun inside => ?_, fun outside => ⟨_, rfl, afterPlacing_started pbe ?_⟩⟩
    · rw [afterPlacing_on (onEntry.2 inside), ← placedAt]
      rfl
    · exact mt onEntry.1 (not_lt.2 outside)

end Sys2Proof.Machine

namespace Sys2Proof.Machine

/-! ### What a stop and a pause clear (R71, R134, R152) -/

/-- The two holders of every key are the same. -/
def SameHolders (s t : State) : Prop :=
  ∀ k, (t.sound k).playerHolder = (s.sound k).playerHolder ∧ (t.sound k).playbackHolder = (s.sound k).playbackHolder

namespace SameHolders

variable {s t u : State}

theorem refl (s : State) : SameHolders s s := fun _ => ⟨rfl, rfl⟩

theorem trans (first : SameHolders s t) (second : SameHolders t u) : SameHolders s u := fun k =>
  ⟨(second k).1.trans (first k).1, (second k).2.trans (first k).2⟩

theorem of_table (s t : State) (table : t.vdp.table = s.vdp.table) : SameHolders s t := fun k => by
  simp only [State.sound, table, and_self]

theorem setSound (k : Key) (r : SoundRecord) (s : State) (player : r.playerHolder = (s.sound k).playerHolder)
    (playback : r.playbackHolder = (s.sound k).playbackHolder) : SameHolders s (setSound k r s) := fun j => by
  by_cases same : j = k
  · rw [same, sound_setSound_self]
    exact ⟨player, playback⟩
  · rw [sound_setSound_ne same]
    exact ⟨rfl, rfl⟩

theorem modVdp (f : Vdp → Vdp) (s : State) (table : (f s.vdp).table = s.vdp.table) : SameHolders s (s.modVdp f) :=
  of_table s (s.modVdp f) table

theorem refillOffPending (ks : List Key) (s : State) : SameHolders s (refillOffPending ks s) := by
  induction ks generalizing s with
  | nil => exact refl s
  | cons k ks ih =>
    unfold Machine.refillOffPending
    dsimp only
    (repeat' split)
    · exact ih s
    · exact trans (setSound k _ s (by rfl) (by rfl)) (modVdp _ _ (by rfl))
    · exact trans (setSound k _ s (by rfl) (by rfl)) (ih _)

theorem refill (s : State) : SameHolders s (refill s) := by
  unfold Machine.refill
  dsimp only
  split
  · exact trans (refillOffPending allKeys s) fun k => by simp
  · exact refillOffPending _ s

theorem voiceChoose (s : State) : SameHolders s (voiceChoose s) := by
  unfold Machine.voiceChoose
  (repeat' split)
  · exact refl s
  · exact modVdp _ s (by rfl)
  · exact refl s
  · exact refl s
  · exact trans (modVdp _ s (by rfl)) (refill _)

theorem voiceEnqueue (f : VoiceFrame) (s : State) : SameHolders s (voiceEnqueue f s) :=
  trans (modVdp _ s (by rfl)) (voiceChoose _)

theorem releaseEval (k : Key) (s : State) : SameHolders s (releaseEval k s) := by
  unfold Machine.releaseEval
  dsimp only
  (repeat' split)
  · exact refl s
  · exact trans (setSound k _ s (by rfl) (by rfl)) (voiceEnqueue _ _)
  · exact setSound k _ s (by rfl) (by rfl)
  · exact refl s

theorem releaseEvals (ks : List Key) (s : State) : SameHolders s (releaseEvals ks s) :=
  foldl_invariant (SameHolders s) _ (fun t k same => trans same (releaseEval k t)) ks s (refl s)

theorem voicePedal (p : Pedal) (level : Nat) (s : State) : SameHolders s (voicePedal p level s) := by
  unfold Machine.voicePedal
  (repeat' split)
  · exact modVdp _ s (by rfl)
  · exact voiceEnqueue _ s
  · exact modVdp _ s (by rfl)

theorem testPedal (p : Pedal) (s : State) : SameHolders s (testPedal p s) := by
  unfold Machine.testPedal testHold testLatch voiceHoldOff
  dsimp only
  (repeat' split)
  · exact refl s
  · exact of_table _ _ (by rfl)
  · exact refl s
  · exact trans (of_table s _ (by rfl)) (releaseEvals _ _)
  · exact refl s
  · exact of_table _ _ (by rfl)
  · exact trans (of_table s _ (by rfl)) (releaseEvals _ _)
  · exact refl s

theorem playbackLevel (p : Pedal) (level : Nat) (s : State) : SameHolders s (playbackLevel p level s) := by
  unfold Machine.playbackLevel recomputeEffective
  dsimp only
  split
  · exact of_table _ _ (by rfl)
  · exact trans (of_table s _ (by simp)) (trans (voicePedal _ _ _) (testPedal _ _))

theorem clearPlaybackLevels (s : State) : SameHolders s (clearPlaybackLevels s) :=
  trans (playbackLevel .soft 0 s) (trans (playbackLevel .sost 0 _) (playbackLevel .damp 0 _))

end SameHolders

/-- R71: a stop and a pause clear the playback holders and leave the player holders. -/
theorem clearPlayback_holders (s : State) (k : Key) :
    ((clearPlaybackLevels (clearPlayback s)).sound k).playerHolder = (s.sound k).playerHolder ∧
      ((clearPlaybackLevels (clearPlayback s)).sound k).playbackHolder = false := by
  have kept : SameHolders
      (s.modVdp fun v => { v with table := v.table.map fun r => { r with playbackHolder := false } })
      (clearPlaybackLevels (clearPlayback s)) :=
    .trans (.releaseEvals (playbackHeldKeys s) _) (.clearPlaybackLevels _)
  simpa [State.sound] using kept k

/-- R54: a playback level written stands in its pedal's record, and no other pedal's changes. -/
theorem playbackLevel_playback (p q : Pedal) (level : Nat) (s : State) :
    ((playbackLevel p level s).pedalRec q).playback = if q = p then level else (s.pedalRec q).playback := by
  unfold playbackLevel
  split
  · next same => rw [same, recomputeEffective_pedalRec, pedalRec_setPedalRec_self]
  · next other => rw [recomputeEffective_pedalRec_ne other, pedalRec_setPedalRec_ne other]

theorem clearPlaybackLevels_playback (s : State) (p : Pedal) : ((clearPlaybackLevels s).pedalRec p).playback = 0 := by
  cases p <;> simp [clearPlaybackLevels, playbackLevel_playback]

theorem stopSteps_vdp (cause : PlayCause) (s : State) :
    (stopSteps cause s).vdp = (clearPlaybackLevels (clearPlayback (s.modPbe fun b =>
      { b with state := .stopped, saved := none, stack := [], countdown := 0 }))).vdp ∧
    (stopSteps cause s).ptr = (clearPlaybackLevels (clearPlayback (s.modPbe fun b =>
      { b with state := .stopped, saved := none, stack := [], countdown := 0 }))).ptr := by
  unfold stopSteps
  dsimp only
  split <;> simp

@[simp] theorem stopSteps_replies (cause : PlayCause) (s : State) :
    (stopSteps cause s).lnk.replies = s.lnk.replies := by
  unfold stopSteps playReport
  dsimp only
  split <;> simp

/-- Settles O25, item by item of the stop steps. -/
theorem stopMakesTheStopSteps : Obligations.StopMakesTheStopSteps := by
  refine fun s takes => ⟨fun stopped => command_takes takes (a := answerOk s []) (if_pos stopped),
    fun playing => ⟨stopSteps .command s,
      command_takes takes (a := answerOk (stopSteps .command s) []) (if_neg playing),
      stopSteps_pbe .command s, stopSteps_prm .command s, fun k => ?_, fun p => ?_, fun k => ?_,
      stopSteps_replies .command s, ?_⟩⟩
  · rw [State.sound, (stopSteps_vdp .command s).1]
    exact (clearPlayback_holders _ k).2
  · rw [State.pedalRec, (stopSteps_vdp .command s).2]
    exact clearPlaybackLevels_playback _ p
  · rw [State.sound, (stopSteps_vdp .command s).1]
    exact (clearPlayback_holders _ k).1
  · simp

/-! ### PAUSE and RESUME (R152, R153, R168) -/

@[simp] theorem playReport_replies (cause : PlayCause) (s : State) : (playReport cause s).lnk.replies = s.lnk.replies :=
  handReport_replies _ s

/-- R152: what a pause leaves, beside PBE's and PRM's items. -/
theorem pauseFrom_items (saved : SavedState) (s : State) :
    (∀ k, ((pauseFrom saved s).sound k).playbackHolder = false) ∧
    (∀ p, ((pauseFrom saved s).pedalRec p).playback = 0) ∧
    (pauseFrom saved s).lnk.replies = s.lnk.replies ∧ (pauseFrom saved s).par = s.par ∧
    (pauseFrom saved s).scn = s.scn ∧ (pauseFrom saved s).ktr = s.ktr ∧ (pauseFrom saved s).rlc = s.rlc ∧
    (pauseFrom saved s).hpm = s.hpm ∧ (pauseFrom saved s).mem = s.mem ∧ (pauseFrom saved s).tkr = s.tkr := by
  refine ⟨fun k => ?_, fun p => ?_, by simp [pauseFrom], by simp [pauseFrom], by simp [pauseFrom], by simp [pauseFrom],
    by simp [pauseFrom], by simp [pauseFrom], by simp [pauseFrom], by simp [pauseFrom]⟩
  · simp only [State.sound, pauseFrom, playReport_frame, practicePause_frame]
    exact (clearPlayback_holders _ k).2
  · simp only [State.pedalRec, pauseFrom, playReport_frame, practicePause_frame]
    exact clearPlaybackLevels_playback _ p

theorem ownPause_playing {saved : SavedState} {s : State}
    (playing : s.pbe.state = .running ∧ saved = .running ∨ s.pbe.state = .waiting ∧ saved = .waiting) :
    ownPause s = answerOk (pauseFrom saved s) [] := by
  rcases playing with ⟨state, rfl⟩ | ⟨state, rfl⟩ <;> simp only [ownPause, state]

/-- R153, R168: a RESUME from PAUSED: the state returns to, and PRM's sweeps are advanced by the length of the pause. -/
theorem resumeSteps_eq {back : PlayState} {since : Sweep} {s : State} (paused : s.prm.pauseSweep = some since)
    (returns : s.pbe.saved = some .running ∧ back = .running ∨ s.pbe.saved = some .waiting ∧ back = .waiting) :
    resumeSteps s = handReport (.play back none s.pbe.source s.pbe.cursor .resumed none s.now)
      { s with pbe := { s.pbe with state := back, saved := none }, prm := advancePractice (s.now - since) s.prm } := by
  have resumed : resumedState s.pbe.saved = back ∧ back ≠ .paused := by
    rcases returns with ⟨saved, rfl⟩ | ⟨saved, rfl⟩ <;> simp [saved, resumedState]
  obtain ⟨state, moving⟩ := resumed
  unfold resumeSteps practiceResume
  dsimp only
  rw [State.modPbe_prm, paused]
  dsimp only
  rw [playReport_unsaved (by rw [State.modPrm_pbe, State.modPbe_pbe, state]; exact moving)]
  simp only [State.modPbe, State.modPrm, state]
  rfl

theorem ownResume_paused {s : State} (paused : s.pbe.state = .paused) : ownResume s = answerOk (resumeSteps s) [] := by
  simp only [ownResume, paused]

/-- Settles O26: each answer by the state it finds. -/
theorem pauseAndResume : Obligations.PauseAndResume := by
  refine ⟨fun s takes => ⟨fun stopped => ?pauseStopped, fun paused => ?pausePaused, fun saved playing => ?pause⟩,
    fun s takes => ⟨fun stopped => ?resumeStopped, fun playing => ?resumePlaying,
      fun back since paused suspended returns => ?resume⟩⟩
  case pauseStopped =>
    exact command_takes takes (a := answerRefused .refusedState s) (by simp only [ownPause, stopped])
  case pausePaused => exact command_takes takes (a := answerOk s []) (by simp only [ownPause, paused])
  case pause =>
    exact ⟨_, command_takes takes (ownPause_playing playing), pauseFrom_pbe saved s, pauseFrom_prm saved s,
      pauseFrom_items saved s⟩
  case resumeStopped =>
    exact command_takes takes (a := answerRefused .refusedState s) (by simp only [ownResume, stopped])
  case resumePlaying =>
    rcases playing with running | waiting
    · exact command_takes takes (a := answerOk s []) (by simp only [ownResume, running])
    · exact command_takes takes (a := answerOk s []) (by simp only [ownResume, waiting])
  case resume =>
    have resumes := command_takes (kind := 0x25) takes (ownResume_paused paused)
    rw [resumeSteps_eq suspended returns] at resumes
    exact resumes

/-! ### LOCATE (R149, R154) -/

/-- R154: PBE's items after a LOCATE. -/
def Pbe.located (place delta : Nat) (b : Pbe) : Pbe :=
  { leaveWaiting b with stack := [], cursor := place, countdown := delta + 1, beatPulse := 0, barPosition := 0 }

/-- R154: the state after the steps of a LOCATE, the place not yet tested. -/
def locatedAt (place delta : Nat) (s : State) : State :=
  tellRecorder (playReport .located
    { s with pbe := s.pbe.located place delta, prm := { s.prm with expected := [], waitTimer := none } })

theorem locateAt_score {s : State} (score : s.pbe.source = .score) (place : Nat) :
    locateAt place s = afterPlacing (locatedAt place (scoreAt s place).delta s) := by
  unfold locateAt
  dsimp only
  rw [placeCursor_score (by exact score)]
  rfl

theorem locateAt_take {w : TakeWindow} {s : State} (take : s.pbe.source = .take) (window : s.pbe.window = some w)
    (place : Nat) : locateAt place s = afterPlacing (locatedAt place (windowEntry s w.oldest place).delta s) := by
  unfold locateAt
  dsimp only
  rw [placeCursor_take (by exact take), takeAt_window (w := w) (by exact window)]
  rfl

section
variable (place delta : Nat) (s : State)

theorem locatedAt_pbe : (locatedAt place delta s).pbe = s.pbe.located place delta := by simp [locatedAt]

theorem locatedAt_prm : (locatedAt place delta s).prm = { s.prm with expected := [], waitTimer := none } := by
  simp [locatedAt]

end

end Sys2Proof.Machine

namespace Sys2Proof.Machine

/-! ### LOCATE, its answers (R149, R154) -/

@[simp] theorem playbackPlaced_replies (index : Nat) (s : State) :
    (playbackPlaced index s).lnk.replies = s.lnk.replies := by
  have captureFull (t : State) : (captureFull t).lnk.replies = t.lnk.replies := by simp [captureFull]
  have appendTake (e : Entry) (t : State) : (appendTake e t).lnk.replies = t.lnk.replies := by
    unfold appendTake
    dsimp only
    (repeat' split) <;> simp [captureFull, writeTake]
  unfold playbackPlaced appendSync appendTimed
  dsimp only
  (repeat' split) <;> simp [appendTake]

@[simp] theorem tellRecorder_replies (s : State) : (tellRecorder s).lnk.replies = s.lnk.replies := by
  unfold tellRecorder
  split <;> simp

@[simp] theorem afterPlacing_replies (s : State) : (afterPlacing s).lnk.replies = s.lnk.replies := by
  unfold afterPlacing scoreFault
  (repeat' split) <;> simp

section
variable {mark : Byte} {s : State}

theorem ownLocate_stopped (stopped : s.pbe.state = .stopped) : ownLocate mark s = answerRefused .refusedState s :=
  if_pos stopped

theorem ownLocate_missing (playing : s.pbe.state ≠ .stopped)
    (missing : ∀ place, ¬ Placed s s.pbe.source (windowOf s) mark.toNat place) :
    ownLocate mark s = answerRefused .badIndex s := by
  rw [ownLocate, if_neg playing, placeOf_eq_none missing]

theorem ownLocate_placed (playing : s.pbe.state ≠ .stopped) {place : Nat}
    (placed : Placed s s.pbe.source (windowOf s) mark.toNat place) :
    ownLocate mark s = answerOk (locateAt place s) [] := by
  rw [ownLocate, if_neg playing, (placeOf_iff ..).2 placed]

end

/-- R149: a place in the score does not depend on the take. -/
theorem placed_window {s : State} {w : TakeWindow}
    (source : s.pbe.source = .score ∧ w = ⟨0, 0⟩ ∨ s.pbe.source = .take ∧ s.pbe.window = some w) (mark place : Nat) :
    Placed s s.pbe.source (windowOf s) mark place ↔ Placed s s.pbe.source w mark place := by
  rcases source with ⟨score, -⟩ | ⟨-, window⟩
  · rw [score]
    rfl
  · rw [windowOf_eq window]

/-- R154: what the steps of a LOCATE leave beside PBE's and PRM's items. -/
theorem locatedAt_rest (place delta : Nat) (s : State) :
    (locatedAt place delta s).lnk.replies = s.lnk.replies ∧ (locatedAt place delta s).par = s.par ∧
    (locatedAt place delta s).scn = s.scn ∧ (locatedAt place delta s).ktr = s.ktr ∧
    (locatedAt place delta s).rlc = s.rlc ∧ (locatedAt place delta s).hpm = s.hpm ∧
    (locatedAt place delta s).vdp = s.vdp ∧ (locatedAt place delta s).ptr = s.ptr := by
  simp [locatedAt]

/-- R138, R149: a place at the end of the material stops PBE, which keeps what a placed cursor has. -/
theorem afterPlacing_items (s : State) :
    (afterPlacing s).pbe.source = s.pbe.source ∧ (afterPlacing s).pbe.cursor = s.pbe.cursor ∧
    ((afterPlacing s).pbe.stack = s.pbe.stack ∨ (afterPlacing s).pbe.stack = []) ∧
    (afterPlacing s).pbe.acc = s.pbe.acc ∧ (afterPlacing s).pbe.tempo = s.pbe.tempo ∧
    (afterPlacing s).pbe.beatPulse = s.pbe.beatPulse ∧ (afterPlacing s).pbe.barPosition = s.pbe.barPosition ∧
    ((afterPlacing s).prm.expected = s.prm.expected ∨ (afterPlacing s).prm.expected = []) ∧
    ((afterPlacing s).prm.waitTimer = s.prm.waitTimer ∨ (afterPlacing s).prm.waitTimer = none) ∧
    (afterPlacing s).prm.recent = s.prm.recent := by
  by_cases on : s.pbe.OnEntry (regionSize s)
  · simp [afterPlacing_on on]
  · obtain ⟨pbe, prm⟩ := afterPlacing_off on
    simp [pbe, prm, Pbe.halted]

/-- R154: what a LOCATE leaves of every state, on an entry or not. -/
theorem afterPlacing_locatedAt (place delta : Nat) (s : State) :
    let t := afterPlacing (locatedAt place delta s)
    t.pbe.source = s.pbe.source ∧ t.pbe.cursor = place ∧ t.pbe.stack = [] ∧ t.pbe.acc = s.pbe.acc ∧
      t.pbe.tempo = s.pbe.tempo ∧ t.pbe.beatPulse = 0 ∧ t.pbe.barPosition = 0 ∧ t.prm.expected = [] ∧
      t.prm.waitTimer = none ∧ t.prm.recent = s.prm.recent ∧ t.lnk.replies = s.lnk.replies ∧ t.par = s.par ∧
      t.scn = s.scn ∧ t.ktr = s.ktr ∧ t.rlc = s.rlc ∧ t.hpm = s.hpm := by
  have items := afterPlacing_items (locatedAt place delta s)
  rw [locatedAt_pbe, locatedAt_prm] at items
  obtain ⟨replies, par, scn, ktr, rlc, hpm, -, -⟩ := locatedAt_rest place delta s
  simpa [Pbe.located, leaveWaiting, replies, par, scn, ktr, rlc, hpm] using items

theorem onEntry_locatedAt_score (place delta : Nat) {s : State} (score : s.pbe.source = .score) :
    (locatedAt place delta s).pbe.OnEntry (regionSize (locatedAt place delta s)) ↔ place < scoreSize s := by
  have pbe := locatedAt_pbe place delta s
  obtain ⟨-, par, -⟩ := locatedAt_rest place delta s
  rw [onEntry_score (by rw [pbe]; exact score), pbe, regionSize, par]
  rfl

theorem onEntry_locatedAt_take (place delta : Nat) {w : TakeWindow} {s : State} (take : s.pbe.source = .take)
    (window : s.pbe.window = some w) :
    (locatedAt place delta s).pbe.OnEntry (regionSize (locatedAt place delta s)) ↔ place < w.count := by
  have pbe := locatedAt_pbe place delta s
  rw [onEntry_take (by rw [pbe]; exact take), windowOf_eq (by rw [pbe]; exact window), pbe]
  rfl

/-- R154: on an entry a LOCATE leaves the wait, in RUNNING, and hands nothing to VDP or PTR; at the end of the material
it stops PBE. -/
theorem afterPlacing_locatedAt_ends {place delta count : Nat} {s : State}
    (onEntry : (locatedAt place delta s).pbe.OnEntry (regionSize (locatedAt place delta s)) ↔ place < count) :
    let t := afterPlacing (locatedAt place delta s)
    (place < count →
      t.pbe.countdown = delta + 1 ∧ t.vdp.table = s.vdp.table ∧ t.ptr = s.ptr ∧
      t.pbe.state = (if s.pbe.state = .waiting then .running else s.pbe.state) ∧
      t.pbe.saved = s.pbe.saved.map fun _ => .running) ∧
    (count ≤ place → t.pbe.state = .stopped) := by
  refine ⟨fun inside => ?_, fun outside => ?_⟩
  · obtain ⟨-, -, -, -, -, -, vdp, ptr⟩ := locatedAt_rest place delta s
    simp only [afterPlacing_on (onEntry.2 inside), locatedAt_pbe, vdp, ptr]
    exact ⟨rfl, trivial, trivial, rfl, rfl⟩
  · rw [(afterPlacing_off (mt onEntry.1 (not_lt.2 outside))).1]
    rfl

/-- Settles O27: the answers in their order, then the place of each source. -/
theorem locatePlacesTheCursor : Obligations.LocatePlacesTheCursor := by
  intro mark w s takes source
  refine ⟨fun stopped => ?stopped, fun playing missing => ?missing, fun playing place placed => ?placed⟩
  case stopped => exact command_takes takes (a := answerRefused .refusedState s) (ownLocate_stopped stopped)
  case missing =>
    exact command_takes takes (a := answerRefused .badIndex s)
      (ownLocate_missing playing fun place => mt (placed_window source ..).1 (missing place))
  case placed =>
    have located := command_takes (kind := 0x26) takes (ownLocate_placed playing ((placed_window source ..).2 placed))
    refine ⟨locateAt place s, located, ?_⟩
    rcases source with ⟨score, -⟩ | ⟨take, window⟩
    · rw [locateAt_score score]
      have items := afterPlacing_locatedAt place (scoreAt s place).delta s
      have ends := afterPlacing_locatedAt_ends (onEntry_locatedAt_score place (scoreAt s place).delta score)
      simp only [score, reduceCtorEq, false_and, true_and, or_false, false_implies] at items ⊢
      simpa only [and_assoc] using And.intro items ends
    · rw [locateAt_take take window]
      have items := afterPlacing_locatedAt place (windowEntry s w.oldest place).delta s
      have ends := afterPlacing_locatedAt_ends
        (onEntry_locatedAt_take place (windowEntry s w.oldest place).delta take window)
      simp only [take, reduceCtorEq, false_and, true_and, false_or, false_implies] at items ⊢
      simpa only [and_assoc] using And.intro items ends

end Sys2Proof.Machine

namespace Sys2Proof.Machine

/-! ## The sweep start at PBE (R135, R137, R141) -/

theorem pulseDue_iff (s : State) : pulseDue s = true ↔
    s.pbe.state = .running ∧ s.pbe.source = .score ∧ 500000 ≤ s.pbe.acc + s.pbe.tempo * s.par.tempoScale := by
  simp only [pulseDue, Bool.and_eq_true, beq_iff_eq, decide_eq_true_eq, and_assoc]
  rfl

/-- R137: a unit passes at this sweep event: a sweep of a take, a pulse of a score. -/
theorem runDue_iff (s : State) : runDue s = true ↔
    s.pbe.state = .running ∧ s.pbe.countdown ≤ 1 ∧ (s.pbe.source = .take ∨ pulseDue s = true) := by
  simp only [runDue, Bool.and_eq_true, Bool.or_eq_true, beq_iff_eq, decide_eq_true_eq, and_assoc]

section
variable {s : State} (plain : s.early = [])
include plain

/-- R135: nothing that comes before PBE's sweep event moves the clock. -/
theorem pulseStarts_iff : pulseStarts s = true ↔
    s.pbe.state = .running ∧ s.pbe.source = .score ∧ 500000 ≤ s.pbe.acc + s.pbe.tempo * s.par.tempoScale := by
  obtain ⟨-, par, pbe, -⟩ := beginSweep_keeps s
  rw [pulseStarts, beforePlayback_plain plain, pulseDue_iff, par, pbe]

theorem runStarts_iff : runStarts s = true ↔ s.pbe.state = .running ∧ s.pbe.countdown ≤ 1 ∧
    (s.pbe.source = .take ∨
      s.pbe.state = .running ∧ s.pbe.source = .score ∧ 500000 ≤ s.pbe.acc + s.pbe.tempo * s.par.tempoScale) := by
  obtain ⟨-, par, pbe, -⟩ := beginSweep_keeps s
  rw [runStarts, beforePlayback_plain plain, runDue_iff, pulseDue_iff, par, pbe]

end

theorem exec_pulse {s : State} (runs : s.Runs) :
    exec .pulse s = .next (linkChoose (if pulseStarts s = true then startSweep s else s)) := partEvent_runs runs _

theorem exec_run {s : State} (runs : s.Runs) :
    exec .run s = .next (linkChoose (if runStarts s = true then startSweep s else s)) := partEvent_runs runs _

/-- R147: a wait release leaves the source, the take window and the pulse clock. -/
theorem Pbe.released_sameClock (b : Pbe) : SameClock b b.released := by
  unfold Pbe.released
  split
  · exact ⟨rfl, rfl, rfl, rfl, rfl⟩
  · split <;> exact ⟨rfl, rfl, rfl, rfl, rfl⟩
  · exact ⟨rfl, rfl, rfl, rfl, rfl⟩
  · exact ⟨rfl, rfl, rfl, rfl, rfl⟩

theorem practiceSweep_sameClock (s : State) : SameClock s.pbe (practiceSweep s).pbe := by
  rcases practiceSweep_pbe s with same | released
  · rw [same]
    exact ⟨rfl, rfl, rfl, rfl, rfl⟩
  · rw [released]
    exact s.pbe.released_sameClock

/-- R137: a unit, with a run or without one, leaves the pulse clock. -/
theorem playUnit_sameClock {s : State} (running : s.pbe.state = .running) : SameClock s.pbe (playUnit s).pbe := by
  rcases Nat.lt_or_ge 1 s.pbe.countdown with more | zero
  · rw [playUnit_count more]
    exact ⟨rfl, rfl, rfl, rfl, rfl⟩
  · rw [playUnit_run zero]
    exact (performRun_runSteps (s := countDown s) running).sameClock

theorem SameClock.trans {a b c : Pbe} (first : SameClock a b) (second : SameClock b c) : SameClock a c := by
  obtain ⟨source, window, acc, beat, bar⟩ := first
  obtain ⟨source', window', acc', beat', bar'⟩ := second
  exact ⟨source'.trans source, window'.trans window, acc'.trans acc, beat'.trans beat, bar'.trans bar⟩

/-- R107, R141: the click that a pulse starts. -/
theorem atUnit_hpm (m : Nat) (s : State) : (atUnit m s).hpm =
    if s.par.metroMode = 2 ∧ s.pbe.beatPulse = 0 then
      { s.hpm with click := some ⟨if s.pbe.barPosition = 0 then .a else .b, 0⟩ }
    else s.hpm := by
  by_cases onBeat : s.pbe.beatPulse = 0 <;> by_cases score : s.par.metroMode = 2 <;>
    simp [atUnit, beatTest, beat, onBeat, score]

/-- R135: where no samples come first, TKR's and PRM's sweep events follow PBE's. -/
theorem startSweep_pulse {s : State} (plain : s.early = []) (running : s.pbe.state = .running)
    (score : s.pbe.source = .score) (due : 500000 ≤ s.pbe.acc + s.pbe.tempo * s.par.tempoScale) :
    startSweep s = practiceSweep (recorderSweep (playUnit (atUnit Config.pulseModulus (beginSweep s)))) := by
  obtain ⟨-, par, pbe, -⟩ := beginSweep_keeps s
  rw [startSweep_plain plain, playbackSweep_pulse (by rw [pbe]; exact running) (by rw [pbe]; exact score)
    (by rw [pbe, par]; exact due), performPulse_eq]

theorem atUnit_running {m : Nat} {s : State} (running : s.pbe.state = .running) :
    (atUnit m s).pbe.state = .running := by
  rw [atUnit_pbe]
  exact running

/-- R135, R141: the pulse clock after a sweep start with a pulse. -/
theorem startSweep_clock {s : State} (plain : s.early = []) (running : s.pbe.state = .running)
    (score : s.pbe.source = .score) (due : 500000 ≤ s.pbe.acc + s.pbe.tempo * s.par.tempoScale) :
    SameClock (atUnit Config.pulseModulus (beginSweep s)).pbe (startSweep s).pbe := by
  obtain ⟨-, -, pbe, -⟩ := beginSweep_keeps s
  have swept := practiceSweep_sameClock (recorderSweep (playUnit (atUnit Config.pulseModulus (beginSweep s))))
  rw [(recorderSweep_frame _).2.2.2.2.2.2.2.2.1] at swept
  rw [startSweep_pulse plain running score due]
  exact (playUnit_sameClock (atUnit_running (by rw [pbe]; exact running))).trans swept

/-- R137: a pulse above countdown 1 only counts down. -/
theorem startSweep_counts {s : State} (plain : s.early = []) (running : s.pbe.state = .running)
    (score : s.pbe.source = .score) (due : 500000 ≤ s.pbe.acc + s.pbe.tempo * s.par.tempoScale)
    (more : 1 < s.pbe.countdown) :
    (startSweep s).pbe = (countDown (atUnit Config.pulseModulus (beginSweep s))).pbe ∧
      (startSweep s).hpm = (atUnit Config.pulseModulus (beginSweep s)).hpm := by
  obtain ⟨-, -, pbe, -⟩ := beginSweep_keeps s
  have unit := atUnit_running (m := Config.pulseModulus) (s := beginSweep s) (by rw [pbe]; exact running)
  rw [startSweep_pulse plain running score due, playUnit_count (by rw [atUnit_pbe, pbe]; exact more)]
  rw [practiceSweep_pbe_still (.inl (by simp [countDown, unit]))]
  simp [countDown]

/-- Settles O36: the clock is that of the pulse's unit, which a run and PRM's sweep event leave; above 1 the unit only
counts down. -/
theorem pulseMovesTheClock : Obligations.PulseMovesTheClock := by
  refine ⟨fun s runs plain running score due => ?pulse, fun s runs plain running score less => ?gain,
    fun s runs plain still => ?still⟩
  case pulse =>
    obtain ⟨-, par, pbe, -, -, -, -, -, hpm, -⟩ := beginSweep_keeps s
    refine ⟨startSweep s, by rw [exec_pulse runs, if_pos ((pulseStarts_iff plain).2 ⟨running, score, due⟩)],
      exec_sweep runs, ?_⟩
    obtain ⟨-, -, acc, beat, bar⟩ := startSweep_clock plain running score due
    obtain ⟨beatAt, barAt⟩ := atUnit_beat Config.pulseModulus (beginSweep s)
    rw [beatAt] at beat
    rw [barAt] at bar
    rw [atUnit_pbe] at acc
    simp only [par, pbe] at acc beat bar
    refine ⟨acc, beat, bar, fun more => ?_⟩
    obtain ⟨counted, click⟩ := startSweep_counts plain running score due more
    rw [counted, click, atUnit_hpm, hpm, par, pbe, countDown_pbe, atUnit_pbe, pbe]
    exact ⟨rfl, rfl, running, rfl⟩
  case gain =>
    obtain ⟨-, par, pbe, -⟩ := beginSweep_keeps s
    have undue : ¬ pulseStarts s = true := fun due => not_le.2 less ((pulseStarts_iff plain).1 due).2.2
    refine ⟨startSweep s, exec_sweep runs, by rw [exec_pulse runs, if_neg undue], ?_⟩
    rw [startSweep_plain plain, playbackSweep_gain (by rw [pbe]; exact running) (by rw [pbe]; exact score)
      (by rw [pbe, par]; exact less)]
    rw [practiceSweep_pbe_still (.inl (by simp [accumulate, running]))]
    simp [accumulate, pulseGain]
  case still =>
    have undue : ¬ pulseStarts s = true := fun due => by
      obtain ⟨running, score, -⟩ := (pulseStarts_iff plain).1 due
      rcases still with still | take
      · exact still running
      · simp [score] at take
    rw [exec_pulse runs, if_neg undue]

end Sys2Proof.Machine

namespace Sys2Proof.Machine

/-! ## Entries performed (R123, R124, R139, R140, R148) -/

section
variable {e : ScoreEntry} {i : Nat} {s : State}

theorem performScore_end (kind : e.kind = 0) : performScore e i s = stopSteps .ended s := by
  simp only [performScore, kind]

theorem performScore_noteOn (kind : e.kind = 1) : performScore e i s = performNoteOn e.a e.b e.part i s := by
  simp only [performScore, kind]

theorem performScore_noteOff (kind : e.kind = 2) : performScore e i s = performNoteOff e.a s := by
  simp only [performScore, kind]

theorem keyOfNumber_outside {n : Nat} (out : n = 0 ∨ 88 < n) : keyOfNumber n = none := dif_neg (by omega)

section
variable {k : Key} (key : e.a = keyNumber k)
include key

theorem performScore_noteOn_key (kind : e.kind = 1) : performScore e i s =
    if partExpected s e.part then expectedNote k i s else playbackOn k (clamp 1 127 e.b) s := by
  rw [performScore_noteOn kind, key, performNoteOn, keyOfNumber_keyNumber]

theorem performScore_noteOff_key (kind : e.kind = 2) : performScore e i s = playbackOff k s := by
  rw [performScore_noteOff kind, key, performNoteOff, keyOfNumber_keyNumber]

/-- R139: a NOTE_ON that the learner need not play is voiced. -/
theorem performScore_voiced (kind : e.kind = 1)
    (voiced : s.par.practiceMode = 0 ∨ s.par.partMask.testBit e.part = false) :
    performScore e i s = noteOn k (max 1 (min 127 e.b)) .playback
      (setSound k { s.sound k with playbackHolder := true } s) := by
  have unexpected : partExpected s e.part = false := by
    rcases voiced with mode | part
    · simp [partExpected, mode]
    · simp [partExpected, part]
  rw [performScore_noteOn_key key kind, unexpected]
  rfl

theorem performScore_expected (kind : e.kind = 1) (mode : s.par.practiceMode = 1 ∨ s.par.practiceMode = 2)
    (part : s.par.partMask.testBit e.part = true) : performScore e i s = expectedNote k i s := by
  rw [performScore_noteOn_key key kind, if_pos (by simpa [partExpected, part] using mode)]

theorem performScore_lets (kind : e.kind = 2) (holds : (s.sound k).playbackHolder = true) : performScore e i s =
    releaseEval k (setSound k { s.sound k with playbackHolder := false } s) := by
  rw [performScore_noteOff_key key kind, playbackOff, if_pos holds]

theorem performScore_unheld (kind : e.kind = 2) (unheld : (s.sound k).playbackHolder = false) :
    performScore e i s = s := by
  rw [performScore_noteOff_key key kind, playbackOff, if_neg (by simp [unheld])]

end

/-- R123: a key number outside 1..88 is skipped. -/
theorem performScore_noKey (kind : e.kind = 1 ∨ e.kind = 2) (out : e.a = 0 ∨ 88 < e.a) : performScore e i s = s := by
  rcases kind with on | off
  · rw [performScore_noteOn on, performNoteOn, keyOfNumber_outside out]
  · rw [performScore_noteOff off, performNoteOff, keyOfNumber_outside out]

theorem performScore_pedal (kind : e.kind = 3) : performScore e i s = performPedal e.a e.b s := by
  simp only [performScore, kind]

theorem performScore_pedal_code (p : Pedal) (kind : e.kind = 3) (code : e.a = pedalCode p) :
    performScore e i s = playbackLevel p (min 127 e.b) s := by
  rw [performScore_pedal kind, performPedal, code]
  cases p <;> rfl

/-- R124: a pedal code above 2 is skipped. -/
theorem performScore_noPedal (kind : e.kind = 3) (out : 2 < e.a) : performScore e i s = s := by
  obtain ⟨n, more⟩ := Nat.exists_eq_add_of_le' out
  rw [performScore_pedal kind, performPedal, more]
  rfl

/-- R107, R140: a BEAT sounds in metronome mode 1. -/
theorem performScore_click (kind : e.kind = 4) (mode : s.par.metroMode = 1) : performScore e i s =
    { s with hpm := { s.hpm with click := some ⟨if e.a = 1 then .a else .b, 0⟩ } } := by
  simp [performScore, kind, mode, beat, State.modHpm]

theorem performScore_noClick (kind : e.kind = 4) (mode : s.par.metroMode ≠ 1) : performScore e i s = s := by
  simp only [performScore, kind, if_neg mode]

theorem performScore_tempo (kind : e.kind = 5) : performScore e i s =
    { s with pbe := { s.pbe with tempo := max 20 (min 300 (e.a * 256 + e.b)) } } := by
  simp only [performScore, kind]
  rfl

theorem performScore_mark (kind : e.kind = 6) : performScore e i s = performMark e.a i s := by
  simp only [performScore, kind]

theorem performScore_mark_numbered (kind : e.kind = 6) (number : e.a ≠ 0) : performScore e i s =
    handReport (.play s.pbe.state none s.pbe.source i .mark (some e.a) s.now) s := by
  rw [performScore_mark kind, performMark, if_neg number]

/-- R140: a REST, and a MARK of number 0, do nothing. -/
theorem performScore_nothing (kind : e.kind = 6 ∧ e.a = 0 ∨ e.kind = 7) : performScore e i s = s := by
  rcases kind with ⟨mark, zero⟩ | rest
  · rw [performScore_mark mark, performMark, if_pos zero]
  · simp only [performScore, rest]

theorem performScore_unknown (kind : 13 ≤ e.kind) : performScore e i s = scoreFault .kind i s := by
  obtain ⟨n, more⟩ := Nat.exists_eq_add_of_le' kind
  simp only [performScore, more]

end

section
variable {e : TakeEntry} {i : Nat} {s : State}

/-- R148: a take performs its notes and pedals as a score does, at part 0. -/
theorem performTake_performs (kind : e.kind = 1 ∨ e.kind = 2 ∨ e.kind = 3) :
    performTake e i s = performScore ⟨e.delta, e.kind, 0, e.first, e.second⟩ i s := by
  rcases kind with kind | kind | kind <;> simp only [performTake, performScore, kind]

theorem performTake_skips (noteOn : e.kind ≠ 1) (noteOff : e.kind ≠ 2) (pedal : e.kind ≠ 3) :
    performTake e i s = s := by
  unfold performTake
  split <;> [contradiction; contradiction; contradiction; rfl]

theorem performTake_gap (kind : e.kind = 4) : performTake e i s = s := by
  simp only [performTake, kind]

end

/-! ## The run of a score (R137, R138) -/

theorem not_isNavigation {e : ScoreEntry} (kind : e.kind < 8 ∨ 12 < e.kind) : e.isNavigation = false := by
  simp only [ScoreEntry.isNavigation, Bool.and_eq_false_iff, decide_eq_false_iff_not]
  omega

theorem isNavigation_of {e : ScoreEntry} (from8 : 8 ≤ e.kind) (to12 : e.kind ≤ 12) : e.isNavigation = true := by
  simp [ScoreEntry.isNavigation, from8, to12]

section
variable {s t : State} (entry : (scoreAt s s.pbe.cursor).isNavigation = false)
  (performs : performScore (scoreAt s s.pbe.cursor) s.pbe.cursor s = t)
include entry performs

/-- R137: an entry that stops playback ends the run. -/
theorem scoreRun_stops (n : Nat) (off : t.pbe.state ≠ .running) : scoreRun (n + 1) s = t := by
  have step : scoreStep (scoreAt s s.pbe.cursor) s = t := by
    unfold scoreStep
    dsimp only
    rw [performs, if_neg off]
  rw [scoreRun_succ entry, step, if_neg (by simp [runGoesOn_iff, off])]

variable (on : t.pbe.state = .running)
include on

omit entry in
theorem scoreStep_moves : scoreStep (scoreAt s s.pbe.cursor) s =
    moveCursor (t.pbe.cursor + 1) (t.pbe.cursor + 1) t := by
  unfold scoreStep
  dsimp only
  rw [performs, if_pos on]

/-- R138: behind the last entry of the region the run faults. -/
theorem scoreRun_faults (n : Nat) (outside : scoreSize t ≤ t.pbe.cursor + 1) :
    scoreRun (n + 1) s =
      scoreFault .range (t.pbe.cursor + 1) (t.modPbe fun b => { b with cursor := t.pbe.cursor + 1 }) := by
  rw [scoreRun_succ entry, scoreStep_moves performs on, moveCursor_outside outside, if_neg]
  simp [runGoesOn_iff, scoreFault_pbe, Pbe.halted]

variable (inside : t.pbe.cursor + 1 < scoreSize t)
include inside

/-- R137: an entry with a delta is waited for. -/
theorem scoreRun_waits (n : Nat) (later : (scoreAt t (t.pbe.cursor + 1)).delta ≠ 0) :
    scoreRun (n + 1) s = t.modPbe fun b =>
      { b with cursor := t.pbe.cursor + 1, countdown := (scoreAt t (t.pbe.cursor + 1)).delta } := by
  rw [scoreRun_succ entry, scoreStep_moves performs on, moveCursor_inside inside,
    if_neg (by simp [runGoesOn_iff, later])]

/-- R137: an entry with delta 0 is performed in the same run. -/
theorem scoreRun_goesOn (n : Nat) (due : (scoreAt t (t.pbe.cursor + 1)).delta = 0) :
    scoreRun (n + 1) s = scoreRun n (t.modPbe fun b => { b with cursor := t.pbe.cursor + 1, countdown := 0 }) := by
  rw [scoreRun_succ entry, scoreStep_moves performs on, moveCursor_inside inside, due,
    if_pos (by simp [runGoesOn_iff, on])]

end

section
variable {s : State} (navigation : (scoreAt s s.pbe.cursor).isNavigation = true)
include navigation

/-- R137: a navigation entry and its carry do not fit in one place. -/
theorem scoreRun_navigation_one : scoreRun 1 s = s := if_pos navigation

theorem scoreRun_navigation (n : Nat) : scoreRun (n + 2) s =
    if runGoesOn (performNavigation (scoreAt s s.pbe.cursor) s.pbe.cursor s) then
      scoreRun n (performNavigation (scoreAt s s.pbe.cursor) s.pbe.cursor s)
    else performNavigation (scoreAt s s.pbe.cursor) s.pbe.cursor s := if_pos navigation

end

theorem performRun_score {s : State} (score : s.pbe.source = .score) : performRun s = endGroup (scoreRun 64 s) := by
  rw [performRun, score]
  rfl

/-! ## The run of a take (R148) -/

theorem performRun_take {s : State} (take : s.pbe.source = .take) : performRun s = endGroup (takeRun 64 s) := by
  rw [performRun, take]
  rfl

theorem takeRun_succ (n : Nat) (s : State) :
    takeRun (n + 1) s = if runGoesOn (takeStep s) then takeRun n (takeStep s) else takeStep s := rfl

section
variable {w : TakeWindow} {s t : State} (window : s.pbe.window = some w)
  (performs : performTake (windowEntry s w.oldest s.pbe.cursor) s.pbe.cursor s = t)
include window performs

/-- R148: the last entry of the take ends it. -/
theorem takeRun_ends (n : Nat) (last : w.count ≤ s.pbe.cursor + 1) :
    takeRun (n + 1) s = stopSteps .takeEnd (t.modPbe fun b => { b with cursor := s.pbe.cursor + 1 }) := by
  rw [takeRun_succ, takeStep_last (by rw [windowOf_eq window]; exact last), takeAt_window window, performs, if_neg]
  simp [runGoesOn_iff, stopSteps_pbe, Pbe.halted]

variable (more : s.pbe.cursor + 1 < w.count)
include more

theorem takeStep_moves : takeStep s = t.modPbe fun b =>
    { b with cursor := s.pbe.cursor + 1, countdown := (windowEntry t w.oldest (s.pbe.cursor + 1)).delta } := by
  have same : windowEntry t w.oldest (s.pbe.cursor + 1) = windowEntry s w.oldest (s.pbe.cursor + 1) := by
    rw [← performs]
    simp [windowEntry, scoreSize]
  rw [takeStep_more (by rw [windowOf_eq window]; exact more), takeAt_window window, takeAt_window window,
    performs, same]

theorem takeRun_waits (n : Nat) (later : (windowEntry t w.oldest (s.pbe.cursor + 1)).delta ≠ 0) :
    takeRun (n + 1) s = t.modPbe fun b =>
      { b with cursor := s.pbe.cursor + 1, countdown := (windowEntry t w.oldest (s.pbe.cursor + 1)).delta } := by
  rw [takeRun_succ, takeStep_moves window performs more, if_neg (by simp [runGoesOn_iff, later])]

theorem takeRun_goesOn (n : Nat) (on : t.pbe.state = .running)
    (due : (windowEntry t w.oldest (s.pbe.cursor + 1)).delta = 0) :
    takeRun (n + 1) s = takeRun n (t.modPbe fun b => { b with cursor := s.pbe.cursor + 1, countdown := 0 }) := by
  rw [takeRun_succ, takeStep_moves window performs more, due, if_pos (by simp [runGoesOn_iff, on])]

end

/-! ## The group at the end of a run (R146, R165) -/

/-- A report is handed to LNK whatever PRM holds. -/
theorem handReport_modPrm (r : Report) (f : Prm → Prm) (s : State) :
    (handReport r s).modPrm f = handReport r (s.modPrm f) := by
  have accepted : reportAccepted r (s.modPrm f) = reportAccepted r s := by cases r <;> rfl
  have enabled : classEnabled (s.modPrm f) (reportClass r) = classEnabled s (reportClass r) := by cases r <;> rfl
  simp only [handReport, accepted, enabled]
  (repeat' split) <;> rfl

theorem endGroup_empties {s : State} (still : s.prm.groupKeys = [] ∨ s.pbe.state ≠ .running ∨ s.par.practiceMode ≠ 2 ∨
    s.prm.expected = []) : endGroup s = s.modPrm fun b => { b with groupKeys := [] } := by
  unfold endGroup
  dsimp only
  split
  · next closing =>
    simp only [Bool.and_eq_true, beq_iff_eq, Bool.not_eq_true', List.isEmpty_eq_false_iff] at closing
    obtain ⟨⟨handed, running⟩, mode⟩ := closing
    have none : s.prm.expected = [] := by simpa [handed, running, mode] using still
    rw [closeGroup, none]
    rfl
  · rfl

theorem endGroup_closes {s : State} (handed : s.prm.groupKeys ≠ []) (running : s.pbe.state = .running)
    (mode : s.par.practiceMode = 2) (awaited : s.prm.expected ≠ []) :
    endGroup s = handReport (.play .waiting none s.pbe.source s.pbe.cursor .waiting none s.now)
      { s with
        pbe := { s.pbe with state := .waiting }
        prm := { s.prm with
          groupKeys := []
          waitTimer :=
            if s.par.waitTimeout = 0 then none else some (s.now + BitVec.ofNat 32 s.par.waitTimeout) } } := by
  have closing : closeGroup s = handReport (.play .waiting none s.pbe.source s.pbe.cursor .waiting none s.now)
      ((s.modPrm fun b => { b with
        waitTimer := if s.par.waitTimeout = 0 then none else some (s.now + BitVec.ofNat 32 s.par.waitTimeout) }).modPbe
          fun b => { b with state := .waiting }) := by
    unfold closeGroup
    dsimp only
    rw [if_neg (by simpa using awaited), playReport_unsaved (by simp)]
    rfl
  unfold endGroup
  dsimp only
  rw [if_pos (by simp [handed, running, mode]), closing, handReport_modPrm]
  rfl

end Sys2Proof.Machine

namespace Sys2Proof.Machine

/-! ## A sweep start with a run (R137, R148) -/

/-- R135, R137: the state a unit that is due brings to its run: a pulse of a score, a sweep of a take. -/
def runUnit (s : State) : State :=
  countDown (match s.pbe.source with
    | .score => atUnit Config.pulseModulus (beginSweep s)
    | .take => beginSweep s)

/-- R137: the countdown of a due unit reaches 0, and the pulse clock alone moves. -/
theorem runUnit_pbe {s : State} (zero : s.pbe.countdown ≤ 1) : (runUnit s).pbe =
    { s.pbe with
      countdown := 0
      acc := (runUnit s).pbe.acc
      beatPulse := (runUnit s).pbe.beatPulse
      barPosition := (runUnit s).pbe.barPosition } := by
  obtain ⟨-, -, pbe, -⟩ := beginSweep_keeps s
  have zero : s.pbe.countdown - 1 = 0 := Nat.sub_eq_zero_of_le zero
  unfold runUnit
  cases s.pbe.source with
  | score =>
    have unit := atUnit_pbe Config.pulseModulus (beginSweep s)
    simp only [countDown_pbe]
    rw [unit, pbe, zero]
  | take =>
    simp only [countDown_pbe]
    rw [pbe, zero]

/-- R135: a take has no pulse clock. -/
theorem runUnit_pbe_take {s : State} (take : s.pbe.source = .take) (zero : s.pbe.countdown ≤ 1) :
    (runUnit s).pbe = { s.pbe with countdown := 0 } := by
  obtain ⟨-, -, pbe, -⟩ := beginSweep_keeps s
  rw [runUnit, take, countDown_pbe, pbe, Nat.sub_eq_zero_of_le zero]

theorem runUnit_rest (s : State) :
    (runUnit s).par = s.par ∧ (runUnit s).ptr = s.ptr ∧ (runUnit s).vdp = s.vdp ∧ (runUnit s).mem = s.mem ∧
      (runUnit s).prm = s.prm ∧ (runUnit s).tkr = s.tkr ∧ (runUnit s).scn.sweep = s.scn.sweep + 1 := by
  obtain ⟨-, par, -, prm, mem, vdp, ptr, tkr, -⟩ := beginSweep_keeps s
  have sweep := (beginSweep_sweep_leds s).1
  unfold runUnit
  cases s.pbe.source with
  | score =>
    obtain ⟨-, par', scn', -, ptr', -, vdp', mem', prm', tkr', -⟩ := atUnit_frame Config.pulseModulus (beginSweep s)
    simp only [countDown_frame, par', ptr', vdp', mem', prm', tkr', scn', par, ptr, vdp, mem, prm, tkr, sweep, and_self]
  | take => simp only [countDown_frame, par, ptr, vdp, mem, prm, tkr, sweep, and_self]

/-- R138, R148: the unit leaves the material and the region it is read from. -/
theorem runUnit_reads (s : State) :
    scoreAt (runUnit s) = scoreAt s ∧ scoreSize (runUnit s) = scoreSize s ∧
      ∀ oldest, windowEntry (runUnit s) oldest = windowEntry s oldest := by
  obtain ⟨par, -, -, mem, -⟩ := runUnit_rest s
  refine ⟨funext fun i => ?_, ?_, fun oldest => funext fun i => ?_⟩
  · rw [scoreAt, scoreAt, mem]
  · rw [scoreSize, scoreSize, par]
  · rw [windowEntry, windowEntry, scoreSize, scoreSize, mem, par]

section
variable {s : State} (runs : s.Runs) (plain : s.early = []) (running : s.pbe.state = .running)
  (zero : s.pbe.countdown ≤ 1)
  (due : s.pbe.source = .take ∨ 500000 ≤ s.pbe.acc + s.pbe.tempo * s.par.tempoScale)
include runs plain running zero due

omit runs in
theorem startSweep_run : startSweep s = practiceSweep (recorderSweep (performRun (runUnit s))) := by
  obtain ⟨-, par, pbe, -⟩ := beginSweep_keeps s
  cases source : s.pbe.source with
  | score =>
    have due : 500000 ≤ s.pbe.acc + s.pbe.tempo * s.par.tempoScale := by simpa [source] using due
    rw [startSweep_pulse plain running source due, playUnit_run (by rw [atUnit_pbe, pbe]; exact zero), runUnit, source]
  | take =>
    have swept : playbackSweep (beginSweep s) = playUnit (beginSweep s) := by rw [playbackSweep, pbe, running, source]
    rw [startSweep_plain plain, swept, playUnit_run (by rw [pbe]; exact zero), runUnit, source]

/-- R137: RUN is the whole sweep start where a run comes about. -/
theorem exec_run_eq :
    exec .run s = .next (linkChoose (practiceSweep (recorderSweep (performRun (runUnit s))))) ∧
      exec .sweep s = .next (linkChoose (practiceSweep (recorderSweep (performRun (runUnit s))))) := by
  have starts : runStarts s = true := by
    rw [runStarts_iff plain]
    refine ⟨running, zero, ?_⟩
    cases source : s.pbe.source with
    | score => exact .inr ⟨running, rfl, by simpa [source] using due⟩
    | take => exact .inl rfl
  rw [exec_run runs, if_pos starts, exec_sweep runs, startSweep_run plain running zero due]
  exact ⟨rfl, rfl⟩

end

/-- R147: after a run PRM's sweep event leaves PBE where it runs or has stopped. -/
theorem afterRun_pbe {s : State} (still : s.pbe.state = .running ∨ s.pbe.state = .stopped) :
    (practiceSweep (recorderSweep s)).pbe = s.pbe := by
  have recorded : (recorderSweep s).pbe = s.pbe := by simp
  rw [practiceSweep_pbe_still (by rw [recorded]; exact still), recorded]

/-- R67, R69: a playback NOTE-ON of a queue with room: the key's record and its frame. -/
theorem noteOn_playback {s : State} (k : Key) (room : s.vdp.queue.length < 24) (sending : s.vdp.inFlight ≠ none)
    (level : Nat) :
    (noteOn k level .playback (setSound k { s.sound k with playbackHolder := true } s)).sound k = { s.sound k with
      playbackHolder := true, sounding := true, lastLevel := level, lastSource := .playback, offPending := false } ∧
    (noteOn k level .playback (setSound k { s.sound k with playbackHolder := true } s)).vdp.queue =
      s.vdp.queue ++ [.noteOn k level .playback] := by
  rw [noteOn_queues (by simp [held]) (by simpa using room) (by simpa using sending)]
  simp [lastSourceOf]

/-! ### One entry of a score -/

section
variable {u v : State} (score : u.pbe.source = .score) (entry : (scoreAt u u.pbe.cursor).isNavigation = false)
  (performs : performScore (scoreAt u u.pbe.cursor) u.pbe.cursor u = v) (groups : v.prm.groupKeys = [])
include score entry performs groups

theorem performRun_stops (stopped : v.pbe.state = .stopped) : performRun u = v := by
  rw [performRun_score score, scoreRun_stops entry performs 63 (by simp [stopped]), endGroup_none groups]

theorem performRun_waits (on : v.pbe.state = .running) (inside : v.pbe.cursor + 1 < scoreSize v)
    (later : (scoreAt v (v.pbe.cursor + 1)).delta ≠ 0) : performRun u = v.modPbe fun b =>
      { b with cursor := v.pbe.cursor + 1, countdown := (scoreAt v (v.pbe.cursor + 1)).delta } := by
  rw [performRun_score score, scoreRun_waits entry performs on inside 63 later, endGroup_none (by exact groups)]

theorem performRun_faults (on : v.pbe.state = .running) (outside : scoreSize v ≤ v.pbe.cursor + 1) :
    performRun u = scoreFault .range (v.pbe.cursor + 1) (v.modPbe fun b => { b with cursor := v.pbe.cursor + 1 }) := by
  rw [performRun_score score, scoreRun_faults entry performs on 63 outside, endGroup_none]
  simp [scoreFault, stopSteps_prm, groups]

end

section
variable {u : State} (score : u.pbe.source = .score) (on : u.pbe.state = .running) (groups : u.prm.groupKeys = [])
include score groups

/-- R137, R140, R145: an END stops playback, and so does the fault of an unknown kind. -/
theorem run_halts (kind : (scoreAt u u.pbe.cursor).kind = 0 ∨ 13 ≤ (scoreAt u u.pbe.cursor).kind) :
    ∃ error, (practiceSweep (recorderSweep (performRun u))).pbe = u.pbe.halted u.pbe.cursor error := by
  rcases kind with ended | unknown
  · have halts : performRun u = stopSteps .ended u := performRun_stops score (not_isNavigation (by omega))
      (performScore_end ended) (by rw [stopSteps_prm]; exact groups) (by rw [stopSteps_pbe]; rfl)
    exact ⟨_, by rw [halts, afterRun_pbe (.inr (by rw [stopSteps_pbe]; rfl)), stopSteps_pbe]⟩
  · have halts : performRun u = scoreFault .kind u.pbe.cursor u := performRun_stops score (not_isNavigation (by omega))
      (performScore_unknown unknown) (by simp [scoreFault, stopSteps_prm, groups]) (by rw [scoreFault_pbe]; rfl)
    exact ⟨_, by rw [halts, afterRun_pbe (.inr (by rw [scoreFault_pbe]; rfl)), scoreFault_pbe]⟩

omit groups
include on

/-- R137, R138: an entry that goes on is followed by the next. -/
theorem run_waits {v : State} (kind : (scoreAt u u.pbe.cursor).kind < 8)
    (performs : performScore (scoreAt u u.pbe.cursor) u.pbe.cursor u = v)
    (same : v.pbe = { u.pbe with tempo := v.pbe.tempo })
    (groups : v.prm.groupKeys = []) (inside : u.pbe.cursor + 1 < scoreSize u)
    (later : (scoreAt u (u.pbe.cursor + 1)).delta ≠ 0) :
    performRun u = v.modPbe fun b =>
      { b with cursor := u.pbe.cursor + 1, countdown := (scoreAt u (u.pbe.cursor + 1)).delta } := by
  have cursor : v.pbe.cursor = u.pbe.cursor := by rw [same]
  have reads : scoreAt v = scoreAt u := by
    funext i
    rw [← performs]
    simp [scoreAt]
  have size : scoreSize v = scoreSize u := by
    rw [← performs]
    simp [scoreSize]
  rw [performRun_waits score (not_isNavigation (.inl kind)) performs groups (by rw [same]; exact on), cursor, reads]
  · rw [cursor, size]
    exact inside
  · rw [cursor, reads]
    exact later

theorem run_waits_pbe {v : State} (kind : (scoreAt u u.pbe.cursor).kind < 8)
    (performs : performScore (scoreAt u u.pbe.cursor) u.pbe.cursor u = v)
    (same : v.pbe = { u.pbe with tempo := v.pbe.tempo })
    (groups : v.prm.groupKeys = []) (inside : u.pbe.cursor + 1 < scoreSize u)
    (later : (scoreAt u (u.pbe.cursor + 1)).delta ≠ 0) :
    (practiceSweep (recorderSweep (performRun u))).pbe =
      { v.pbe with cursor := u.pbe.cursor + 1, countdown := (scoreAt u (u.pbe.cursor + 1)).delta } := by
  have running : v.pbe.state = .running := by
    rw [same]
    exact on
  rw [run_waits score on kind performs same groups inside later, afterRun_pbe (.inl (by exact running))]
  rfl

omit on

/-- R139: a voiced NOTE_ON that waits for the next entry, PRM not listening: its key, its frame and the place. -/
theorem run_noteOn (on : u.pbe.state = .running) (groups : u.prm.groupKeys = []) (k : Key)
    (kind : (scoreAt u u.pbe.cursor).kind = 1) (key : (scoreAt u u.pbe.cursor).a = keyNumber k)
    (mode : u.par.practiceMode = 0) (sending : u.vdp.inFlight ≠ none) (room : u.vdp.queue.length < 24)
    (inside : u.pbe.cursor + 1 < scoreSize u) (later : (scoreAt u (u.pbe.cursor + 1)).delta ≠ 0) :
    let t := practiceSweep (recorderSweep (performRun u))
    let level := max 1 (min 127 (scoreAt u u.pbe.cursor).b)
    t.sound k = { u.sound k with
      playbackHolder := true, sounding := true, lastLevel := level, lastSource := .playback, offPending := false } ∧
    t.vdp.queue = u.vdp.queue ++ [.noteOn k level .playback] ∧ t.pbe.cursor = u.pbe.cursor + 1 ∧
    t.pbe.state = .running := by
  dsimp only
  have voiced := performScore_voiced (i := u.pbe.cursor) key kind (.inl mode)
  obtain ⟨sound, queue⟩ := noteOn_playback k room sending (max 1 (min 127 (scoreAt u u.pbe.cursor).b))
  rw [run_waits score on (by omega) voiced (by simp) (by simp [groups]) inside later,
    practiceSweep_off (by simp [mode])]
  exact ⟨by simpa [State.sound] using sound, by simp [queue], by simp, by simp [on]⟩

end

/-! ### One entry of a take -/

section
variable {w : TakeWindow} {u : State} (take : u.pbe.source = .take) (groups : u.prm.groupKeys = [])
  (window : u.pbe.window = some w) (gap : (windowEntry u w.oldest u.pbe.cursor).kind = 4)
include take groups window gap

/-- R148: a GAP is passed, and the next entry waited for. -/
theorem run_gap_waits (on : u.pbe.state = .running) (more : u.pbe.cursor + 1 < w.count)
    (later : (windowEntry u w.oldest (u.pbe.cursor + 1)).delta ≠ 0) :
    (practiceSweep (recorderSweep (performRun u))).pbe =
      { u.pbe with cursor := u.pbe.cursor + 1, countdown := (windowEntry u w.oldest (u.pbe.cursor + 1)).delta } := by
  rw [performRun_take take, takeRun_waits window (performTake_gap gap) more 63 later, endGroup_none (by exact groups),
    afterRun_pbe (.inl (by exact on))]
  rfl

/-- R148: behind the last entry the take ends. -/
theorem run_gap_ends (last : w.count ≤ u.pbe.cursor + 1) :
    (practiceSweep (recorderSweep (performRun u))).pbe = u.pbe.halted (u.pbe.cursor + 1) u.pbe.stackError := by
  have ends : performRun u = stopSteps .takeEnd (u.modPbe fun b => { b with cursor := u.pbe.cursor + 1 }) := by
    rw [performRun_take take, takeRun_ends window (performTake_gap gap) 63 last,
      endGroup_none (by rw [stopSteps_prm]; exact groups)]
  rw [ends, afterRun_pbe (.inr (by rw [stopSteps_pbe]; rfl)), stopSteps_pbe]
  rfl

end

/-- Settles O37: a sweep start with a run is the run of `runUnit`, whose entry is read from the material of the state
before it; each kind of entry, each step of a run and its end has its own equation. -/
theorem runPerformsTheEntry : Obligations.RunPerformsTheEntry := by
  refine ⟨?score, ?take, fun s runs plain undue => ?undue, fun s runs plain running zero due => ?unit,
    fun e i s => ?kinds, fun e i s => ⟨performTake_performs, performTake_skips⟩, ?scoreRun, ?takeRun,
    fun s => ⟨endGroup_empties, endGroup_closes⟩⟩
  case score =>
    rintro e s runs plain groups running score zero due rfl
    obtain ⟨run, sweep⟩ := exec_run_eq runs plain running zero (.inr due)
    refine ⟨_, run, sweep, ?_⟩
    have unit := runUnit_pbe zero
    obtain ⟨par, -, vdp, -, prm, -⟩ := runUnit_rest s
    obtain ⟨reads, size, -⟩ := runUnit_reads s
    generalize runUnit s = u at unit par vdp prm reads size
    have source : u.pbe.source = .score := by rw [unit]; exact score
    have on : u.pbe.state = .running := by rw [unit]; exact running
    have cursor : u.pbe.cursor = s.pbe.cursor := by rw [unit]
    have groups : u.prm.groupKeys = [] := by rw [prm]; exact groups
    simp only [← reads, ← size, ← cursor]
    refine ⟨fun kind => ?ended, fun kind => ?unknown, fun kind inside later => ?tempo,
      fun k kind key mode sending room inside later => ?noteOn, fun kind inside later => ?rest, fun kind last => ?last⟩
    case ended =>
      obtain ⟨error, halted⟩ := run_halts source groups (.inl kind)
      rw [halted]
      exact ⟨rfl, rfl, rfl⟩
    case unknown =>
      obtain ⟨error, halted⟩ := run_halts source groups (.inr kind)
      rw [halted]
      exact ⟨rfl, rfl, rfl⟩
    case tempo =>
      rw [run_waits_pbe source on (by omega) (performScore_tempo kind) rfl groups inside later]
      exact ⟨rfl, rfl, rfl, on⟩
    case noteOn =>
      have sound : s.sound k = u.sound k := by rw [State.sound, State.sound, vdp]
      rw [sound, ← vdp]
      exact run_noteOn source on groups k kind key (par ▸ mode) (vdp ▸ sending) (vdp ▸ room) inside later
    case rest =>
      rw [run_waits_pbe source on (by omega) (performScore_nothing (.inr kind)) rfl groups inside later]
      exact ⟨by rw [unit], rfl, rfl, on⟩
    case last =>
      rw [performRun_faults source (not_isNavigation (by omega)) (performScore_nothing (.inr kind)) groups on last.ge,
        afterRun_pbe (.inr (by rw [scoreFault_pbe]; rfl)), scoreFault_pbe, ← last]
      exact ⟨rfl, rfl⟩
  case take =>
    intro w s runs plain groups running take zero window gap
    obtain ⟨run, sweep⟩ := exec_run_eq runs plain running zero (.inl take)
    refine ⟨_, run, sweep, ?_⟩
    have unit := runUnit_pbe_take take zero
    obtain ⟨-, -, -, -, prm, -⟩ := runUnit_rest s
    obtain ⟨-, -, reads⟩ := runUnit_reads s
    generalize runUnit s = u at unit prm reads
    have cursor : u.pbe.cursor = s.pbe.cursor := by rw [unit]
    rw [← reads, ← cursor] at gap ⊢
    have source : u.pbe.source = .take := by rw [unit]; exact take
    have groups : u.prm.groupKeys = [] := by rw [prm]; exact groups
    have window : u.pbe.window = some w := by rw [unit]; exact window
    refine ⟨fun more later => ?_, fun last => ?_⟩
    · rw [run_gap_waits source groups window gap (by rw [unit]; exact running) more later, unit]
    · rw [run_gap_ends source groups window gap last]
      exact ⟨rfl, rfl⟩
  case undue =>
    have starts : ¬ runStarts s = true := fun starts => by
      obtain ⟨running, zero, -⟩ := (runStarts_iff plain).1 starts
      exact undue.elim (fun still => still running) (not_lt.2 zero)
    rw [exec_run runs, if_neg starts]
  case unit =>
    obtain ⟨run, sweep⟩ := exec_run_eq runs plain running zero due
    exact ⟨runUnit s, run, sweep, runUnit_pbe zero, runUnit_rest s⟩
  case kinds =>
    exact ⟨performScore_end, fun k key => ⟨performScore_voiced key, performScore_expected key, performScore_lets key,
      performScore_unheld key⟩, performScore_noKey, performScore_pedal_code, performScore_noPedal, performScore_click,
      performScore_noClick, performScore_tempo, performScore_mark_numbered, performScore_nothing, performScore_unknown⟩
  case scoreRun =>
    rintro e n s t rfl
    refine ⟨performRun_score, rfl, fun kind => ?_, fun from8 to12 performs => ?_⟩
    · have entry := not_isNavigation kind
      refine ⟨fun performs => scoreRun_stops entry performs.symm n, ?_⟩
      rintro next performs on rfl
      exact ⟨scoreRun_faults entry performs.symm on n, fun inside => scoreRun_waits entry performs.symm on inside n,
        fun inside => scoreRun_goesOn entry performs.symm on inside n⟩
    · have navigation := isNavigation_of from8 to12
      refine ⟨scoreRun_navigation_one navigation, fun on due => ?_, fun off => ?_⟩ <;>
        rw [scoreRun_navigation navigation, ← performs]
      · rw [if_pos ((runGoesOn_iff t).2 ⟨on, due⟩)]
      · rw [if_neg (by rw [runGoesOn_iff, not_and_or]; exact off)]
  case takeRun =>
    rintro w n i s t window rfl performs - -
    exact ⟨performRun_take, rfl, takeRun_ends window performs.symm n, fun more on =>
      ⟨takeRun_waits window performs.symm more n, takeRun_goesOn window performs.symm more n on⟩⟩

end Sys2Proof.Machine

namespace Sys2Proof.Machine

/-! ## Navigation (R142 to R145) -/

section
variable {e : ScoreEntry} {i : Nat} {s : State}

/-- R142: a carry behind the region faults RANGE. -/
theorem performNavigation_range (outside : scoreSize s ≤ i + 1) : performNavigation e i s = scoreFault .range i s :=
  if_pos outside

section
variable (inside : i + 1 < scoreSize s)
include inside

theorem performNavigation_inside : performNavigation e i s =
    if (scoreAt s (i + 1)).kind = 0 ∨ (scoreAt s (i + 1)).isNavigation then scoreFault .carry i s
    else if (performScore (scoreAt s (i + 1)) (i + 1) s).pbe.state = .running then
      navigate e i (performScore (scoreAt s (i + 1)) (i + 1) s)
    else performScore (scoreAt s (i + 1)) (i + 1) s := if_neg (not_le.2 inside)

/-- R142: an END or a navigation entry is no carry. -/
theorem performNavigation_carry
    (kind : (scoreAt s (i + 1)).kind = 0 ∨ 8 ≤ (scoreAt s (i + 1)).kind ∧ (scoreAt s (i + 1)).kind ≤ 12) :
    performNavigation e i s = scoreFault .carry i s := by
  rw [performNavigation_inside inside, if_pos (kind.imp_right fun ⟨from8, to12⟩ => isNavigation_of from8 to12)]

/-- R142: the carry is performed as its own kind, and then the navigation, where playback still runs. -/
theorem performNavigation_performs (above : 1 ≤ (scoreAt s (i + 1)).kind)
    (kind : (scoreAt s (i + 1)).kind ≤ 7 ∨ 13 ≤ (scoreAt s (i + 1)).kind) : performNavigation e i s =
      if (performScore (scoreAt s (i + 1)) (i + 1) s).pbe.state = .running then
        navigate e i (performScore (scoreAt s (i + 1)) (i + 1) s)
      else performScore (scoreAt s (i + 1)) (i + 1) s := by
  have entry : (scoreAt s (i + 1)).isNavigation = false := not_isNavigation (by omega)
  rw [performNavigation_inside inside, if_neg]
  rw [entry]
  simp only [Bool.false_eq_true, or_false]
  omega

end

/-! ### What a navigation entry does (R143, R144) -/

theorem moveCursor_to {target : Nat} (inside : target < scoreSize s) (faultIndex : Nat) :
    moveCursor target faultIndex s =
      { s with pbe := { s.pbe with cursor := target, countdown := (scoreAt s target).delta } } :=
  moveCursor_inside inside faultIndex

theorem targetValid_iff (target : Int) : targetValid s target = true ↔ 0 ≤ target ∧ target < scoreSize s := by
  rw [targetValid, Bool.and_eq_true, decide_eq_true_iff, decide_eq_true_iff, regionSize_eq]

theorem navigate_jump (kind : e.kind = 8) : navigate e i s =
    if targetValid s ((i + 2 : Nat) + e.signed) then moveCursor ((i + 2 : Nat) + e.signed).toNat i s
    else scoreFault .range i s := by
  simp only [navigate, kind]

theorem navigate_call (kind : e.kind = 9) : navigate e i s =
    if !targetValid s e.unsigned then scoreFault .range i s
    else if Config.stackDepth ≤ s.pbe.stack.length then scoreFault .depth i s
    else moveCursor e.unsigned i (s.modPbe fun b => { b with stack := .call (i + 2) :: b.stack }) := by
  simp only [navigate, kind]

theorem navigate_repeat (kind : e.kind = 11) : navigate e i s =
    if Config.stackDepth ≤ s.pbe.stack.length then scoreFault .depth i s
    else moveCursor (i + 2) i (s.modPbe fun b => { b with stack := .loop (i + 2) (max 1 e.a) :: b.stack }) := by
  simp only [navigate, kind]

/-- R143: a JUMP counts its signed operand from the link. -/
theorem navigate_jump_inside (kind : e.kind = 8) (from0 : 0 ≤ (i : Int) + 2 + e.signed)
    (inside : (i : Int) + 2 + e.signed < scoreSize s) : ∃ target : Nat, (target : Int) = i + 2 + e.signed ∧
      navigate e i s = { s with pbe := { s.pbe with cursor := target, countdown := (scoreAt s target).delta } } := by
  obtain ⟨target, place⟩ := Int.eq_ofNat_of_zero_le from0
  have operand : ((i + 2 : Nat) : Int) + e.signed = target := by push_cast; exact place
  rw [place, Int.ofNat_lt] at inside
  refine ⟨target, place.symm, ?_⟩
  rw [navigate_jump kind, operand, if_pos ((targetValid_iff _).2 ⟨Int.natCast_nonneg _, by exact_mod_cast inside⟩),
    Int.toNat_natCast, moveCursor_to inside]

theorem navigate_jump_outside (kind : e.kind = 8)
    (outside : ¬ (0 ≤ (i : Int) + 2 + e.signed ∧ (i : Int) + 2 + e.signed < scoreSize s)) :
    navigate e i s = scoreFault .range i s := by
  have operand : ((i + 2 : Nat) : Int) + e.signed = i + 2 + e.signed := by push_cast; rfl
  rw [navigate_jump kind, operand, if_neg (mt (targetValid_iff _).1 outside)]

theorem targetValid_call (e : ScoreEntry) : targetValid s e.unsigned = true ↔ e.a * 256 + e.b < scoreSize s := by
  rw [targetValid_iff, Int.ofNat_lt]
  exact and_iff_right (Int.natCast_nonneg _)

theorem navigate_call_inside (kind : e.kind = 9) (inside : e.a * 256 + e.b < scoreSize s) : navigate e i s =
    if Config.stackDepth ≤ s.pbe.stack.length then scoreFault .depth i s
    else moveCursor e.unsigned i (s.modPbe fun b => { b with stack := .call (i + 2) :: b.stack }) := by
  rw [navigate_call kind, (targetValid_call e).2 inside, Bool.not_true, if_neg Bool.false_ne_true]

theorem navigate_call_outside (kind : e.kind = 9) (outside : scoreSize s ≤ e.a * 256 + e.b) :
    navigate e i s = scoreFault .range i s := by
  have invalid : targetValid s e.unsigned = false :=
    Bool.eq_false_iff.2 (mt (targetValid_call e).1 (not_lt.2 outside))
  rw [navigate_call kind, invalid, Bool.not_false, if_pos rfl]

/-- R143: a CALL stacks its link. -/
theorem navigate_call_pushes (kind : e.kind = 9) (inside : e.a * 256 + e.b < scoreSize s)
    (room : s.pbe.stack.length < 8) : navigate e i s = { s with pbe := { s.pbe with
      stack := .call (i + 2) :: s.pbe.stack, cursor := e.a * 256 + e.b
      countdown := (scoreAt s (e.a * 256 + e.b)).delta } } := by
  rw [navigate_call_inside kind inside, if_neg (by exact not_le.2 room)]
  exact moveCursor_to (s := s.modPbe _) inside i

/-- R143: a RETURN goes to the link on top of the stack. -/
theorem navigate_return (back : Nat) (rest : List NavRecord) (kind : e.kind = 10)
    (top : s.pbe.stack = .call back :: rest) (inside : back < scoreSize s) :
    navigate e i s = { s with pbe := { s.pbe with
      stack := rest, cursor := back, countdown := (scoreAt s back).delta } } := by
  simp only [navigate, kind, top]
  exact moveCursor_to (s := s.modPbe _) inside i

/-- R144: a REPEAT stacks its start and its passes. -/
theorem navigate_repeat_pushes (kind : e.kind = 11) (inside : i + 2 < scoreSize s) (room : s.pbe.stack.length < 8) :
    navigate e i s = { s with pbe := { s.pbe with
      stack := .loop (i + 2) (max 1 e.a) :: s.pbe.stack, cursor := i + 2
      countdown := (scoreAt s (i + 2)).delta } } := by
  rw [navigate_repeat kind, if_neg (by exact not_le.2 room)]
  exact moveCursor_to (s := s.modPbe _) inside i

section
variable {start passes : Nat} {rest : List NavRecord} (kind : e.kind = 12)
  (top : s.pbe.stack = .loop start passes :: rest)
include kind top

/-- R144: with passes left a LOOP END goes back to the start of its loop. -/
theorem navigate_loopEnd_again (left : 1 < passes) (inside : start < scoreSize s) :
    navigate e i s = { s with pbe := { s.pbe with
      stack := .loop start (passes - 1) :: rest, cursor := start, countdown := (scoreAt s start).delta } } := by
  simp only [navigate, kind, top, if_neg (not_le.2 left)]
  exact moveCursor_to (s := s.modPbe _) inside i

/-- R144: after the last pass it goes on behind itself. -/
theorem navigate_loopEnd_done (last : passes = 1) (inside : i + 2 < scoreSize s) :
    navigate e i s = { s with pbe := { s.pbe with
      stack := rest, cursor := i + 2, countdown := (scoreAt s (i + 2)).delta } } := by
  simp only [navigate, kind, top, if_pos last.le]
  exact moveCursor_to (s := s.modPbe _) inside i

end

/-- R143, R144: a CALL or REPEAT before a full stack faults DEPTH. -/
theorem navigate_depth (kind : e.kind = 9 ∧ e.a * 256 + e.b < scoreSize s ∨ e.kind = 11)
    (full : 8 ≤ s.pbe.stack.length) : navigate e i s = scoreFault .depth i s := by
  rcases kind with ⟨call, inside⟩ | loop
  · rw [navigate_call_inside call inside, if_pos (by exact full)]
  · rw [navigate_repeat loop, if_pos (by exact full)]

/-- R143, R144: a RETURN or LOOP END whose record is not on top faults NESTING. -/
theorem navigate_nesting (kind : e.kind = 10 ∧ ¬ (∃ back rest, s.pbe.stack = .call back :: rest) ∨
    e.kind = 12 ∧ ¬ (∃ start passes rest, s.pbe.stack = .loop start passes :: rest)) :
    navigate e i s = scoreFault .nesting i s := by
  rcases kind with ⟨ret, other⟩ | ⟨loopEnd, other⟩
  · simp only [navigate, ret]
    split
    · next back rest top => exact absurd ⟨back, rest, top⟩ other
    · rfl
  · simp only [navigate, loopEnd]
    split
    · next start passes rest top => exact absurd ⟨start, passes, rest, top⟩ other
    · rfl

theorem navigate_range (kind : e.kind = 8 ∧ ¬ (0 ≤ (i : Int) + 2 + e.signed ∧ (i : Int) + 2 + e.signed < scoreSize s) ∨
    e.kind = 9 ∧ scoreSize s ≤ e.a * 256 + e.b) : navigate e i s = scoreFault .range i s :=
  kind.elim (fun ⟨jump, outside⟩ => navigate_jump_outside jump outside)
    fun ⟨call, outside⟩ => navigate_call_outside call outside

end

/-- R145: the steps of a SCORE FAULT: the flag, the report and the stop. -/
theorem scoreFault_eq (cause : ScoreCause) (index : Nat) (s : State) : scoreFault cause index s = stopSteps .fault
    (handReport (.scoreFault cause index s.pbe.stack.length s.now)
      { s with pbe := { s.pbe with
        stackError := if cause = .depth ∨ cause = .nesting then true else s.pbe.stackError } }) := by
  cases cause <;> simp [scoreFault, setsStackError, State.modPbe]

/-- Settles O38, from the equation of each case. -/
theorem navigationMovesTheCursor : Obligations.NavigationMovesTheCursor := by
  refine ⟨?carry, scoreFault_eq, fun e i s _ => ⟨navigate_jump_inside, navigate_call_pushes, navigate_return,
    navigate_repeat_pushes, fun start passes rest kind top => ⟨navigate_loopEnd_again kind top,
      navigate_loopEnd_done kind top⟩, navigate_depth, navigate_nesting, navigate_range⟩⟩
  rintro e c i s rfl
  refine ⟨performNavigation_range, fun inside => ⟨performNavigation_carry inside, fun above kind =>
    ⟨fun on => ?_, fun off => ?_⟩⟩⟩ <;> rw [performNavigation_performs inside above kind]
  · rw [if_pos on]
  · rw [if_neg off]

end Sys2Proof.Machine

namespace Sys2Proof.Machine

/-! ## PRM's operations, item by item (R157 to R170) -/

/-! ### The tally (R161) -/

/-- R161: a count that rises more than once. -/
theorem saturatingSucc_iterate {n : Nat} (positive : 0 < n) (m : Nat) : saturatingSucc^[n] m = min 65535 (m + n) := by
  induction n, positive using Nat.le_induction with
  | base => rfl
  | succ n _ ih =>
    rw [Function.iterate_succ_apply', ih, saturatingSucc, Config.countMax]
    omega

theorem countResult_wrong_iterate (n : Nat) (p : Prm) :
    (countResult .wrong)^[n] p = { p with wrongs := saturatingSucc^[n] p.wrongs } := by
  induction n with
  | zero => rfl
  | succ n ih => rw [Function.iterate_succ_apply', Function.iterate_succ_apply', ih]; rfl

theorem countResult_miss_iterate (n : Nat) (p : Prm) :
    (countResult .miss)^[n] p = { p with misses := saturatingSucc^[n] p.misses } := by
  induction n with
  | zero => rfl
  | succ n ih => rw [Function.iterate_succ_apply', Function.iterate_succ_apply', ih]; rfl

/-- A fold whose every step does the same to PRM's items. -/
theorem foldl_prm {α : Type} {f : State → α → State} {g : Prm → Prm} (acts : ∀ t a, (f t a).prm = g t.prm)
    (l : List α) (s : State) : (l.foldl f s).prm = g^[l.length] s.prm := by
  induction l generalizing s with
  | nil => rfl
  | cons a l ih => rw [List.foldl_cons, ih, acts, List.length_cons, Function.iterate_succ_apply]

theorem resolve_prm (k : Key) (result : PracticeResult) (cause : PracticeCause) (offset : Int) (index : Option Nat)
    (s : State) : (resolve k result cause offset index s).prm = countResult result s.prm := by
  simp [resolve]

theorem resolveWrong_prm (cause : PracticeCause) (r : Recent) (s : State) :
    (resolveWrong cause r s).prm = countResult .wrong s.prm := resolve_prm ..

theorem resolveMiss_prm (cause : PracticeCause) (e : Expected) (s : State) :
    (resolveMiss cause e s).prm = countResult .miss s.prm := resolve_prm ..

/-! ### Examination and expiries (R159, R163, R167) -/

theorem stale_iff (s : State) (r : Recent) : stale s r = true ↔ s.par.early < elapsed s.now r.sweep :=
  decide_eq_true_iff

/-- R159: an examination drops every stale entry and counts it WRONG. -/
theorem examine_prm (s : State) : (examine s).prm = { s.prm with
    recent := s.prm.recent.filter fun r => !stale s r
    wrongs := saturatingSucc^[(s.prm.recent.filter (stale s)).length] s.prm.wrongs } := by
  rw [examine, foldl_prm (fun _ _ => resolveWrong_prm ..), countResult_wrong_iterate]
  rfl

/-- R159: where nothing is stale an examination does nothing. -/
theorem examine_fresh {s : State} (fresh : ∀ r ∈ s.prm.recent, elapsed s.now r.sweep ≤ s.par.early) :
    examine s = s := by
  have kept (r : Recent) (entry : r ∈ s.prm.recent) : stale s r = false := by
    rw [← Bool.not_eq_true, stale_iff]
    exact not_lt.2 (fresh r entry)
  have none : s.prm.recent.filter (stale s) = [] := List.filter_eq_nil_iff.2 fun r entry => by simp [kept r entry]
  have all : (s.prm.recent.filter fun r => !stale s r) = s.prm.recent :=
    List.filter_eq_self.2 fun r entry => by simp [kept r entry]
  simp only [examine, none, List.foldl_nil, State.modPrm, all]

/-- R163: the deadline expiries drop every entry that is due and count it MISS. -/
theorem expireDeadlines_prm (s : State) : (expireDeadlines s).prm = { s.prm with
    expected := s.prm.expected.filter fun e => !deadlineDue s e
    misses := saturatingSucc^[(s.prm.expected.filter (deadlineDue s)).length] s.prm.misses } := by
  rw [expireDeadlines, foldl_prm (fun _ _ => resolveMiss_prm ..), countResult_miss_iterate]
  rfl

theorem missTimeout_prm (e : Expected) (s : State) : (missTimeout e s).prm = countResult .miss s.prm := by
  rw [missTimeout, guideNote, (noteOn_frame _ _ _ _).2.2.2.2.2.2.2.2.2.1]
  exact resolveMiss_prm _ e s

/-- R167: the expiry of the wait timer empties the list, every entry a MISS. -/
theorem expireWait_prm (s : State) : (expireWait s).prm = { s.prm with
    expected := [], waitTimer := none, misses := saturatingSucc^[s.prm.expected.length] s.prm.misses } := by
  rw [expireWait, (waitRelease_frame _).2.2.2.2.2.2.2.2.2.1, foldl_prm (fun t e => missTimeout_prm e t),
    countResult_miss_iterate]
  rfl

/-! ### Strikes (R160, R162) -/

theorem joinRecent_room {s : State} (room : s.prm.recent.length < 8) (k : Key) :
    joinRecent k s = s.modPrm fun p => { p with recent := p.recent ++ [⟨k, s.now⟩] } := by
  rw [joinRecent, if_pos (by exact room)]

theorem joinRecent_full {s : State} {oldest : Recent} {rest : List Recent} (entries : s.prm.recent = oldest :: rest)
    (full : 7 ≤ rest.length) (k : Key) : joinRecent k s =
      (resolveWrong .evicted oldest (s.modPrm fun p => { p with recent := rest })).modPrm fun p =>
        { p with recent := p.recent ++ [⟨k, s.now⟩] } := by
  have many : ¬ (oldest :: rest).length < Config.recentSize := by simp [Config.recentSize]; omega
  rw [joinRecent, entries, if_neg many]

theorem latestRecent_eq_none_iff (k : Key) (l : List Recent) : latestRecent k l = none ↔ ∀ r ∈ l, r.key ≠ k := by
  simp [latestRecent]

/-! ### Expected notes (R162, R164) -/

/-- R162: where no entry of the key is expected none is repeated. -/
theorem missRepeated_none {k : Key} {s : State} (other : ∀ e ∈ s.prm.expected, e.key ≠ k) : missRepeated k s = s := by
  have absent : (s.prm.expected.find? fun e => e.key == k) = none := by simpa using other
  rw [missRepeated, absent]

theorem missRepeated_some {k : Key} {e : Expected} {s : State}
    (older : (s.prm.expected.find? fun e => e.key == k) = some e) :
    missRepeated k s = resolveMiss .repeated e (dropExpected k s) := by
  rw [missRepeated, older]

theorem missEvicted_room {s : State} (room : s.prm.expected.length < 10) : missEvicted s = s := if_pos room

theorem missEvicted_full {s : State} {oldest : Expected} {rest : List Expected}
    (entries : s.prm.expected = oldest :: rest) (full : 9 ≤ rest.length) :
    missEvicted s = resolveMiss .evicted oldest (s.modPrm fun p => { p with expected := rest }) := by
  have many : ¬ (oldest :: rest).length < Config.expectSize := by simp [Config.expectSize]; omega
  rw [missEvicted, entries, if_neg many]

/-! ### Mode changes (R170) -/

/-- R170: an unchanged value, and any value in STOPPED, is no mode change. -/
theorem afterModeWrite_unseen {changed : Bool} {s : State} (unseen : changed = false ∨ s.pbe.state = .stopped) :
    afterModeWrite changed s = s := by
  rcases unseen with same | stopped
  · simp [afterModeWrite, same]
  · simp [afterModeWrite, stopped]

theorem afterModeWrite_seen {s : State} (playing : s.pbe.state ≠ .stopped) : afterModeWrite true s = modeChange s := by
  simp [afterModeWrite, playing]

@[simp] theorem waitRelease_replies (s : State) : (waitRelease s).lnk.replies = s.lnk.replies := by
  unfold waitRelease
  (repeat' split) <;> simp

/-- R170: what a change of the mode or of the mask leaves of PRM, of PBE and of the reply queue. -/
theorem modeChange_items (s : State) :
    (modeChange s).prm = { s.prm with
      expected := [], waitTimer := none, recent := if s.par.practiceMode = 0 then [] else s.prm.recent } ∧
    (modeChange s).pbe = s.pbe.released ∧ (modeChange s).lnk.replies = s.lnk.replies := by
  unfold modeChange
  dsimp only
  rw [waitRelease_pbe, waitRelease_replies, (waitRelease_frame _).2.2.2.2.2.2.2.2.2.1]
  by_cases off : s.par.practiceMode = 0
  · rw [if_pos off, if_pos off]
    exact ⟨rfl, rfl, rfl⟩
  · rw [if_neg off, if_neg off]
    exact ⟨rfl, rfl, rfl⟩

end Sys2Proof.Machine

namespace Sys2Proof.Machine

/-! ## What a step keeps of PRM's lists (R157, R158, R163, R164, R167, R168) -/

/-! ### The two lists -/

/-- R157, R158: the bounds of the two lists, no key in one place twice or in both. -/
structure PrmLists (p : Prm) : Prop where
  fewExpected : p.expected.length ≤ 10
  once : (p.expected.map (·.key)).Nodup
  fewRecent : p.recent.length ≤ 8
  apart : ∀ e ∈ p.expected, ∀ r ∈ p.recent, e.key ≠ r.key

/-- Entries at most leave the two lists, keys at most join the group, and the timers stand. -/
structure Prm.Loses (p q : Prm) : Prop where
  expected : q.expected.Sublist p.expected
  recent : q.recent.Sublist p.recent
  groupKeys : p.groupKeys ⊆ q.groupKeys
  waitTimer : q.waitTimer = p.waitTimer
  pauseSweep : q.pauseSweep = p.pauseSweep

namespace Prm.Loses

variable {p q r : Prm}

theorem refl (p : Prm) : p.Loses p := ⟨.refl _, .refl _, fun _ => id, rfl, rfl⟩

theorem trans (first : p.Loses q) (second : q.Loses r) : p.Loses r where
  expected := second.expected.trans first.expected
  recent := second.recent.trans first.recent
  groupKeys _ key := second.groupKeys (first.groupKeys key)
  waitTimer := second.waitTimer.trans first.waitTimer
  pauseSweep := second.pauseSweep.trans first.pauseSweep

theorem countResult (result : PracticeResult) (p : Prm) : p.Loses (countResult result p) := by
  cases result <;> exact ⟨.refl _, .refl _, fun _ => id, rfl, rfl⟩

theorem filterRecent (p : Prm) (keep : Recent → Bool) : p.Loses { p with recent := p.recent.filter keep } :=
  ⟨.refl _, List.filter_sublist, fun _ => id, rfl, rfl⟩

theorem filterExpected (p : Prm) (keep : Expected → Bool) : p.Loses { p with expected := p.expected.filter keep } :=
  ⟨List.filter_sublist, .refl _, fun _ => id, rfl, rfl⟩

theorem resolve (k : Key) (result : PracticeResult) (cause : PracticeCause) (offset : Int) (index : Option Nat)
    {s : State} (lost : p.Loses s.prm) : p.Loses (resolve k result cause offset index s).prm := by
  rw [resolve_prm]
  exact lost.trans (countResult result s.prm)

theorem examine (s : State) : s.prm.Loses (examine s).prm := by
  rw [examine_prm]
  exact ⟨.refl _, List.filter_sublist, fun _ => id, rfl, rfl⟩

theorem expireDeadlines (s : State) : s.prm.Loses (expireDeadlines s).prm := by
  rw [expireDeadlines_prm]
  exact ⟨List.filter_sublist, .refl _, fun _ => id, rfl, rfl⟩

theorem creditEarly (k : Key) (index : Nat) (e : Recent) (s : State) : s.prm.Loses (creditEarly k index e s).prm :=
  resolve _ _ _ _ _ (filterRecent s.prm _)

/-- R162: no entry of the key is left. -/
theorem missRepeated (k : Key) (s : State) :
    s.prm.Loses (missRepeated k s).prm ∧ ∀ e ∈ (missRepeated k s).prm.expected, e.key ≠ k := by
  cases older : s.prm.expected.find? fun e => e.key == k with
  | none =>
    have other : ∀ e ∈ s.prm.expected, e.key ≠ k := by simpa using older
    rw [missRepeated_none other]
    exact ⟨refl _, other⟩
  | some e =>
    rw [missRepeated_some older]
    refine ⟨resolve _ _ _ _ _ (filterExpected s.prm _), ?_⟩
    rw [resolveMiss_prm]
    exact fun x entry => by simpa using List.of_mem_filter entry

/-- R162: the list has room for one more. -/
theorem missEvicted {s : State} (few : s.prm.expected.length ≤ 10) :
    s.prm.Loses (missEvicted s).prm ∧ (missEvicted s).prm.expected.length < 10 := by
  rcases Nat.lt_or_ge s.prm.expected.length 10 with room | full
  · rw [missEvicted_room room]
    exact ⟨refl _, room⟩
  · obtain ⟨oldest, rest, entries⟩ := List.exists_cons_of_length_pos (Nat.lt_of_lt_of_le (by decide) full)
    rw [entries, List.length_cons] at few full
    rw [missEvicted_full entries (by omega)]
    refine ⟨resolve _ _ _ _ _ ⟨?_, .refl _, fun _ => id, rfl, rfl⟩, ?_⟩
    · rw [entries]
      exact List.sublist_cons_self oldest rest
    · rw [resolveMiss_prm]
      exact Nat.lt_of_succ_le few

end Prm.Loses

namespace PrmLists

variable {p q : Prm}

theorem loses (lists : PrmLists p) (lost : p.Loses q) : PrmLists q where
  fewExpected := lost.expected.length_le.trans lists.fewExpected
  once := (lost.expected.map _).nodup lists.once
  fewRecent := lost.recent.length_le.trans lists.fewRecent
  apart e expected r recent := lists.apart e (lost.expected.subset expected) r (lost.recent.subset recent)

/-- R158, R160: an unclaimed strike joins a recent list with room. -/
theorem addRecent (lists : PrmLists p) {r : Recent} (room : p.recent.length < 8)
    (unclaimed : ∀ e ∈ p.expected, e.key ≠ r.key) : PrmLists { p with recent := p.recent ++ [r] } where
  fewExpected := lists.fewExpected
  once := lists.once
  fewRecent := by simpa using room
  apart e expected x recent := by
    rcases List.mem_append.1 recent with old | new
    · exact lists.apart e expected x old
    · rw [List.mem_singleton.1 new]
      exact unclaimed e expected

/-- R158, R162, R164: a note that neither list knows joins an expectation list with room. -/
theorem addExpected (lists : PrmLists p) {e : Expected} (room : p.expected.length < 10)
    (other : ∀ x ∈ p.expected, x.key ≠ e.key) (unstruck : ∀ r ∈ p.recent, r.key ≠ e.key) :
    PrmLists { p with expected := p.expected ++ [e] } where
  fewExpected := by simpa using room
  once := by
    rw [List.map_append, List.map_singleton, List.nodup_append']
    refine ⟨lists.once, List.nodup_singleton _, ?_⟩
    rw [List.disjoint_singleton, List.mem_map]
    rintro ⟨x, entry, same⟩
    exact other x entry same
  fewRecent := lists.fewRecent
  apart x expected r recent := by
    rcases List.mem_append.1 expected with old | new
    · exact lists.apart x old r recent
    · rw [List.mem_singleton.1 new]
      exact (unstruck r recent).symm

/-- R168: an advance of the sweeps leaves the keys. -/
theorem advance (lists : PrmLists p) (d : Sweep) : PrmLists (advancePractice d p) where
  fewExpected := by simpa [advancePractice] using lists.fewExpected
  once := by simpa [advancePractice, Function.comp_def] using lists.once
  fewRecent := by simpa [advancePractice] using lists.fewRecent
  apart e expected r recent := by
    obtain ⟨e, entry, rfl⟩ := List.mem_map.1 expected
    obtain ⟨r, struck, rfl⟩ := List.mem_map.1 recent
    exact lists.apart e entry r struck

end PrmLists

/-! ### The lists and the state of PBE -/

/-- R157: PBE is in a state, or is PAUSED with that state saved (`PlaysIn`). -/
def Pbe.PlaysIn (b : Pbe) (st : PlayState) (saved : SavedState) : Prop :=
  b.state = st ∨ b.state = .paused ∧ b.saved = some saved

theorem Pbe.playsIn_moving {b : Pbe} (moving : b.state ≠ .paused) (st : PlayState) (saved : SavedState) :
    b.PlaysIn st saved ↔ b.state = st := by
  simp [Pbe.PlaysIn, moving]

/-- R147: after a wait release PBE waits neither now nor in what a pause saves. -/
theorem Pbe.not_waiting_released (b : Pbe) : ¬ b.released.PlaysIn .waiting .waiting := by
  unfold Pbe.released Pbe.PlaysIn
  split
  · simp
  · next paused => split <;> simp_all
  · next stopped => simp [stopped]
  · next running => simp [running]

theorem Pbe.released_pause (b : Pbe) : (b.released.saved ≠ none ↔ b.saved ≠ none) ∧
    (b.released.state = .paused ↔ b.state = .paused) := by
  unfold Pbe.released
  split
  · next waiting => simp [waiting]
  · next paused => split <;> simp_all
  · next stopped => simp [stopped]
  · next running => simp [running]

/-- The items that KeepsPractice reads, beside the group key set. -/
structure PracticeWithin (mode : Nat) (b : Pbe) (p : Prm) : Prop extends PrmLists p where
  idle : b.state = .stopped ∨ mode = 0 → p.expected = []
  unlimited : mode = 2 → ∀ e ∈ p.expected, e.deadline = none
  waits : b.PlaysIn .waiting .waiting → mode = 2 ∧ p.expected ≠ []
  runs : mode = 2 → b.PlaysIn .running .running → p.expected = []
  timer : p.waitTimer ≠ none → b.PlaysIn .waiting .waiting
  saved : b.saved ≠ none ↔ b.state = .paused
  pause : p.pauseSweep ≠ none ↔ b.state = .paused

theorem keepsPractice_iff (s : State) :
    KeepsPractice s ↔ s.prm.groupKeys = [] ∧ PracticeWithin s.par.practiceMode s.pbe s.prm := by
  constructor
  · rintro ⟨groups, few, once, fewRecent, apart, idle, unlimited, waits, runs, timer, saved, pause⟩
    exact ⟨groups, ⟨⟨few, once, fewRecent, apart⟩, idle, unlimited, waits, runs, timer, saved, pause⟩⟩
  · rintro ⟨groups, ⟨⟨few, once, fewRecent, apart⟩, idle, unlimited, waits, runs, timer, saved, pause⟩⟩
    exact ⟨groups, few, once, fewRecent, apart, idle, unlimited, waits, runs, timer, saved, pause⟩

namespace PracticeWithin

variable {mode : Nat} {b : Pbe} {p q : Prm}

/-- Nothing is expected and nothing waits: the two lists and the marks of a pause are all that is left to ask. -/
theorem of_empty (lists : PrmLists p) (empty : p.expected = []) (untimed : p.waitTimer = none)
    (playing : ¬ b.PlaysIn .waiting .waiting) (saved : b.saved ≠ none ↔ b.state = .paused)
    (pause : p.pauseSweep ≠ none ↔ b.state = .paused) : PracticeWithin mode b p where
  toPrmLists := lists
  idle _ := empty
  unlimited _ e entry := by simp [empty] at entry
  waits waiting := absurd waiting playing
  runs _ _ := empty
  timer timed := absurd untimed timed
  saved := saved
  pause := pause

/-- A state that is neither STOPPED nor PAUSED saves nothing. -/
theorem saved_none (within : PracticeWithin mode b p) (moving : b.state ≠ .paused) : b.saved = none := by
  by_contra saves
  exact moving (within.saved.1 saves)

theorem pauseSweep_none (within : PracticeWithin mode b p) (moving : b.state ≠ .paused) : p.pauseSweep = none := by
  by_contra pauses
  exact moving (within.pause.1 pauses)

theorem waitTimer_none (within : PracticeWithin mode b p) (playing : ¬ b.PlaysIn .waiting .waiting) :
    p.waitTimer = none := by
  by_contra timed
  exact playing (within.timer timed)

/-- The lists may lose entries, a wait its last one excepted. -/
theorem loses (within : PracticeWithin mode b p) (lost : p.Loses q)
    (stays : b.PlaysIn .waiting .waiting → q.expected ≠ []) : PracticeWithin mode b q where
  toPrmLists := within.toPrmLists.loses lost
  idle still := List.sublist_nil.1 (within.idle still ▸ lost.expected)
  unlimited wait e entry := within.unlimited wait e (lost.expected.subset entry)
  waits waiting := ⟨(within.waits waiting).1, stays waiting⟩
  runs wait running := List.sublist_nil.1 (within.runs wait running ▸ lost.expected)
  timer timed := within.timer (by rwa [lost.waitTimer] at timed)
  saved := within.saved
  pause := by rw [lost.pauseSweep]; exact within.pause

/-- R160: an unclaimed strike joins the recent list. -/
theorem addRecent (within : PracticeWithin mode b p) {r : Recent} (room : p.recent.length < 8)
    (unclaimed : ∀ e ∈ p.expected, e.key ≠ r.key) : PracticeWithin mode b { p with recent := p.recent ++ [r] } :=
  { within with toPrmLists := within.toPrmLists.addRecent room unclaimed }

/-- R134, R169: the stop steps, from lists within their bounds alone. -/
theorem of_halted (lists : PrmLists p) (cursor : Nat) (error : Bool) : PracticeWithin mode (b.halted cursor error)
    { p with expected := [], waitTimer := none, pauseSweep := none } :=
  of_empty ⟨Nat.zero_le _, List.nodup_nil, lists.fewRecent, fun _ entry => by simp at entry⟩ rfl rfl
    (by simp [Pbe.PlaysIn, Pbe.halted]) (by simp [Pbe.halted]) (by simp [Pbe.halted])

/-- R147, R166, R167, R170: a wait is released with the list empty and the timer stopped, whatever the mode now is. -/
theorem released (within : PracticeWithin mode b p) (recent : q.recent.length ≤ 8)
    (empty : q.expected = []) (untimed : q.waitTimer = none) (pause : q.pauseSweep = p.pauseSweep) (later : Nat) :
    PracticeWithin later b.released q := by
  obtain ⟨saved, paused⟩ := b.released_pause
  refine of_empty ⟨by simp [empty], by simp [empty], recent, fun e entry => by simp [empty] at entry⟩ empty untimed
    b.not_waiting_released ?_ ?_
  · rw [saved, paused, within.saved]
  · rw [pause, paused, within.pause]

end PracticeWithin

end Sys2Proof.Machine

namespace Sys2Proof.Machine

/-! ### PRM's sweep event, strikes and mode changes -/

/-- The mode, PBE and PRM are all that is read. -/
theorem KeepsPractice.reads {s t : State} (mode : t.par.practiceMode = s.par.practiceMode) (pbe : t.pbe = s.pbe)
    (prm : t.prm = s.prm) (kept : KeepsPractice s) : KeepsPractice t := by
  rw [keepsPractice_iff] at kept ⊢
  rw [mode, pbe, prm]
  exact kept

theorem listening_iff (s : State) : listening s = true ↔ (s.par.practiceMode = 1 ∨ s.par.practiceMode = 2) ∧
    (s.pbe.state = .running ∨ s.pbe.state = .waiting) := by
  simp [listening]

theorem not_deadlineDue {e : Expected} (unlimited : e.deadline = none) (s : State) : deadlineDue s e = false := by
  rw [deadlineDue, unlimited]

section
variable {s : State}

theorem expireWait_keepsPractice (kept : KeepsPractice s) : KeepsPractice (expireWait s) := by
  rw [keepsPractice_iff] at kept ⊢
  obtain ⟨groups, within⟩ := kept
  rw [expireWait_groupKeys, expireWait_pbe, expireWait_prm]
  exact ⟨groups, within.released (by exact within.fewRecent) (by rfl) (by rfl) (by rfl) _⟩

/-- R159, R163: in WAIT mode the expiries leave the list, so that a wait keeps what it waits for. -/
theorem expireDeadlines_keepsPractice (kept : KeepsPractice s) : KeepsPractice (expireDeadlines (examine s)) := by
  rw [keepsPractice_iff] at kept ⊢
  obtain ⟨groups, within⟩ := kept
  simp only [expireDeadlines_groupKeys, examine_groupKeys, expireDeadlines_frame, examine_frame]
  refine ⟨groups, within.loses ((Prm.Loses.examine s).trans (.expireDeadlines _)) fun waiting => ?_⟩
  obtain ⟨wait, awaited⟩ := within.waits waiting
  have all : (s.prm.expected.filter fun e => !deadlineDue (examine s) e) = s.prm.expected :=
    List.filter_eq_self.2 fun e entry => by simp [not_deadlineDue (within.unlimited wait e entry)]
  rw [expireDeadlines_prm, examine_prm]
  simp only [all]
  exact awaited

theorem practiceSweep_keepsPractice (kept : KeepsPractice s) : KeepsPractice (practiceSweep s) := by
  have swept := expireDeadlines_keepsPractice kept
  unfold practiceSweep
  dsimp only
  (repeat' split)
  · exact kept
  · exact expireWait_keepsPractice swept
  · exact swept

/-- R166: a list that a strike leaves empty releases its wait. -/
theorem releaseIfEmpty_keepsPractice {p : Prm} (within : PracticeWithin s.par.practiceMode s.pbe p)
    (moving : s.pbe.state ≠ .paused) (lost : p.Loses s.prm) (groups : s.prm.groupKeys = []) :
    KeepsPractice (releaseIfEmpty s) := by
  have timed : s.pbe.state ≠ .waiting → ¬ s.pbe.PlaysIn .waiting .waiting := mt (Pbe.playsIn_moving moving ..).1
  rw [keepsPractice_iff, releaseIfEmpty_groupKeys]
  refine ⟨groups, ?_⟩
  unfold releaseIfEmpty
  split
  · next emptied =>
    obtain ⟨empty, -⟩ : s.prm.expected = [] ∧ s.pbe.state = .waiting := by simpa using emptied
    rw [waitRelease_pbe]
    simp only [waitRelease_frame]
    exact within.released (by exact lost.recent.length_le.trans within.fewRecent) (by exact empty) (by rfl)
      (by exact lost.pauseSweep) _
  · next awaited =>
    refine within.loses lost fun waiting empty => awaited ?_
    simp [empty, (Pbe.playsIn_moving moving ..).1 waiting]

/-- R158, R160: an unclaimed strike takes the place of the oldest in a full list. -/
theorem joinRecent_keepsPractice {k : Key} (kept : KeepsPractice s) (unclaimed : ∀ e ∈ s.prm.expected, e.key ≠ k) :
    KeepsPractice (joinRecent k s) := by
  rw [keepsPractice_iff] at kept ⊢
  obtain ⟨groups, within⟩ := kept
  simp only [joinRecent_groupKeys, joinRecent_frame]
  refine ⟨groups, ?_⟩
  rcases Nat.lt_or_ge s.prm.recent.length 8 with room | full
  · rw [joinRecent_room room]
    exact within.addRecent room unclaimed
  · obtain ⟨oldest, rest, entries⟩ := List.exists_cons_of_length_pos (Nat.lt_of_lt_of_le (by decide) full)
    have few := within.fewRecent
    rw [entries, List.length_cons] at few full
    have lost : s.prm.Loses (countResult .wrong { s.prm with recent := rest }) :=
      ⟨.refl _, by rw [entries]; exact List.sublist_cons_self oldest rest, fun _ => id, rfl, rfl⟩
    rw [joinRecent_full entries (by omega), State.modPrm_prm, resolveWrong_prm]
    exact (within.loses lost fun waiting => (within.waits waiting).2).addRecent (Nat.lt_of_succ_le few) unclaimed

theorem practiceStrike_keepsPractice (k : Key) (kept : KeepsPractice s) : KeepsPractice (practiceStrike k s) := by
  obtain ⟨groups, within⟩ := (keepsPractice_iff s).1 kept
  unfold practiceStrike
  dsimp only
  split
  · exact kept
  · next listens =>
    have moving : s.pbe.state ≠ .paused := by
      obtain ⟨-, running | waiting⟩ := (listening_iff s).1 (by simpa using listens)
      · simp [running]
      · simp [waiting]
    split
    · next e claimed =>
      refine releaseIfEmpty_keepsPractice (p := s.prm) (by simpa using within) (by simpa using moving)
        (.resolve _ _ _ _ _ ((Prm.Loses.examine s).trans (.filterExpected _ _))) ?_
      simpa [dropExpected] using groups
    · next unclaimed =>
      have examined : KeepsPractice (examine s) := by
        rw [keepsPractice_iff]
        simp only [examine_groupKeys, examine_frame]
        refine ⟨groups, within.loses (.examine s) fun waiting => ?_⟩
        rw [examine_prm]
        exact (within.waits waiting).2
      exact joinRecent_keepsPractice examined (by simpa using unclaimed)

/-- R170: a change of the mode or of the mask in play empties the list and releases the wait; no other write is seen. -/
theorem afterModeWrite_keepsPractice {t : State} {changed : Bool} (kept : KeepsPractice s) (pbe : t.pbe = s.pbe)
    (prm : t.prm = s.prm) (same : changed = false → t.par.practiceMode = s.par.practiceMode) :
    KeepsPractice (afterModeWrite changed t) := by
  obtain ⟨groups, within⟩ := (keepsPractice_iff s).1 kept
  by_cases stopped : s.pbe.state = .stopped
  · have still : ¬ s.pbe.PlaysIn .waiting .waiting := by simp [Pbe.PlaysIn, stopped]
    rw [afterModeWrite_unseen (.inr (pbe ▸ stopped)), keepsPractice_iff, pbe, prm]
    exact ⟨groups, .of_empty within.toPrmLists (within.idle (.inl stopped)) (within.waitTimer_none still) still
      within.saved within.pause⟩
  · cases changed with
    | false =>
      rw [afterModeWrite_unseen (.inl rfl)]
      exact kept.reads (same rfl) pbe prm
    | true =>
      obtain ⟨prmAfter, pbeAfter, -⟩ := modeChange_items t
      rw [afterModeWrite_seen (pbe ▸ stopped), keepsPractice_iff, prmAfter, pbeAfter, prm, pbe]
      refine ⟨groups, within.released ?_ (by rfl) (by rfl) (by rfl) _⟩
      dsimp only
      split
      · exact Nat.zero_le _
      · exact within.fewRecent

end

end Sys2Proof.Machine

namespace Sys2Proof.Machine

/-! ### The run of PBE (R137, R146, R162, R164, R165) -/

/-- The items that KeepsPractice reads as they stand between the entries of a run: PBE runs, or has stopped with
nothing expected, and in WAIT mode every expected key is one of the group that the end of the run closes. -/
structure RunWithin (mode : Nat) (b : Pbe) (p : Prm) : Prop extends PrmLists p where
  moving : b.state = .running ∨ b.state = .stopped ∧ p.expected = []
  saved : b.saved = none
  untimed : p.waitTimer = none
  pause : p.pauseSweep = none
  off : mode = 0 → p.expected = []
  group : mode = 2 → ∀ e ∈ p.expected, e.deadline = none ∧ e.key ∈ p.groupKeys

/-- What the entries of a run keep. -/
abbrev RunKept (s : State) : Prop := RunWithin s.par.practiceMode s.pbe s.prm

namespace RunWithin

variable {mode : Nat} {b c : Pbe} {p q : Prm}

theorem of_practice (within : PracticeWithin mode b p) (running : b.state = .running) : RunWithin mode b p where
  toPrmLists := within.toPrmLists
  moving := .inl running
  saved := within.saved_none (by simp [running])
  untimed := within.waitTimer_none (by simp [Pbe.PlaysIn, running])
  pause := within.pauseSweep_none (by simp [running])
  off none := within.idle (.inr none)
  group wait e entry := by simp [within.runs wait (.inl running)] at entry

theorem reads (within : RunWithin mode b p) (state : c.state = b.state) (saved : c.saved = b.saved) :
    RunWithin mode c p :=
  { within with
    moving := by rw [state]; exact within.moving
    saved := saved.trans within.saved }

theorem loses (within : RunWithin mode b p) (lost : p.Loses q) : RunWithin mode b q where
  toPrmLists := within.toPrmLists.loses lost
  moving := within.moving.imp id fun ⟨stopped, empty⟩ => ⟨stopped, List.sublist_nil.1 (empty ▸ lost.expected)⟩
  saved := within.saved
  untimed := lost.waitTimer.trans within.untimed
  pause := lost.pauseSweep.trans within.pause
  off none := List.sublist_nil.1 (within.off none ▸ lost.expected)
  group wait e entry := by
    obtain ⟨unlimited, member⟩ := within.group wait e (lost.expected.subset entry)
    exact ⟨unlimited, lost.groupKeys member⟩

/-- R164: a key that is new to the group is expected by no entry. -/
theorem group_fresh {k : Key} (within : RunWithin mode b p) (wait : mode = 2) (fresh : k ∉ p.groupKeys) :
    ∀ e ∈ p.expected, e.key ≠ k := by
  rintro e entry rfl
  exact fresh (within.group wait e entry).2

/-- R162, R164: a note joins the expectation list, in WAIT mode as one of the group. -/
theorem addExpected (within : RunWithin mode b p) (running : b.state = .running) (on : mode ≠ 0) {e : Expected}
    (room : p.expected.length < 10) (other : ∀ x ∈ p.expected, x.key ≠ e.key)
    (unstruck : ∀ r ∈ p.recent, r.key ≠ e.key) (grouped : mode = 2 → e.deadline = none ∧ e.key ∈ p.groupKeys) :
    RunWithin mode b { p with expected := p.expected ++ [e] } :=
  { within with
    toPrmLists := within.toPrmLists.addExpected room other unstruck
    moving := .inl running
    off := fun none => absurd none on
    group := fun wait x entry => by
      rcases List.mem_append.1 entry with old | new
      · exact within.group wait x old
      · rw [List.mem_singleton.1 new]
        exact grouped wait }

theorem halted (within : RunWithin mode b p) (cursor : Nat) (error : Bool) : RunWithin mode (b.halted cursor error)
    { p with expected := [], waitTimer := none, pauseSweep := none } where
  fewExpected := Nat.zero_le _
  once := List.nodup_nil
  fewRecent := within.fewRecent
  apart _ entry := by simp at entry
  moving := .inr ⟨rfl, rfl⟩
  saved := rfl
  untimed := rfl
  pause := rfl
  off _ := rfl
  group _ _ entry := by simp at entry

/-- R146: a run that ends with nothing awaited in WAIT mode. -/
theorem practice (within : RunWithin mode b p) (awaited : mode = 2 → p.expected = []) : PracticeWithin mode b p := by
  have moves : b.state ≠ .paused ∧ b.state ≠ .waiting := by
    rcases within.moving with running | ⟨stopped, -⟩
    · simp [running]
    · simp [stopped]
  obtain ⟨unpaused, unwaiting⟩ := moves
  have still : ¬ b.PlaysIn .waiting .waiting := mt (Pbe.playsIn_moving unpaused ..).1 unwaiting
  exact {
    toPrmLists := within.toPrmLists
    idle := fun still => still.elim (fun stopped => within.moving.elim (fun running => by simp [running] at stopped)
      fun ⟨_, empty⟩ => empty) within.off
    unlimited := fun wait e entry => (within.group wait e entry).1
    waits := fun waiting => absurd waiting still
    runs := fun wait _ => awaited wait
    timer := fun timed => absurd within.untimed timed
    saved := by simp [within.saved, unpaused]
    pause := by simp [within.pause, unpaused] }

end RunWithin

section
variable {s : State}

theorem expectedMute_runKept (k : Key) (index : Nat) (kept : RunKept s) (running : s.pbe.state = .running)
    (mode : s.par.practiceMode = 1) : RunKept (expectedMute k index s) := by
  have examined := kept.loses (.examine s)
  unfold RunKept
  rw [(expectedMute_frame k index s).2.1, (expectedMute_frame k index s).2.2.2.2.2.2.2.2.2.1]
  unfold expectedMute
  dsimp only
  split
  · exact examined.loses (.creditEarly ..)
  · next unclaimed =>
    obtain ⟨repeats, other⟩ := Prm.Loses.missRepeated k (examine s)
    obtain ⟨evicts, room⟩ := Prm.Loses.missEvicted (examined.loses repeats).fewExpected
    have lost := repeats.trans evicts
    refine (examined.loses lost).addExpected running (by simp [mode]) room (fun e entry => ?_) (fun r struck => ?_)
      fun wait => ?_
    · exact other e (evicts.expected.subset entry)
    · exact (latestRecent_eq_none_iff k _).1 unclaimed r (lost.recent.subset struck)
    · simp [mode] at wait

theorem expectedWait_runKept (k : Key) (index : Nat) (kept : RunKept s) (running : s.pbe.state = .running)
    (mode : s.par.practiceMode = 2) : RunKept (expectedWait k index s) := by
  have opened : s.prm.Loses (if s.prm.groupKeys.isEmpty then examine s else s).prm := by
    split
    · exact .examine s
    · exact .refl _
  unfold RunKept
  rw [(expectedWait_frame k index s).2.1, (expectedWait_frame k index s).2.2.2.2.2.2.2.2.1]
  unfold expectedWait
  dsimp only
  generalize (if s.prm.groupKeys.isEmpty then examine s else s) = t at opened
  have examined := kept.loses opened
  split
  · exact examined
  · next fresh =>
    have joined : RunWithin s.par.practiceMode s.pbe
        (t.modPrm fun p => { p with groupKeys := p.groupKeys ++ [k] }).prm :=
      examined.loses ⟨.refl _, .refl _, List.subset_append_left _ _, rfl, rfl⟩
    split
    · exact joined.loses (.creditEarly ..)
    · next unclaimed =>
      split
      · next room =>
        refine joined.addExpected running (by simp [mode]) room (examined.group_fresh mode (by simpa using fresh))
          ((latestRecent_eq_none_iff k _).1 unclaimed) fun _ => ⟨rfl, by simp⟩
      · simpa using joined

theorem expectedNote_runKept (k : Key) (index : Nat) (kept : RunKept s) (running : s.pbe.state = .running) :
    RunKept (expectedNote k index s) := by
  unfold expectedNote
  split
  · next mute => exact expectedMute_runKept k index kept running mute
  · split
    · next wait => exact expectedWait_runKept k index kept running wait
    · exact kept

/-- The mode, PBE's two states and PRM are all that is read. -/
theorem RunKept.reads {t : State} (kept : RunKept s) (par : t.par = s.par) (state : t.pbe.state = s.pbe.state)
    (saved : t.pbe.saved = s.pbe.saved) (prm : t.prm = s.prm) : RunKept t := by
  unfold RunKept
  rw [par, prm]
  exact RunWithin.reads kept state saved

theorem stopSteps_runKept (cause : PlayCause) (kept : RunKept s) : RunKept (stopSteps cause s) := by
  unfold RunKept
  rw [(stopSteps_frame cause s).2.1, stopSteps_pbe, stopSteps_prm]
  exact kept.halted _ _

theorem scoreFault_runKept (cause : ScoreCause) (index : Nat) (kept : RunKept s) :
    RunKept (scoreFault cause index s) :=
  stopSteps_runKept _ (kept.reads (by simp) (by simp) (by simp) (by simp))

theorem performNoteOn_runKept (key level part index : Nat) (kept : RunKept s) (running : s.pbe.state = .running) :
    RunKept (performNoteOn key level part index s) := by
  unfold performNoteOn
  (repeat' split)
  · exact kept
  · exact expectedNote_runKept _ _ kept running
  · exact kept.reads (by simp) (by simp) (by simp) (by simp)

theorem performScore_runKept (e : ScoreEntry) (index : Nat) (kept : RunKept s) (running : s.pbe.state = .running) :
    RunKept (performScore e index s) := by
  unfold performScore
  split
  · exact stopSteps_runKept _ kept
  · exact performNoteOn_runKept _ _ _ _ kept running
  · exact kept.reads (by simp) (by simp) (by simp) (by simp)
  · exact kept.reads (by simp) (by simp) (by simp) (by simp)
  · split
    · exact kept.reads rfl rfl rfl rfl
    · exact kept
  · exact kept.reads rfl rfl rfl rfl
  · exact kept.reads (by simp) (by simp) (by simp) (by simp)
  · exact kept
  · exact scoreFault_runKept _ _ kept

theorem moveCursor_runKept (target faultIndex : Nat) (kept : RunKept s) : RunKept (moveCursor target faultIndex s) := by
  unfold moveCursor
  dsimp only
  split
  · exact scoreFault_runKept _ _ (kept.reads rfl rfl rfl rfl)
  · exact kept.reads rfl rfl rfl rfl

theorem navigate_runKept (e : ScoreEntry) (i : Nat) (kept : RunKept s) : RunKept (navigate e i s) := by
  have moves (stack : List NavRecord) (target : Nat) :
      RunKept (moveCursor target i (s.modPbe fun b => { b with stack := stack })) :=
    moveCursor_runKept _ _ (kept.reads rfl rfl rfl rfl)
  have faults (cause : ScoreCause) : RunKept (scoreFault cause i s) := scoreFault_runKept _ _ kept
  unfold navigate
  dsimp only
  split
  case h_1 =>
    split
    · exact moveCursor_runKept _ _ kept
    · exact faults _
  case h_2 =>
    (repeat' split)
    · exact faults _
    · exact faults _
    · exact moves (.call (i + 2) :: s.pbe.stack) _
  case h_3 =>
    split
    · exact moves _ _
    · exact faults _
  case h_4 =>
    split
    · exact faults _
    · exact moves (.loop (i + 2) _ :: s.pbe.stack) _
  case h_5 =>
    (repeat' split)
    · exact moves _ _
    · exact moves _ _
    · exact faults _

theorem performNavigation_runKept (e : ScoreEntry) (i : Nat) (kept : RunKept s) (running : s.pbe.state = .running) :
    RunKept (performNavigation e i s) := by
  have carried := performScore_runKept (scoreAt s (i + 1)) (i + 1) kept running
  unfold performNavigation
  dsimp only
  (repeat' split)
  · exact scoreFault_runKept _ _ kept
  · exact scoreFault_runKept _ _ kept
  · exact navigate_runKept _ _ carried
  · exact carried

theorem scoreStep_runKept (e : ScoreEntry) (kept : RunKept s) (running : s.pbe.state = .running) :
    RunKept (scoreStep e s) := by
  have performed := performScore_runKept e s.pbe.cursor kept running
  unfold scoreStep
  dsimp only
  split
  · exact moveCursor_runKept _ _ performed
  · exact performed

/-- R137: every place of a run finds PBE running. -/
theorem scoreRun_runKept (places : Nat) (kept : RunKept s) (running : s.pbe.state = .running) :
    RunKept (scoreRun places s) := by
  induction places, s using scoreRun.induct with
  | case1 s => exact kept
  | case2 s e navigation => rwa [show scoreRun 1 s = s from if_pos navigation]
  | case3 s e navigation left t on ih =>
    rw [show scoreRun (left + 2) s = scoreRun left t from (if_pos navigation).trans (if_pos on)]
    exact ih (performNavigation_runKept _ _ kept running) ((runGoesOn_iff t).1 on).1
  | case4 s e navigation left t off =>
    rw [show scoreRun (left + 2) s = t from (if_pos navigation).trans (if_neg off)]
    exact performNavigation_runKept _ _ kept running
  | case5 left s e entry t on ih =>
    rw [show scoreRun (left + 1) s = scoreRun left t from (scoreRun_succ (Bool.eq_false_iff.2 entry)).trans (if_pos on)]
    exact ih (scoreStep_runKept _ kept running) ((runGoesOn_iff t).1 on).1
  | case6 left s e entry t off =>
    rw [show scoreRun (left + 1) s = t from (scoreRun_succ (Bool.eq_false_iff.2 entry)).trans (if_neg off)]
    exact scoreStep_runKept _ kept running

theorem takeStep_runKept (kept : RunKept s) (running : s.pbe.state = .running) : RunKept (takeStep s) := by
  have performed : RunKept (performTake (takeAt s s.pbe.cursor) s.pbe.cursor s) := by
    unfold performTake
    split
    · exact performNoteOn_runKept _ _ _ _ kept running
    · exact kept.reads (by simp) (by simp) (by simp) (by simp)
    · exact kept.reads (by simp) (by simp) (by simp) (by simp)
    · exact kept
  rcases Nat.lt_or_ge (s.pbe.cursor + 1) (windowOf s).count with more | last
  · rw [takeStep_more more]
    exact performed.reads rfl rfl rfl rfl
  · rw [takeStep_last last]
    exact stopSteps_runKept _ (performed.reads rfl rfl rfl rfl)

theorem takeRun_runKept (places : Nat) (kept : RunKept s) (running : s.pbe.state = .running) :
    RunKept (takeRun places s) := by
  induction places generalizing s with
  | zero => exact kept
  | succ places ih =>
    have stepped := takeStep_runKept kept running
    rw [takeRun]
    split
    · next on => exact ih stepped ((runGoesOn_iff _).1 on).1
    · exact stepped

/-- R146, R165: the end of a run: PBE waits for the group that it handed, if a key of it is awaited. -/
theorem endGroup_keepsPractice (kept : RunKept s) : KeepsPractice (endGroup s) := by
  rw [keepsPractice_iff]
  refine ⟨endGroup_groupKeys s, ?_⟩
  by_cases closes : s.prm.groupKeys ≠ [] ∧ s.pbe.state = .running ∧ s.par.practiceMode = 2 ∧ s.prm.expected ≠ []
  · obtain ⟨handed, running, wait, awaited⟩ := closes
    rw [endGroup_closes handed running wait awaited]
    simp only [handReport_frame]
    exact {
      toPrmLists := ⟨kept.fewExpected, kept.once, kept.fewRecent, kept.apart⟩
      idle := fun still => by simp [wait] at still
      unlimited := fun _ e entry => (kept.group wait e entry).1
      waits := fun _ => ⟨wait, awaited⟩
      runs := fun _ running => by simp [Pbe.PlaysIn] at running
      timer := fun _ => .inl rfl
      saved := by simp [kept.saved]
      pause := by simp [kept.pause] }
  · have awaited : s.par.practiceMode = 2 → s.prm.expected = [] := fun wait => by
      by_contra awaited
      obtain ⟨e, entry⟩ := List.exists_mem_of_ne_nil _ awaited
      have handed := List.ne_nil_of_mem (kept.group wait e entry).2
      rcases kept.moving with running | ⟨-, empty⟩
      · exact closes ⟨handed, running, wait, awaited⟩
      · exact awaited empty
    rw [endGroup_empties (by tauto)]
    exact { kept.practice awaited with }

theorem performRun_keepsPractice (kept : KeepsPractice s) (running : s.pbe.state = .running) :
    KeepsPractice (performRun s) := by
  have runs := RunWithin.of_practice ((keepsPractice_iff s).1 kept).2 running
  refine endGroup_keepsPractice ?_
  split
  · exact scoreRun_runKept _ runs running
  · exact takeRun_runKept _ runs running

end

end Sys2Proof.Machine

namespace Sys2Proof.Machine

/-! ### PBE's sweep event (R135, R137) and strikes -/

section
variable {s : State}

/-- An operation of PBE that leaves its two states. -/
theorem KeepsPractice.of_pbe {t : State} (kept : KeepsPractice s) (par : t.par = s.par)
    (state : t.pbe.state = s.pbe.state) (saved : t.pbe.saved = s.pbe.saved) (prm : t.prm = s.prm) :
    KeepsPractice t := by
  simp only [KeepsPractice, PlaysIn, par, state, saved, prm] at kept ⊢
  exact kept

theorem playUnit_keepsPractice (kept : KeepsPractice s) (running : s.pbe.state = .running) :
    KeepsPractice (playUnit s) := by
  have counted : KeepsPractice (countDown s) := kept.of_pbe rfl rfl rfl rfl
  unfold playUnit
  dsimp only
  split
  · exact performRun_keepsPractice counted running
  · exact counted

theorem playbackSweep_keepsPractice (kept : KeepsPractice s) : KeepsPractice (playbackSweep s) := by
  by_cases running : s.pbe.state = .running
  · cases source : s.pbe.source with
    | take =>
      have unit : playbackSweep s = playUnit s := by simp only [playbackSweep, running, source]
      rw [unit]
      exact playUnit_keepsPractice kept running
    | score =>
      rcases Nat.lt_or_ge (s.pbe.acc + s.pbe.tempo * s.par.tempoScale) 500000 with below | due
      · rw [playbackSweep_gain running source below]
        exact kept.of_pbe rfl rfl rfl rfl
      · obtain ⟨-, par, -, -, -, -, -, -, prm, -⟩ := atUnit_frame Config.pulseModulus s
        have pbe := atUnit_pbe Config.pulseModulus s
        rw [playbackSweep_pulse running source due, performPulse_eq]
        exact playUnit_keepsPractice (kept.of_pbe par (by rw [pbe]) (by rw [pbe]) prm) (by rw [pbe]; exact running)
  · rw [playbackSweep_still running]
    exact kept

theorem deliverKeyEvent_keepsPractice (k : Key) (e : KeyEvent) (kept : KeepsPractice s) :
    KeepsPractice (deliverKeyEvent k s e) := by
  cases e with
  | lift => exact kept.reads (by simp [deliverKeyEvent]) (by simp [deliverKeyEvent]) (by simp [deliverKeyEvent])
  | strike level speed repeated interval =>
    have before : KeepsPractice (voiceStrike k level (noteStrike s)) := kept.reads (by simp) (by simp) (by simp)
    exact (practiceStrike_keepsPractice k before).reads (by simp [deliverKeyEvent, deliverStrike])
      (by simp [deliverKeyEvent, deliverStrike]) (by simp [deliverKeyEvent, deliverStrike])
  | release fault =>
    exact kept.reads (by simp [deliverKeyEvent]) (by simp [deliverKeyEvent]) (by simp [deliverKeyEvent])

theorem deliverSample_keepsPractice (c : Channel) (pos : Nat) (kept : KeepsPractice s) :
    KeepsPractice (deliverSample c pos s) := by
  cases c with
  | key k =>
    exact foldl_invariant KeepsPractice _ (fun _ e before => deliverKeyEvent_keepsPractice k e before) _ _
      (kept.reads (by simp) (by simp) (by simp))
  | pedal p => exact kept.reads (by simp [deliverSample]) (by simp [deliverSample]) (by simp [deliverSample])
  | rail => exact kept.reads (by simp [deliverSample]) (by simp [deliverSample]) (by simp [deliverSample])

/-! ### TABLE WRITE of PARAM (R170, R191) -/

theorem paramSet_practiceMode {i : Nat} (other : i ≠ 24) (v : Nat) (p : Params) :
    (paramSet i v p).practiceMode = p.practiceMode := by
  unfold paramSet
  split
  case h_25 => exact absurd rfl other
  all_goals rfl

theorem takeParam_keepsPractice (a : ParamArgs) (w : WriteResult) (kept : KeepsPractice w.st) :
    KeepsPractice (takeParam a w).st := by
  have stores {i : Nat} (other : i ≠ 24) (v : Nat) : KeepsPractice (storeParam i v w.st) :=
    kept.reads (paramSet_practiceMode other v _) rfl rfl
  unfold takeParam
  dsimp only
  split
  · exact (stores (i := 7) (by decide) (clamp 0 7 a.value.toNat)).reads (by simp [takePedalAccum, WriteResult.taken])
      (by simp [takePedalAccum, WriteResult.taken]) (by simp [takePedalAccum, WriteResult.taken])
  · exact kept.reads (by simp [takeHoldOn, WriteResult.taken, testThresholds])
      (by simp [takeHoldOn, WriteResult.taken, testThresholds])
      (by simp [takeHoldOn, WriteResult.taken, testThresholds])
  · exact kept.reads (by simp [takeHoldOff, WriteResult.taken, testThresholds])
      (by simp [takeHoldOff, WriteResult.taken, testThresholds])
      (by simp [takeHoldOff, WriteResult.taken, testThresholds])
  · exact afterModeWrite_keepsPractice kept rfl rfl fun same =>
      show clamp 0 2 a.value.toNat = _ by simpa using same
  · exact afterModeWrite_keepsPractice kept rfl rfl fun _ => paramSet_practiceMode (by decide) _ _
  · unfold takeTakeSize
    split
    · exact kept.reads rfl rfl rfl
    · exact kept
  · next _ _ _ other _ _ => exact stores other _

/-! ### PLAY, STOP, PAUSE, RESUME, LOCATE and RESET PRACTICE (R150 to R156, R168, R169, R172) -/

theorem stopSteps_keepsPractice (cause : PlayCause) (kept : KeepsPractice s) : KeepsPractice (stopSteps cause s) := by
  rw [keepsPractice_iff] at kept ⊢
  obtain ⟨groups, within⟩ := kept
  rw [stopSteps_pbe, stopSteps_prm]
  exact ⟨groups, .of_halted within.toPrmLists _ _⟩

/-- R138, R149: where the place is no entry PBE stops. -/
theorem afterPlacing_keepsPractice (kept : KeepsPractice s) : KeepsPractice (afterPlacing s) := by
  by_cases on : s.pbe.OnEntry (regionSize s)
  · rw [afterPlacing_on on]
    exact kept
  · obtain ⟨pbe, prm⟩ := afterPlacing_off on
    obtain ⟨groups, within⟩ := (keepsPractice_iff s).1 kept
    rw [keepsPractice_iff, pbe, prm]
    exact ⟨groups, .of_halted within.toPrmLists _ _⟩

/-- Nothing expected, no wait and no pause. -/
theorem keepsPractice_of_empty (lists : PrmLists s.prm) (groups : s.prm.groupKeys = []) (empty : s.prm.expected = [])
    (untimed : s.prm.waitTimer = none) (playing : ¬ s.pbe.PlaysIn .waiting .waiting)
    (saved : s.pbe.saved ≠ none ↔ s.pbe.state = .paused) (pause : s.prm.pauseSweep ≠ none ↔ s.pbe.state = .paused) :
    KeepsPractice s :=
  (keepsPractice_iff s).2 ⟨groups, .of_empty lists empty untimed playing saved pause⟩

theorem playFrom_keepsPractice (kept : KeepsPractice s) (stopped : s.pbe.state = .stopped) (source : Source)
    (place : Nat) : KeepsPractice (playFrom source place s) := by
  obtain ⟨groups, within⟩ := (keepsPractice_iff s).1 kept
  have saved := within.saved_none (by simp [stopped])
  have pause := within.pauseSweep_none (by simp [stopped])
  have untimed := within.waitTimer_none (by simp [Pbe.PlaysIn, stopped])
  unfold playFrom
  dsimp only
  refine afterPlacing_keepsPractice (keepsPractice_of_empty ⟨?_, ?_, ?_, ?_⟩ ?_ ?_ ?_ ?_ ?_ ?_)
  all_goals cases source <;>
    simp [placeCursor, fixWindow, practicePlay, playItems, Pbe.PlaysIn, groups, saved, pause, untimed]

/-- R154: LOCATE leaves a wait, and a wait that a pause saves. -/
theorem leaveWaiting_saved {b : Pbe} (saved : b.saved ≠ none ↔ b.state = .paused) :
    ¬ (leaveWaiting b).PlaysIn .waiting .waiting ∧ ((leaveWaiting b).state = .paused ↔ b.state = .paused) ∧
      ((leaveWaiting b).saved ≠ none ↔ b.state = .paused) := by
  rw [← saved]
  unfold leaveWaiting Pbe.PlaysIn
  by_cases waiting : b.state = .waiting <;> simp_all

theorem locateAt_keepsPractice (kept : KeepsPractice s) (place : Nat) : KeepsPractice (locateAt place s) := by
  obtain ⟨groups, within⟩ := (keepsPractice_iff s).1 kept
  obtain ⟨left, paused, saved⟩ := leaveWaiting_saved within.saved
  unfold locateAt
  dsimp only
  refine afterPlacing_keepsPractice (keepsPractice_of_empty ⟨?_, ?_, ?_, ?_⟩ ?_ ?_ ?_ ?_ ?_ ?_)
  all_goals simp only [tellRecorder_frame, playReport_frame, State.modPbe_prm, State.modPbe_pbe, placeCursor_frame]
  · exact Nat.zero_le _
  · exact List.nodup_nil
  · exact within.fewRecent
  · exact fun _ entry => by simp [emptyExpected] at entry
  · exact groups
  · rfl
  · rfl
  · exact left
  · exact saved.trans paused.symm
  · exact within.pause.trans paused.symm

/-- R152, R153, R168: PBE goes into a pause or out of one, and PRM's sweeps at most are advanced. -/
theorem PracticeWithin.transfer {mode : Nat} {b c : Pbe} {p q : Prm} (within : PracticeWithin mode b p)
    (lists : PrmLists q) (empty : p.expected = [] ↔ q.expected = [])
    (unlimited : (∀ e ∈ p.expected, e.deadline = none) → ∀ e ∈ q.expected, e.deadline = none)
    (timed : q.waitTimer ≠ none → p.waitTimer ≠ none) (stopped : c.state ≠ .stopped)
    (waits : c.PlaysIn .waiting .waiting ↔ b.PlaysIn .waiting .waiting)
    (runs : c.PlaysIn .running .running ↔ b.PlaysIn .running .running) (saved : c.saved ≠ none ↔ c.state = .paused)
    (pause : q.pauseSweep ≠ none ↔ c.state = .paused) : PracticeWithin mode c q where
  toPrmLists := lists
  idle still := empty.1 (within.idle (.inr (still.resolve_left stopped)))
  unlimited wait := unlimited (within.unlimited wait)
  waits waiting := (within.waits (waits.1 waiting)).imp id (mt empty.2)
  runs wait running := empty.1 (within.runs wait (runs.1 running))
  timer running := waits.2 (within.timer (timed running))
  saved := saved
  pause := pause

theorem pauseFrom_keepsPractice (kept : KeepsPractice s) {saved : SavedState}
    (playing : s.pbe.state = .running ∧ saved = .running ∨ s.pbe.state = .waiting ∧ saved = .waiting) :
    KeepsPractice (pauseFrom saved s) := by
  obtain ⟨groups, within⟩ := (keepsPractice_iff s).1 kept
  rw [keepsPractice_iff, pauseFrom_pbe, pauseFrom_prm, (pauseFrom_items saved s).2.2.2.1]
  refine ⟨groups, within.transfer ⟨within.fewExpected, within.once, within.fewRecent, within.apart⟩ .rfl id id
    (by simp) ?_ ?_ (by simp) (by simp)⟩
  · rcases playing with ⟨state, rfl⟩ | ⟨state, rfl⟩ <;> simp [Pbe.PlaysIn, state]
  · rcases playing with ⟨state, rfl⟩ | ⟨state, rfl⟩ <;> simp [Pbe.PlaysIn, state]

theorem resumeSteps_keepsPractice (kept : KeepsPractice s) (paused : s.pbe.state = .paused) :
    KeepsPractice (resumeSteps s) := by
  obtain ⟨groups, within⟩ := (keepsPractice_iff s).1 kept
  obtain ⟨since, suspended⟩ := Option.ne_none_iff_exists'.1 (within.pause.2 paused)
  obtain ⟨back, returns⟩ : ∃ back : PlayState, s.pbe.saved = some .running ∧ back = .running ∨
      s.pbe.saved = some .waiting ∧ back = .waiting := by
    obtain ⟨saved, saves⟩ := Option.ne_none_iff_exists'.1 (within.saved.2 paused)
    cases saved with
    | running => exact ⟨.running, .inl ⟨saves, rfl⟩⟩
    | waiting => exact ⟨.waiting, .inr ⟨saves, rfl⟩⟩
  rw [keepsPractice_iff, resumeSteps_eq suspended returns]
  simp only [handReport_frame]
  refine ⟨groups, within.transfer (within.toPrmLists.advance _) (by simp [advancePractice])
    (by simp [advancePractice]) (by simp [advancePractice]) ?_ ?_ ?_ ?_ ?_⟩
  all_goals rcases returns with ⟨saves, rfl⟩ | ⟨saves, rfl⟩ <;> simp [Pbe.PlaysIn, advancePractice, saves, paused]

theorem resetPractice_keepsPractice (kept : KeepsPractice s) : KeepsPractice (ownResetPractice s).st := by
  obtain ⟨groups, -⟩ := (keepsPractice_iff s).1 kept
  have pbe : (ownResetPractice s).st.pbe = Pbe.initial := rfl
  have prm : (ownResetPractice s).st.prm = { Prm.initial with groupKeys := s.prm.groupKeys } := by
    simp [ownResetPractice, answerOk, resetMonitor, resetPlayback, stopSteps_prm, Prm.initial]
  refine keepsPractice_of_empty ⟨?_, ?_, ?_, ?_⟩ ?_ ?_ ?_ ?_ ?_ ?_
  all_goals simp [pbe, prm, groups, Prm.initial, Pbe.initial, Pbe.PlaysIn]

end
end Sys2Proof.Machine

namespace Sys2Proof.Machine

/-! ### Every step keeps PRM's lists -/

/-- The owners of commands that reach neither the mode nor PBE nor PRM. -/
def LeavesPractice (own : State → Answer) : Prop :=
  ∀ s, (own s).st.par = s.par ∧ (own s).st.pbe = s.pbe ∧ (own s).st.prm = s.prm

/-- What no record of a run reaches, the run leaves. -/
theorem takeRecords_practice {α : Type} {take : α → WriteResult → WriteResult}
    (same : ∀ a w, (take a w).st.par = w.st.par ∧ (take a w).st.pbe = w.st.pbe ∧ (take a w).st.prm = w.st.prm)
    (records : List α) (s : State) :
    (takeRecords take records s).answer.st.par = s.par ∧ (takeRecords take records s).answer.st.pbe = s.pbe ∧
      (takeRecords take records s).answer.st.prm = s.prm :=
  takeRecords_keeps (P := fun t => t.par = s.par ∧ t.pbe = s.pbe ∧ t.prm = s.prm)
    (fun a w ⟨par, pbe, prm⟩ => by
      obtain ⟨par', pbe', prm'⟩ := same a w
      exact ⟨par'.trans par, pbe'.trans pbe, prm'.trans prm⟩) records ⟨rfl, rfl, rfl⟩

theorem ownCalWrite_practice (records : List CalArgs) : LeavesPractice (ownCalWrite records) := fun s => by
  unfold ownCalWrite
  (repeat' split)
  · exact ⟨rfl, rfl, rfl⟩
  · exact ⟨rfl, rfl, rfl⟩
  · refine takeRecords_practice (fun a w => ?_) records s
    unfold takeCal
    (repeat' split) <;> simp [WriteResult.taken, WriteResult.refuse]

theorem ownPcalWrite_practice (records : List PcalArgs) : LeavesPractice (ownPcalWrite records) := fun s => by
  unfold ownPcalWrite
  (repeat' split)
  · exact ⟨rfl, rfl, rfl⟩
  · exact ⟨rfl, rfl, rfl⟩
  · refine takeRecords_practice (fun a w => ?_) records s
    unfold takePcal
    dsimp only
    (repeat' split) <;>
      simp [WriteResult.taken, WriteResult.refuse, WriteResult.refuseBusy, placePedalCal, placeRailCal]

theorem ownCurveWrite_practice (curve first : Byte) (points : List Byte) :
    LeavesPractice (ownCurveWrite curve first points) := fun s => by
  unfold ownCurveWrite
  dsimp only
  (repeat' split) <;> exact ⟨rfl, rfl, rfl⟩

theorem ownRail_practice (target : Byte) : LeavesPractice (ownRail target) := fun s => by
  unfold ownRail
  (repeat' split) <;> simp [answerOk, answerRefused]

theorem ownScoreWrite_practice (start : Half) (entries : List Entry) :
    LeavesPractice (ownScoreWrite start entries) := fun s => by
  unfold ownScoreWrite
  (repeat' split) <;> simp [answerOk, answerRefused]

theorem ownArm_practice (mode : Byte) : LeavesPractice (ownArm mode) := fun s => by
  unfold ownArm armRecorder
  (repeat' split) <;> simp [armAnswer, answerOk, answerRefused]

theorem ownStopCapture_practice : LeavesPractice ownStopCapture := fun s => by
  unfold ownStopCapture answerOk
  dsimp only
  split <;> simp

theorem ownCaptureClear_practice : LeavesPractice ownCaptureClear := fun s => by
  unfold ownCaptureClear
  split <;> simp [answerOk, answerRefused]

theorem LeavesPractice.keeps {own : State → Answer} (leaves : LeavesPractice own) : OwnerKeeps KeepsPractice own :=
  fun s kept => by
    obtain ⟨par, pbe, prm⟩ := leaves s
    exact kept.reads (by rw [par]) pbe prm

theorem actingOwner_keepsPractice {own : State → Answer} (acting : ActingOwner own) : OwnerKeeps KeepsPractice own := by
  cases acting with
  | resetPractice => exact fun _ => resetPractice_keepsPractice
  | calWrite records => exact (ownCalWrite_practice records).keeps
  | pcalWrite records => exact (ownPcalWrite_practice records).keeps
  | curveWrite curve first points => exact (ownCurveWrite_practice curve first points).keeps
  | rail target => exact (ownRail_practice target).keeps
  | scoreWrite start entries => exact (ownScoreWrite_practice start entries).keeps
  | arm mode => exact (ownArm_practice mode).keeps
  | stopCapture => exact ownStopCapture_practice.keeps
  | captureClear => exact ownCaptureClear_practice.keeps
  | clearFlags => exact fun _ kept => kept.of_pbe rfl rfl rfl rfl
  | paramWrite entries =>
    intro s kept
    unfold ownParamWrite
    (repeat' split)
    · exact kept
    · exact kept
    · exact takeRecords_keeps takeParam_keepsPractice _ kept
  | play source mark =>
    intro s kept
    unfold ownPlay
    split
    · exact kept
    · split
      · exact kept
      · next idle =>
        (repeat' split)
        · exact kept
        · exact kept
        · exact playFrom_keepsPractice kept (by simpa using idle) _ _
  | stop =>
    intro s kept
    unfold ownStop
    split
    · exact kept
    · exact stopSteps_keepsPractice _ kept
  | pause =>
    intro s kept
    unfold ownPause
    split
    · exact kept
    · exact kept
    · next running => exact pauseFrom_keepsPractice kept (.inl ⟨running, rfl⟩)
    · next waiting => exact pauseFrom_keepsPractice kept (.inr ⟨waiting, rfl⟩)
  | resume =>
    intro s kept
    unfold ownResume
    split
    · exact kept
    · exact kept
    · exact kept
    · next paused => exact resumeSteps_keepsPractice kept paused
  | locate mark =>
    intro s kept
    unfold ownLocate
    (repeat' split)
    · exact kept
    · exact kept
    · exact locateAt_keepsPractice kept _

theorem blockProperty_practice : BlockProperty KeepsPractice where
  reads := fun ⟨par, _, _, _, _, pbe, prm, _⟩ kept => kept.reads (by rw [par]) pbe prm
  powerOn := reset_keepsPractice
  owner := actingOwner_keepsPractice
  sample c pos _ := deliverSample_keepsPractice c pos
  fault c s kept := by
    cases c with
    | key k =>
      obtain ⟨pbe, prm⟩ := keyFault_playback k s
      exact kept.reads (by simp [deliverFault]) pbe prm
    | pedal p => exact kept.reads (by simp [deliverFault]) (by simp [deliverFault]) (by simp [deliverFault])
    | rail => exact kept.reads (by simp [deliverFault]) (by simp [deliverFault]) (by simp [deliverFault])
  recovery c pos s kept := by
    cases c <;> exact kept.reads (by simp [deliverRecovery]) (by simp [deliverRecovery]) (by simp [deliverRecovery])
  gate k _ kept := kept.reads (by simp) (by simp) (by simp)
  strikeAge kept := kept.reads (by simp) (by simp) (by simp)
  railWait kept := kept.reads (by simp) (by simp) (by simp)
  railMove kept := kept.reads (by simp) (by simp) (by simp)
  playback := playbackSweep_keepsPractice
  recorder kept := kept.reads (by simp) (by simp) (by simp)
  practice := practiceSweep_keepsPractice

/-- Settles O60: between events PRM's lists are those of `PracticeWithin`; inside a run they are those of `RunWithin`,
whose group the end of the run closes into a wait. -/
theorem stepKeepsPractice : Obligations.StepKeepsPractice := fun _ _ kept next =>
  blockProperty_practice.step_keeps kept next

end Sys2Proof.Machine

namespace Sys2Proof.Machine

/-! ## PRACTICE_MODE_WRITE and PART_MASK_WRITE (R170) -/

/-- R147: a wait release, written as one update of PBE's two states. -/
theorem Pbe.released_eq (b : Pbe) : b.released = { b with
    state := if b.state = .waiting then .running else b.state
    saved := if b.state = .paused ∧ b.saved = some .waiting then some .running else b.saved } := by
  unfold Pbe.released
  split
  · next waiting => simp [waiting]
  · next paused =>
    split
    · next saved => simp [paused, saved]
    · next saved => rw [if_neg (by simp [paused]), if_neg (by simp [saved])]
  · next stopped => rw [if_neg (by simp [stopped]), if_neg (by simp [stopped])]
  · next running => rw [if_neg (by simp [running]), if_neg (by simp [running])]

section
variable {s : State} (takes : s.Takes) (v : Half)
include takes

theorem exec_practiceModeWrite : exec (.practiceModeWrite v) s =
    .next (linkChoose (repliedCounts .ok 1 (if v.toNat ≤ 2 then 0 else 1) 0
      (afterModeWrite (min 2 v.toNat != s.par.practiceMode)
        { s with par := { s.par with practiceMode := min 2 v.toNat } }))) := by
  refine paramWrite_taken takes (by decide : (24 : Byte).toNat < 33) ?_
  have stored : clamp 0 2 v.toNat = min 2 v.toNat := Nat.zero_max _
  have clamped : clampCount 0 2 v.toNat = if v.toNat ≤ 2 then 0 else 1 := by simp [clampCount_eq, outside]
  show takePracticeMode v.toNat ⟨s, 0, 0, 0, false⟩ = _
  simp only [takePracticeMode, WriteResult.taken, Nat.zero_add, stored, clamped]
  rfl

theorem exec_partMaskWrite : exec (.partMaskWrite v) s =
    .next (linkChoose (repliedCounts .ok 1 (if v.toNat ≤ 15 then 0 else 1) 0
      (afterModeWrite (min 15 v.toNat != s.par.partMask)
        { s with par := { s.par with partMask := min 15 v.toNat } }))) := by
  refine paramWrite_taken takes (by decide : (25 : Byte).toNat < 33) ?_
  have stored : clamp 0 15 v.toNat = min 15 v.toNat := Nat.zero_max _
  have clamped : clampCount 0 15 v.toNat = if v.toNat ≤ 15 then 0 else 1 := by simp [clampCount_eq, outside]
  show takePartMask v.toNat ⟨s, 0, 0, 0, false⟩ = _
  simp only [takePartMask, WriteResult.taken, Nat.zero_add, stored, clamped]
  rfl

end

/-- Settles O15: each write stores its clamped value, and is a mode change where it changes the value in play. -/
theorem modeWritesReleaseTheWait : Obligations.ModeWritesReleaseTheWait := by
  intro v s takes c p limit old write
  have taken : exec c s = .next (linkChoose (repliedCounts .ok 1 (if v.toNat ≤ limit then 0 else 1) 0
      (afterModeWrite (min limit v.toNat != old) { s with par := p }))) := by
    rcases write with ⟨rfl, rfl, rfl, rfl⟩ | ⟨rfl, rfl, rfl, rfl⟩
    · exact exec_practiceModeWrite takes v
    · exact exec_partMaskWrite takes v
  refine ⟨fun still => ?unchanged, fun playing changed => ⟨modeChange { s with par := p }, ?changes⟩⟩
  case unchanged =>
    have unseen : (min limit v.toNat != old) = false ∨ s.pbe.state = .stopped :=
      still.symm.imp (fun same => by simp [same]) id
    rw [taken, afterModeWrite_unseen (by exact unseen)]
  case changes =>
    have seen : (min limit v.toNat != old) = true := by simp [changed]
    obtain ⟨prm, pbe, replies⟩ := modeChange_items { s with par := p }
    rw [taken, seen, afterModeWrite_seen (by exact playing), pbe, Pbe.released_eq]
    refine ⟨rfl, ?_, prm, rfl, replies, ?_⟩ <;> simp

end Sys2Proof.Machine

namespace Sys2Proof.Machine

/-! ## Strikes and expected notes at PRM (R160 to R166) -/

/-! ### Resolutions as reports (R161) -/

/-- A report is handed to LNK whatever PBE's items are. -/
theorem handReport_modPbe (r : Report) (f : Pbe → Pbe) (s : State) :
    (handReport r s).modPbe f = handReport r (s.modPbe f) := by
  have accepted : reportAccepted r (s.modPbe f) = reportAccepted r s := by cases r <;> rfl
  have enabled : classEnabled (s.modPbe f) (reportClass r) = classEnabled s (reportClass r) := by cases r <;> rfl
  simp only [handReport, accepted, enabled]
  (repeat' split) <;> rfl

section
variable (k : Key) (result : PracticeResult) (cause : PracticeCause) (index : Option Nat) (s : State)

/-- R161: an offset of some sweeps after the note is reported up to 8000. -/
theorem resolve_after (n : Nat) : resolve k result cause n index s =
    handReport (.practice k result cause (min 8000 n) index s.par.practiceMode s.now)
      (s.modPrm (countResult result)) := by
  have clamped : clampInt (-(Config.offsetMax : Int)) Config.offsetMax n = min 8000 (n : Int) := by
    simp only [clampInt, Config.offsetMax]
    omega
  rw [resolve, clamped]

/-- R161: an offset of some sweeps before the note is reported down to −8000. -/
theorem resolve_before (n : Nat) : resolve k result cause (-(n : Int)) index s =
    handReport (.practice k result cause (max (-8000) (-(n : Int))) index s.par.practiceMode s.now)
      (s.modPrm (countResult result)) := by
  have clamped : clampInt (-(Config.offsetMax : Int)) Config.offsetMax (-(n : Int)) = max (-8000) (-(n : Int)) := by
    simp only [clampInt, Config.offsetMax]
    omega
  rw [resolve, clamped]

end

/-! ### Strikes (R160, R166) -/

section
variable {k : Key} {s : State}

theorem practiceStrike_deaf (deaf : listening s = false) : practiceStrike k s = s := by
  simp [practiceStrike, deaf]

section
variable (listens : listening s = true) (fresh : ∀ r ∈ s.prm.recent, elapsed s.now r.sweep ≤ s.par.early)
include listens fresh

theorem practiceStrike_claimed {e : Expected} (claimed : s.prm.expected.find? (fun x => x.key == k) = some e) :
    practiceStrike k s = releaseIfEmpty
      (resolve k .hit .late (elapsed s.now e.noteSweep) (some e.index) (dropExpected k s)) := by
  unfold practiceStrike
  dsimp only
  rw [if_neg (by simp [listens]), examine_fresh fresh, claimed]

theorem practiceStrike_unclaimed (unclaimed : ∀ e ∈ s.prm.expected, e.key ≠ k) :
    practiceStrike k s = joinRecent k s := by
  have absent : (s.prm.expected.find? fun e => e.key == k) = none := by simpa using unclaimed
  unfold practiceStrike
  dsimp only
  rw [if_neg (by simp [listens]), examine_fresh fresh, absent]

end

theorem releaseIfEmpty_awaiting (stays : s.pbe.state ≠ .waiting ∨ s.prm.expected ≠ []) : releaseIfEmpty s = s := by
  have holds : ¬ ((s.prm.expected.isEmpty && s.pbe.state == .waiting) = true) := by
    rcases stays with moving | awaited
    · simp [moving]
    · simp [awaited]
  exact if_neg holds

theorem releaseIfEmpty_releases (waiting : s.pbe.state = .waiting) (empty : s.prm.expected = []) :
    releaseIfEmpty s = handReport (.play .running none s.pbe.source s.pbe.cursor .running none s.now)
      ((s.modPrm fun p => { p with waitTimer := none }).modPbe fun b => { b with state := .running }) := by
  have releases (t : State) (waits : t.pbe.state = .waiting) :
      waitRelease t = playReport .running (t.modPbe fun b => { b with state := .running }) := by
    simp only [waitRelease, waits]
  rw [releaseIfEmpty, if_pos (by simp [waiting, empty]), releases _ (by exact waiting), playReport_unsaved (by simp)]
  rfl

/-- R160, R166: a hit that leaves the list of no wait empty. -/
theorem practiceStrike_hits {e : Expected} (listens : listening s = true)
    (stays : s.pbe.state = .running ∨ s.prm.expected.filter (fun x => x.key != k) ≠ [])
    (fresh : ∀ r ∈ s.prm.recent, elapsed s.now r.sweep ≤ s.par.early)
    (claimed : s.prm.expected.find? (fun x => x.key == k) = some e) : practiceStrike k s =
      handReport (.practice k .hit .late (min 8000 (elapsed s.now e.noteSweep)) (some e.index) s.par.practiceMode s.now)
        { s with prm := { s.prm with
          expected := s.prm.expected.filter (fun x => x.key != k), hits := min 65535 (s.prm.hits + 1) } } := by
  have awaiting : s.pbe.state ≠ .waiting ∨ s.prm.expected.filter (fun x => x.key != k) ≠ [] :=
    stays.imp (fun running => by simp [running]) id
  rw [practiceStrike_claimed listens fresh claimed, resolve_after, releaseIfEmpty_awaiting]
  · rfl
  · simpa [countResult, dropExpected] using awaiting

/-- R166: the hit of the last awaited key releases the wait. -/
theorem practiceStrike_releases {e : Expected} (listens : listening s = true) (waiting : s.pbe.state = .waiting)
    (fresh : ∀ r ∈ s.prm.recent, elapsed s.now r.sweep ≤ s.par.early)
    (claimed : s.prm.expected.find? (fun x => x.key == k) = some e)
    (last : s.prm.expected.filter (fun x => x.key != k) = []) : practiceStrike k s =
      handReport (.play .running none s.pbe.source s.pbe.cursor .running none s.now)
        (handReport
          (.practice k .hit .late (min 8000 (elapsed s.now e.noteSweep)) (some e.index) s.par.practiceMode s.now)
          { s with
            pbe := { s.pbe with state := .running }
            prm := { s.prm with expected := [], waitTimer := none, hits := min 65535 (s.prm.hits + 1) } }) := by
  rw [practiceStrike_claimed listens fresh claimed, resolve_after,
    releaseIfEmpty_releases (by simpa using waiting) (by simpa [countResult, dropExpected] using last),
    handReport_modPrm, handReport_modPbe]
  simp only [handReport_frame]
  rw [← last]
  rfl

theorem practiceStrike_joins (listens : listening s = true)
    (fresh : ∀ r ∈ s.prm.recent, elapsed s.now r.sweep ≤ s.par.early) (unclaimed : ∀ e ∈ s.prm.expected, e.key ≠ k)
    (room : s.prm.recent.length < 8) :
    practiceStrike k s = { s with prm := { s.prm with recent := s.prm.recent ++ [⟨k, s.now⟩] } } := by
  rw [practiceStrike_unclaimed listens fresh unclaimed, joinRecent_room room]
  rfl

theorem practiceStrike_evicts {oldest : Recent} {rest : List Recent} (listens : listening s = true)
    (fresh : ∀ r ∈ s.prm.recent, elapsed s.now r.sweep ≤ s.par.early) (unclaimed : ∀ e ∈ s.prm.expected, e.key ≠ k)
    (entries : s.prm.recent = oldest :: rest) (full : 7 ≤ rest.length) : practiceStrike k s =
      handReport (.practice oldest.key .wrong .evicted (min 8000 (elapsed s.now oldest.sweep)) none
          s.par.practiceMode s.now)
        { s with prm := { s.prm with
          recent := rest ++ [⟨k, s.now⟩], wrongs := min 65535 (s.prm.wrongs + 1) } } := by
  rw [practiceStrike_unclaimed listens fresh unclaimed, joinRecent_full entries full, resolveWrong]
  simp only [State.modPrm_now]
  rw [resolve_after, handReport_modPrm]
  rfl

/-! ### Expected notes (R162, R164) -/

theorem latestRecent_eq {older newer : List Recent} {latest : Recent} (key : latest.key = k)
    (others : ∀ r ∈ newer, r.key ≠ k) : latestRecent k (older ++ latest :: newer) = some latest := by
  have absent : (newer.reverse.find? fun r => r.key == k) = none := by simpa using others
  simp [latestRecent, List.find?_append, absent, key]

section
variable {index : Nat} (fresh : ∀ r ∈ s.prm.recent, elapsed s.now r.sweep ≤ s.par.early)
include fresh

theorem expectedNote_mute_struck {e : Recent} (mode : s.par.practiceMode = 1)
    (struck : latestRecent k s.prm.recent = some e) : expectedNote k index s = creditEarly k index e s := by
  unfold expectedNote expectedMute
  dsimp only
  rw [if_pos mode, examine_fresh fresh, struck]

theorem expectedNote_mute_unstruck (mode : s.par.practiceMode = 1) (unstruck : ∀ r ∈ s.prm.recent, r.key ≠ k) :
    expectedNote k index s =
      joinExpected k index (some (s.now + BitVec.ofNat 32 s.par.late)) (missEvicted (missRepeated k s)) := by
  unfold expectedNote expectedMute
  dsimp only
  rw [if_pos mode, examine_fresh fresh, (latestRecent_eq_none_iff k _).2 unstruck]

theorem expectedNote_wait_struck {e : Recent} (mode : s.par.practiceMode = 2) (new : k ∉ s.prm.groupKeys)
    (struck : latestRecent k s.prm.recent = some e) : expectedNote k index s =
      creditEarly k index e (s.modPrm fun p => { p with groupKeys := p.groupKeys ++ [k] }) := by
  unfold expectedNote expectedWait
  dsimp only
  rw [if_neg (by simp [mode]), if_pos mode, examine_fresh fresh, ite_self, if_neg (by simpa using new),
    State.modPrm_prm, struck]

/-- R164: a key that is new to its group and was not struck is awaited, or is a chord overflow. -/
theorem expectedNote_wait_unstruck (mode : s.par.practiceMode = 2) (new : k ∉ s.prm.groupKeys)
    (unstruck : ∀ r ∈ s.prm.recent, r.key ≠ k) : expectedNote k index s =
      if s.prm.expected.length < 10 then
        joinExpected k index none (s.modPrm fun p => { p with groupKeys := p.groupKeys ++ [k] })
      else guideNote k (s.modPrm fun p => { p with groupKeys := p.groupKeys ++ [k] }) := by
  unfold expectedNote expectedWait
  dsimp only
  rw [if_neg (by simp [mode]), if_pos mode, examine_fresh fresh, ite_self, if_neg (by simpa using new),
    State.modPrm_prm, (latestRecent_eq_none_iff k _).2 unstruck]
  rfl

end

/-- R164: a key that its group holds already is merged. -/
theorem expectedNote_merged {index : Nat} (mode : s.par.practiceMode = 2) (member : k ∈ s.prm.groupKeys) :
    expectedNote k index s = s := by
  have opened : ¬ s.prm.groupKeys.isEmpty = true := by simpa using List.ne_nil_of_mem member
  unfold expectedNote expectedWait
  dsimp only
  rw [if_neg (by simp [mode]), if_pos mode, if_neg opened, if_pos (by simpa using member)]

/-- R162, R164: a note credited early, as one report. -/
theorem creditEarly_eq (index : Nat) (e : Recent) : creditEarly k index e s =
    handReport (.practice k .hit .early (max (-8000) (-(elapsed s.now e.sweep : Int))) (some index)
        s.par.practiceMode s.now)
      { s with prm := { s.prm with
        recent := s.prm.recent.filter (fun r => r.key != k), hits := min 65535 (s.prm.hits + 1) } } := by
  rw [creditEarly, resolve_before]
  rfl

/-- R162: a MISS of the list, then the note that joins it, as one report. -/
theorem joinExpected_resolveMiss (index : Nat) (deadline : Option Sweep) (cause : PracticeCause) (e : Expected) :
    joinExpected k index deadline (resolveMiss cause e s) =
      handReport (.practice e.key .miss cause (min 8000 (elapsed s.now e.noteSweep)) (some e.index)
          s.par.practiceMode s.now)
        { s with prm := { s.prm with
          expected := s.prm.expected ++ [⟨k, s.now, index, deadline⟩], misses := min 65535 (s.prm.misses + 1) } } := by
  rw [joinExpected, resolveMiss, resolve_after, handReport_modPrm]
  simp only [handReport_frame]
  rfl

end

/-- Settles O40: each clause is one branch of the strike or of the expected note, with nothing stale to examine. -/
theorem practiceHitsAndExpectations : Obligations.PracticeHitsAndExpectations := by
  refine ⟨fun k e s => practiceStrike_hits, fun k index s mode recent other room => ?muteJoins,
    fun k index s mode new recent room => ?waitJoins, fun k e s => practiceStrike_releases, fun k s =>
      ⟨practiceStrike_deaf, fun listens fresh unclaimed => ⟨practiceStrike_joins listens fresh unclaimed,
        fun oldest rest => practiceStrike_evicts listens fresh unclaimed⟩⟩,
    fun k index older newer latest group s fresh entries key others mode => ?credits,
    fun k index s mode recent => ⟨fun e older room => ?repeated, fun oldest rest entries full other => ?evicted⟩,
    fun k index s mode => ⟨expectedNote_merged mode, fun new recent full => ?overflow⟩⟩
  case muteJoins =>
    rw [expectedNote_mute_unstruck (fun r struck => (recent r struck).1) mode fun r struck => (recent r struck).2,
      missRepeated_none other, missEvicted_room room]
    rfl
  case waitJoins =>
    rw [expectedNote_wait_unstruck (fun r struck => (recent r struck).1) mode new fun r struck => (recent r struck).2,
      if_pos room]
    rfl
  case credits =>
    have struck : latestRecent k s.prm.recent = some latest := by rw [entries, latestRecent_eq key others]
    rcases mode with ⟨mute, rfl⟩ | ⟨wait, new, rfl⟩
    · rw [expectedNote_mute_struck fresh mute struck, creditEarly_eq]
    · rw [expectedNote_wait_struck fresh wait new struck, creditEarly_eq]
      rfl
  case repeated =>
    have key : e.key = k := by simpa using List.find?_some older
    rw [expectedNote_mute_unstruck (fun r struck => (recent r struck).1) mode fun r struck => (recent r struck).2,
      missRepeated_some older, missEvicted_room (by simpa [resolveMiss_prm, countResult, dropExpected] using room),
      joinExpected_resolveMiss, key, (dropExpected_frame k s).2.1, mode]
    rfl
  case evicted =>
    rw [expectedNote_mute_unstruck (fun r struck => (recent r struck).1) mode fun r struck => (recent r struck).2,
      missRepeated_none other, missEvicted_full entries full, joinExpected_resolveMiss, State.modPrm_par, mode]
    rfl
  case overflow =>
    rw [expectedNote_wait_unstruck (fun r struck => (recent r struck).1) mode new fun r struck => (recent r struck).2,
      if_neg (not_lt.2 full)]
    rfl

end Sys2Proof.Machine

namespace Sys2Proof.Machine

/-! ## PRM's part of a sweep (R159, R163, R167) -/

/-! ### Guide notes keep their holder (R69, R70) -/

theorem SameHolders.voiceDrop (k : Key) (level : Nat) (src : NoteSource) (s : State) :
    SameHolders s (voiceDrop k level src s) := by
  unfold Machine.voiceDrop
  dsimp only
  split
  · exact of_table _ _ rfl
  · exact of_table _ _ (by simp)

theorem SameHolders.noteOn (k : Key) (level : Nat) (src : NoteSource) (s : State) :
    SameHolders s (noteOn k level src s) := by
  unfold Machine.noteOn
  dsimp only
  refine trans (trans (setSound k { s.sound k with offPending := false } s rfl rfl) ?_) (releaseEval k _)
  split
  · exact trans (setSound k _ _ (by rfl) (by rfl)) (voiceEnqueue _ _)
  · exact voiceDrop k level src _

/-- R70: a guide note sets the playback holder of its key and clears none. -/
theorem guideNote_playbackHolder (k j : Key) (s : State) : ((guideNote k s).sound j).playbackHolder =
    if j = k then true else (s.sound j).playbackHolder := by
  rw [guideNote, (SameHolders.noteOn k _ _ _ j).2]
  split
  · next same => rw [same, sound_setSound_self]
  · next other => rw [sound_setSound_ne other]

theorem missTimeout_playbackHolder (e : Expected) (j : Key) (s : State) : ((missTimeout e s).sound j).playbackHolder =
    if j = e.key then true else (s.sound j).playbackHolder := by
  rw [missTimeout, guideNote_playbackHolder, State.sound, (resolveMiss_frame .timeout e s).2.2.2.2.2.2.1]
  rfl

/-- R167: the guide notes of a list hold every key of it. -/
theorem foldl_missTimeout_playbackHolder (l : List Expected) (j : Key) (s : State)
    (holds : (∃ e ∈ l, e.key = j) ∨ (s.sound j).playbackHolder = true) :
    ((l.foldl (fun t e => missTimeout e t) s).sound j).playbackHolder = true := by
  induction l generalizing s with
  | nil => simpa using holds
  | cons e l ih =>
    refine ih _ ?_
    rw [missTimeout_playbackHolder]
    rcases holds with ⟨x, entry, key⟩ | held
    · rcases List.mem_cons.1 entry with rfl | later
      · exact .inr (if_pos key.symm)
      · exact .inl ⟨x, later, key⟩
    · exact .inr (by split <;> simp [held])

theorem expireWait_playbackHolder {e : Expected} {s : State} (awaited : e ∈ s.prm.expected) :
    ((expireWait s).sound e.key).playbackHolder = true := by
  have voiced := foldl_missTimeout_playbackHolder s.prm.expected e.key
    (s.modPrm fun p => { p with expected := [], waitTimer := none }) (.inl ⟨e, awaited, rfl⟩)
  rw [State.sound] at voiced
  rw [expireWait, State.sound, (waitRelease_frame _).2.2.2.2.2.2.1]
  exact voiced

/-! ### PRM's sweep event -/

theorem deadlineDue_iff (s : State) (e : Expected) :
    deadlineDue s e = true ↔ ∃ d, e.deadline = some d ∧ s.now = d + 1 := by
  unfold deadlineDue
  split
  · next d limited => simp [limited]
  · next unlimited => simp [unlimited]

/-- PRM after the examination and the deadline expiries, before the wait timer's. -/
theorem expiries_prm (s : State) : (expireDeadlines (examine s)).prm = { s.prm with
    recent := s.prm.recent.filter fun r => !stale s r
    wrongs := saturatingSucc^[(s.prm.recent.filter (stale s)).length] s.prm.wrongs
    expected := s.prm.expected.filter fun e => !deadlineDue s e
    misses := saturatingSucc^[(s.prm.expected.filter (deadlineDue s)).length] s.prm.misses } := by
  have due : deadlineDue (examine s) = deadlineDue s := by
    funext e
    simp only [deadlineDue, examine_frame]
  rw [expireDeadlines_prm, due, examine_prm]

theorem waitTimerDue_iff (s : State) :
    waitTimerDue (expireDeadlines (examine s)) = true ↔ s.prm.waitTimer = some s.now := by
  simp [waitTimerDue, expiries_prm]

section
variable {s : State} (listens : listening s = true)
include listens

theorem practiceSweep_timed (due : s.prm.waitTimer = some s.now) :
    practiceSweep s = expireWait (expireDeadlines (examine s)) := by
  simp [practiceSweep, listens, (waitTimerDue_iff s).2 due]

theorem practiceSweep_untimed (undue : s.prm.waitTimer ≠ some s.now) :
    practiceSweep s = expireDeadlines (examine s) := by
  have no : waitTimerDue (expireDeadlines (examine s)) = false := Bool.eq_false_iff.2 (mt (waitTimerDue_iff s).1 undue)
  simp [practiceSweep, listens, no]

/-- R159: whatever else expires, PRM's sweep event drops the stale strikes and counts each WRONG. -/
theorem practiceSweep_recent : (practiceSweep s).prm.recent = s.prm.recent.filter (fun r => !stale s r) ∧
    (practiceSweep s).prm.wrongs = saturatingSucc^[(s.prm.recent.filter (stale s)).length] s.prm.wrongs ∧
    (practiceSweep s).prm.hits = s.prm.hits := by
  by_cases due : s.prm.waitTimer = some s.now
  · rw [practiceSweep_timed listens due, expireWait_prm, expiries_prm]
    exact ⟨rfl, rfl, rfl⟩
  · rw [practiceSweep_untimed listens due, expiries_prm]
    exact ⟨rfl, rfl, rfl⟩

/-- R167: with the wait timer every expected note is a MISS, at its deadline or at the timer's expiry. -/
theorem practiceSweep_timed_misses (due : s.prm.waitTimer = some s.now) :
    (practiceSweep s).prm.misses = saturatingSucc^[s.prm.expected.length] s.prm.misses := by
  have all := List.length_eq_length_filter_add (l := s.prm.expected) (deadlineDue s)
  rw [practiceSweep_timed listens due, expireWait_prm, expiries_prm, all, Nat.add_comm, Function.iterate_add_apply]

end

/-! ### What PRM's sweep event finds (R135, log 1) -/

/-- PBE's sweep event performs no entry in this sweep. -/
def PerformsNothing (s : State) : Prop :=
  s.pbe.state ≠ .running ∨ s.pbe.source = .score ∧ s.pbe.acc + s.pbe.tempo * s.par.tempoScale < 500000

section
variable {s : State} (plain : s.early = [])
include plain

theorem beforePractice_plain : beforePractice s = recorderSweep (playbackSweep (beginSweep s)) := by
  simp [beforePractice, beforeRecorder, samplesFirst, beforePlayback, plain]

theorem startSweep_practice : startSweep s = practiceSweep (beforePractice s) := by
  rw [startSweep_plain plain, beforePractice_plain plain]

/-- What PRM's sweep event reads of the state before the sweep. -/
theorem beforePractice_items (nothing : PerformsNothing s) : (beforePractice s).par = s.par ∧
    (beforePractice s).prm = s.prm ∧ (beforePractice s).now = s.now + 1 ∧
    (beforePractice s).pbe.state = s.pbe.state := by
  have now : (beginSweep s).now = s.now + 1 := (beginSweep_sweep_leds s).1
  obtain ⟨-, par, pbe, prm, -⟩ := beginSweep_keeps s
  have played : (playbackSweep (beginSweep s)).prm = s.prm ∧
      (playbackSweep (beginSweep s)).pbe.state = s.pbe.state := by
    by_cases running : s.pbe.state = .running
    · obtain ⟨score, below⟩ := nothing.resolve_left (not_not.2 running)
      rw [playbackSweep_gain (by rw [pbe]; exact running) (by rw [pbe]; exact score)
        (by rw [pbe, par]; exact below)]
      simp [accumulate]
    · rw [playbackSweep_still (by rw [pbe]; exact running), prm, pbe]
      exact ⟨rfl, rfl⟩
  rw [beforePractice_plain plain]
  simp [played, now]

end

section
variable {s : State} (runs : s.Runs)
include runs

theorem exec_staleStrikeAged : exec .staleStrikeAged s =
    .next (linkChoose (if agedStarts s = true then startSweep s else s)) := partEvent_runs runs _

theorem exec_deadlineExpiry : exec .deadlineExpiry s =
    .next (linkChoose (if deadlineStarts s = true then startSweep s else s)) := partEvent_runs runs _

theorem exec_waitTimerExpiry : exec .waitTimerExpiry s =
    .next (linkChoose (if waitTimerStarts s = true then startSweep s else s)) := partEvent_runs runs _

/-- R157: where PRM does not listen none of the three comes about. -/
theorem exec_practice_deaf (deaf : listening (beforePractice s) = false) :
    exec .staleStrikeAged s = .next (linkChoose s) ∧ exec .deadlineExpiry s = .next (linkChoose s) ∧
      exec .waitTimerExpiry s = .next (linkChoose s) := by
  rw [exec_staleStrikeAged runs, exec_deadlineExpiry runs, exec_waitTimerExpiry runs, agedStarts, deadlineStarts,
    waitTimerStarts, deaf]
  exact ⟨rfl, rfl, rfl⟩

end

/-- What PRM's sweep event finds while it listens and PBE's performs no entry: its own items as they were, one sweep
later. -/
structure ListensOn (s : State) : Prop where
  listens : listening (beforePractice s) = true
  prm : (beforePractice s).prm = s.prm
  state : (beforePractice s).pbe.state = s.pbe.state
  now : (beforePractice s).now = s.now + 1
  stale : stale (beforePractice s) = fun r => decide (s.par.early < elapsed (s.now + 1) r.sweep)
  due : deadlineDue (beforePractice s) = fun e => decide (e.deadline = some s.now)
  sweep : startSweep s = practiceSweep (beforePractice s)

namespace ListensOn

variable {s : State}

theorem of_mode (plain : s.early = []) (mode : s.par.practiceMode = 1 ∨ s.par.practiceMode = 2)
    (playing : s.pbe.state = .waiting ∨ s.pbe.state = .running ∧ s.pbe.source = .score ∧
      s.pbe.acc + s.pbe.tempo * s.par.tempoScale < 500000) : ListensOn s := by
  obtain ⟨par, prm, now, state⟩ := beforePractice_items plain
    (playing.imp (fun waiting => by simp [waiting]) fun ⟨_, score, below⟩ => ⟨score, below⟩)
  refine ⟨?_, prm, state, now, ?_, ?_, startSweep_practice plain⟩
  · rw [listening_iff, par, state]
    exact ⟨mode, playing.symm.imp And.left id⟩
  · funext r
    rw [Machine.stale, par, now]
  · funext e
    rw [Bool.eq_iff_iff, deadlineDue_iff, now, decide_eq_true_iff]
    constructor
    · rintro ⟨d, limited, due⟩
      rw [limited, add_right_cancel due]
    · exact fun limited => ⟨s.now, limited, rfl⟩

variable (on : ListensOn s) (runs : s.Runs)
include on runs

/-- R159: a sweep start with stale strikes. -/
theorem aged (old : ∃ e ∈ s.prm.recent, s.par.early < elapsed (s.now + 1) e.sweep) : ∃ t,
    exec .staleStrikeAged s = .next (linkChoose t) ∧ exec .sweep s = .next (linkChoose t) ∧
    t.prm.recent = s.prm.recent.filter (fun e => elapsed (s.now + 1) e.sweep ≤ s.par.early) ∧
    t.prm.wrongs = min 65535
      (s.prm.wrongs + s.prm.recent.countP fun e => decide (s.par.early < elapsed (s.now + 1) e.sweep)) ∧
    t.prm.hits = s.prm.hits := by
  have starts : agedStarts s = true := by simpa [agedStarts, on.listens, on.prm, on.stale] using old
  have counts : 0 < s.prm.recent.countP fun e => decide (s.par.early < elapsed (s.now + 1) e.sweep) :=
    List.countP_pos_iff.2 (by simpa using old)
  obtain ⟨recent, wrongs, hits⟩ := practiceSweep_recent on.listens
  refine ⟨startSweep s, by rw [exec_staleStrikeAged runs, if_pos starts], exec_sweep runs, ?_⟩
  rw [on.sweep, recent, wrongs, hits, on.prm, on.stale, ← List.countP_eq_length_filter, saturatingSucc_iterate counts]
  exact ⟨List.filter_congr fun e _ => by simp only [← decide_not, not_lt], rfl, rfl⟩

/-- R163: a sweep start with deadlines that have passed, the wait timer running on. -/
theorem expired (passed : ∃ e ∈ s.prm.expected, e.deadline = some s.now)
    (untimed : s.prm.waitTimer ≠ some (s.now + 1)) : ∃ t,
    exec .deadlineExpiry s = .next (linkChoose t) ∧ exec .sweep s = .next (linkChoose t) ∧
    t.prm.expected = s.prm.expected.filter (fun e => e.deadline ≠ some s.now) ∧
    t.prm.misses = min 65535 (s.prm.misses + s.prm.expected.countP fun e => decide (e.deadline = some s.now)) ∧
    t.prm.hits = s.prm.hits := by
  have starts : deadlineStarts s = true := by simpa [deadlineStarts, on.listens, on.prm, on.due] using passed
  have counts : 0 < s.prm.expected.countP fun e => decide (e.deadline = some s.now) :=
    List.countP_pos_iff.2 (by simpa using passed)
  refine ⟨startSweep s, by rw [exec_deadlineExpiry runs, if_pos starts], exec_sweep runs, ?_⟩
  rw [on.sweep, practiceSweep_untimed on.listens (by rw [on.prm, on.now]; exact untimed), expiries_prm, on.prm, on.due,
    ← List.countP_eq_length_filter, saturatingSucc_iterate counts]
  exact ⟨List.filter_congr fun e _ => by simp only [← decide_not, ne_eq], rfl, rfl⟩

/-- R167: a sweep start at which the wait timer expires. -/
theorem timedOut (waiting : s.pbe.state = .waiting) (awaited : s.prm.expected ≠ [])
    (timed : s.prm.waitTimer = some (s.now + 1)) : ∃ t,
    exec .waitTimerExpiry s = .next (linkChoose t) ∧ exec .sweep s = .next (linkChoose t) ∧
    t.prm.expected = [] ∧ t.prm.waitTimer = none ∧ t.pbe.state = .running ∧
    t.prm.misses = min 65535 (s.prm.misses + s.prm.expected.length) ∧
    ∀ e ∈ s.prm.expected, e.deadline = none → (t.sound e.key).playbackHolder = true := by
  have starts : waitTimerStarts s = true := by
    simp [waitTimerStarts, on.listens, waitTimerDue, on.prm, on.now, timed]
  have runsOut : (beforePractice s).prm.waitTimer = some (beforePractice s).now := by rw [on.prm, on.now]; exact timed
  have misses := practiceSweep_timed_misses on.listens runsOut
  rw [on.prm, saturatingSucc_iterate (List.length_pos_iff.2 awaited)] at misses
  refine ⟨startSweep s, by rw [exec_waitTimerExpiry runs, if_pos starts], exec_sweep runs, ?_⟩
  rw [on.sweep]
  refine ⟨?_, ?_, ?_, misses, fun e entry unlimited => ?_⟩ <;> rw [practiceSweep_timed on.listens runsOut]
  · rw [expireWait_prm]
  · rw [expireWait_prm]
  · rw [expireWait_pbe, Pbe.released_eq]
    simp [on.state, waiting]
  · refine expireWait_playbackHolder ?_
    rw [expiries_prm, on.prm]
    exact List.mem_filter.2 ⟨entry, by simp [on.due, unlimited]⟩

end ListensOn

/-- Settles O39: PRM's sweep event finds its lists as they were, one sweep later, or does not listen. -/
theorem practiceSweepResolves : Obligations.PracticeSweepResolves := by
  refine ⟨fun s runs plain silent still => exec_practice_deaf runs (Bool.eq_false_iff.2 fun listens => ?_),
    fun s runs plain mode playing => ?_⟩
  · obtain ⟨par, -, -, state⟩ := beforePractice_items plain (.inl still)
    rw [listening_iff, par, state] at listens
    obtain ⟨on, playing⟩ := listens
    rcases silent with stopped | paused | off
    · simp [stopped] at playing
    · simp [paused] at playing
    · simp [off] at on
  · have on := ListensOn.of_mode plain mode playing
    exact ⟨on.aged runs, on.expired runs, on.timedOut runs⟩

end Sys2Proof.Machine

namespace Sys2Proof.Machine

/-! ## ARM, STOP_CAPTURE and CAPTURE_CLEAR (R175, R181, R183) -/

section
variable {s : State}

/-! ### ARM (R175) -/

theorem ownArm_busy (mode : Byte) (playing : s.pbe.state ≠ .stopped) (take : s.pbe.source = .take) :
    ownArm mode s = answerRefused .busy s :=
  if_pos ((playsFrom_iff s .take).2 ⟨playing, take⟩)

section
variable (free : ¬ (s.pbe.state ≠ .stopped ∧ s.pbe.source = .take))
include free

theorem ownArm_badIndex {mode : Byte} (out : 1 < mode.toNat) : ownArm mode s = answerRefused .badIndex s := by
  have notNew : mode ≠ 0 := by rintro rfl; exact absurd out (by decide)
  have notContinue : mode ≠ 1 := by rintro rfl; exact absurd out (by decide)
  rw [ownArm, if_neg (mt (playsFrom_iff s .take).1 free), if_neg notNew, if_neg notContinue]

/-- R175: with mode NEW the take begins in an emptied ring. -/
theorem ownArm_new :
    ownArm 0 s = answerOk { s with tkr := ⟨.armed, 0, 0, 0, none, none, 0⟩ } ([1] ++ field2 0) := by
  rw [ownArm, if_neg (mt (playsFrom_iff s .take).1 free), if_pos rfl]
  rfl

/-- R175: with mode CONTINUE the take begins behind the entries the ring holds. -/
theorem ownArm_continue :
    ownArm 1 s = answerOk { s with tkr := { s.tkr with state := .armed, reference := none, armedSync := none } }
      ([1] ++ field2 s.tkr.count) := by
  rw [ownArm, if_neg (mt (playsFrom_iff s .take).1 free), if_neg (by decide), if_pos rfl]
  rfl

end

/-! ### STOP_CAPTURE (R181) -/

theorem ownStopCapture_idle (idle : s.tkr.state = .idle) :
    ownStopCapture s = answerOk s (field2 s.tkr.count) := by
  rw [ownStopCapture, if_pos idle]

theorem ownStopCapture_ends (busy : s.tkr.state ≠ .idle) :
    ownStopCapture s = answerOk { s with tkr := { s.tkr with state := .idle, reference := none, armedSync := none } }
      (field2 s.tkr.count) := by
  rw [ownStopCapture, if_neg busy]
  rfl

/-! ### CAPTURE_CLEAR (R183) -/

/-- R183: the ring is in use, by the recorder or by the playback of the take. -/
theorem ringInUse_iff (s : State) : (s.tkr.state != .idle || playsFrom s .take) = true ↔
    s.tkr.state ≠ .idle ∨ s.pbe.state ≠ .stopped ∧ s.pbe.source = .take := by
  rw [Bool.or_eq_true, bne_iff_ne, playsFrom_iff]

theorem ownCaptureClear_busy (used : s.tkr.state ≠ .idle ∨ s.pbe.state ≠ .stopped ∧ s.pbe.source = .take) :
    ownCaptureClear s = answerRefused .busy s :=
  if_pos ((ringInUse_iff s).2 used)

theorem ownCaptureClear_empties (idle : s.tkr.state = .idle)
    (free : ¬ (s.pbe.state ≠ .stopped ∧ s.pbe.source = .take)) :
    ownCaptureClear s =
      answerOk { s with tkr := { s.tkr with count := 0, oldest := 0, writeIndex := 0, overwrites := 0 } } [] := by
  have unused : ¬ (s.tkr.state ≠ .idle ∨ s.pbe.state ≠ .stopped ∧ s.pbe.source = .take) :=
    not_or.2 ⟨not_not.2 idle, free⟩
  rw [ownCaptureClear, if_neg (mt (ringInUse_iff s).1 unused)]
  rfl

end

/-- Settles O28: each command is a taken command whose owner's answer is one of the above. -/
theorem armStopAndClearCapture : Obligations.ArmStopAndClearCapture := by
  refine ⟨fun mode s takes => ⟨?armBusy, fun free => ⟨?armBadIndex, ?armNew, ?armContinue⟩⟩,
    fun s takes => ⟨?stopIdle, ?stopEnds⟩, fun s takes => ⟨?clearBusy, ?clearEmpties⟩⟩
  case armBusy => exact fun playing take => command_takes takes (ownArm_busy mode playing take)
  case armBadIndex => exact fun out => command_takes takes (ownArm_badIndex free out)
  case armNew =>
    rintro rfl
    exact command_takes takes (ownArm_new free)
  case armContinue =>
    rintro rfl
    exact command_takes takes (ownArm_continue free)
  case stopIdle => exact fun idle => command_takes takes (ownStopCapture_idle idle)
  case stopEnds => exact fun busy => command_takes takes (ownStopCapture_ends busy)
  case clearBusy => exact fun used => command_takes takes (ownCaptureClear_busy used)
  case clearEmpties => exact fun idle free => command_takes takes (ownCaptureClear_empties idle free)

end Sys2Proof.Machine

namespace Sys2Proof.Machine

/-! ## The GAP of a take (R178, R180) -/

/-! ### TKR's sweep event -/

/-- R178: a GAP is due where the reference sweep of a take in RECORDING is 4,095 sweeps old. -/
theorem gapDue_iff (s : State) : gapDue s = true ↔
    s.tkr.state = .recording ∧ ∃ r, s.tkr.reference = some r ∧ elapsed s.now r = 4095 := by
  unfold gapDue
  cases s.tkr.reference <;> simp [Config.gapSweeps]

/-- R177, R178: a due GAP is appended as a player event in RECORDING is. -/
theorem recorderSweep_due {s : State} (due : gapDue s = true) : recorderSweep s = playerEvent kindGap 0 0 s := by
  rw [playerEvent_recording ((gapDue_iff s).1 due).1]
  exact if_pos due

/-- R174, R202: the bytes of a GAP entry. -/
theorem takeBytes_gap : takeBytes 4095 kindGap 0 0 = ⟨0xFF, 0xF8, 0, 0⟩ := by decide

/-- PMEM with a GAP entry at the write index. -/
def gapMemory (s : State) : Memory := takeMemory 4095 kindGap 0 0 s

theorem readEntry_gapMemory {s : State} (wf : KeepsMemory s) :
    readEntry (gapMemory s) (scoreSize s + s.tkr.writeIndex) = ⟨0xFF, 0xF8, 0, 0⟩ := by
  rw [gapMemory, takeMemory, readEntry_writeEntry_self wf, takeBytes_gap]

theorem readEntry_gapMemory_ne (s : State) (i : Nat) (other : i ≠ scoreSize s + s.tkr.writeIndex) :
    readEntry (gapMemory s) i = readEntry s.mem i := readEntry_takeMemory_ne _ _ _ _ s i other

/-- TKR and PMEM after an append in RING mode: a full ring loses its oldest entry. -/
theorem recorderSweep_ring {s : State} (due : gapDue s = true) (ring : s.par.takeMode = 0)
    (within : s.tkr.count ≤ takeRingSize s) :
    (recorderSweep s).mem = gapMemory s ∧ (recorderSweep s).tkr = { s.tkr with
      writeIndex := (s.tkr.writeIndex + 1) % takeRingSize s
      reference := some s.now
      count := min (takeRingSize s) (s.tkr.count + 1)
      oldest := if s.tkr.count < takeRingSize s then s.tkr.oldest else (s.tkr.oldest + 1) % takeRingSize s
      overwrites := if s.tkr.count < takeRingSize s then s.tkr.overwrites else min 65535 (s.tkr.overwrites + 1) } := by
  obtain ⟨recording, r, reference, age⟩ := (gapDue_iff s).1 due
  rw [recorderSweep_due due, playerEvent_recording recording, gapMemory, ← age]
  rcases Nat.lt_or_ge s.tkr.count (takeRingSize s) with room | full
  · rw [appendTimed_room reference recording (.inr ⟨room, ring⟩), if_pos room, if_pos room,
      Nat.min_eq_right (by omega)]
    exact ⟨rfl, rfl⟩
  · have stays : min (takeRingSize s) (s.tkr.count + 1) = s.tkr.count := by omega
    rw [appendTimed_overwrites reference recording full ring, if_neg full.not_gt, if_neg full.not_gt, stays]
    exact ⟨rfl, rfl⟩

/-- TKR and PMEM after the GAP that fills the ring in ONE-SHOT mode. -/
theorem recorderSweep_fills {s : State} (due : gapDue s = true) (oneShot : s.par.takeMode = 1)
    (last : s.tkr.count + 1 = takeRingSize s) :
    (recorderSweep s).mem = gapMemory s ∧ (recorderSweep s).tkr = { s.tkr with
      state := .full, reference := none, count := s.tkr.count + 1
      writeIndex := (s.tkr.writeIndex + 1) % takeRingSize s } := by
  obtain ⟨recording, r, reference, age⟩ := (gapDue_iff s).1 due
  rw [recorderSweep_due due, playerEvent_fills recording reference last oneShot, gapMemory, ← age]
  simp

/-- TKR and PMEM where a GAP falls due at a full ring in ONE-SHOT mode. -/
theorem recorderSweep_refuses {s : State} (due : gapDue s = true) (oneShot : s.par.takeMode = 1)
    (full : takeRingSize s ≤ s.tkr.count) :
    (recorderSweep s).mem = s.mem ∧
      (recorderSweep s).tkr = { s.tkr with state := .full, reference := none } := by
  obtain ⟨recording, r, reference, -⟩ := (gapDue_iff s).1 due
  rw [recorderSweep_due due, playerEvent_refuses recording reference full oneShot]
  simp

/-! ### What TKR's sweep event reads -/

/-- Two states in which TKR's operations read the same. -/
structure SameTake (a b : State) : Prop where
  tkr : a.tkr = b.tkr
  mem : a.mem = b.mem
  par : a.par = b.par
  now : a.now = b.now

namespace SameTake

variable {a b : State} (same : SameTake a b)
include same

theorem ringSize : takeRingSize a = takeRingSize b := by rw [takeRingSize, takeRingSize, same.par]

theorem modTkr (f : Tkr → Tkr) : SameTake (a.modTkr f) (b.modTkr f) :=
  ⟨congrArg f same.tkr, same.mem, same.par, same.now⟩

theorem captureFull : SameTake (captureFull a) (captureFull b) := by
  constructor <;> simp [Machine.captureFull, same.tkr, same.mem, same.par, same.now]

theorem writeTake (e : Entry) : SameTake (writeTake e a) (writeTake e b) := by
  obtain ⟨tkr, mem, par, now⟩ := same
  constructor <;> simp [Machine.writeTake, takeRingSize, regionSize, tkr, mem, par, now]

theorem appendTake (e : Entry) : SameTake (appendTake e a) (appendTake e b) := by
  have written := same.writeTake e
  have more := written.modTkr fun t => { t with count := t.count + 1 }
  unfold Machine.appendTake
  dsimp only
  rw [same.tkr, same.par, same.ringSize, more.tkr]
  split_ifs
  · exact more.captureFull
  · exact more
  · exact same.captureFull
  · exact written.modTkr _

theorem appendTimed (kind first second : Nat) :
    SameTake (appendTimed kind first second a) (appendTimed kind first second b) := by
  have appended := same.appendTake
  unfold Machine.appendTimed
  dsimp only
  rw [same.tkr, same.now, (appended _).tkr]
  split_ifs
  · exact (appended _).modTkr _
  · exact appended _

theorem gapDue : gapDue a = gapDue b := by rw [Machine.gapDue, Machine.gapDue, same.tkr, same.now]

theorem recorderSweep : SameTake (recorderSweep a) (recorderSweep b) := by
  unfold Machine.recorderSweep
  rw [same.gapDue]
  split_ifs
  · exact same.appendTimed _ _ _
  · exact same

end SameTake

/-! ### What TKR's sweep event finds (R178, log 3) -/

/-- The part with the number of the sweep that begins. -/
def atNextSweep (s : State) : State := { s with scn := { s.scn with sweep := s.scn.sweep + 1 } }

@[simp] theorem atNextSweep_frame (s : State) : (atNextSweep s).tkr = s.tkr ∧ (atNextSweep s).mem = s.mem ∧
    (atNextSweep s).par = s.par := ⟨rfl, rfl, rfl⟩

section
variable {s : State} (plain : s.early = [])
include plain

/-- Neither the end of a sweep nor PBE's sweep event reaches TKR or PMEM. -/
theorem beforeRecorder_sameTake : SameTake (beforeRecorder s) (atNextSweep s) := by
  have now : (beginSweep s).now = (atNextSweep s).now := (beginSweep_sweep_leds s).1
  rw [beforeRecorder_plain plain]
  constructor <;> simp [now]

/-- PRM's sweep event reaches neither. -/
theorem startSweep_recorder : (startSweep s).mem = (recorderSweep (atNextSweep s)).mem ∧
    (startSweep s).tkr = (recorderSweep (atNextSweep s)).tkr := by
  have same := (beforeRecorder_sameTake plain).recorderSweep
  rw [startSweep_plain plain, ← same.mem, ← same.tkr, beforeRecorder_plain plain]
  simp

theorem gapStarts_eq : gapStarts s = gapDue (atNextSweep s) := (beforeRecorder_sameTake plain).gapDue

end

section
variable {s : State} (runs : s.Runs) (plain : s.early = [])
include runs plain

/-- R178: TAKE_GAP where a GAP falls due in the sweep that begins. -/
theorem exec_takeGap_due (due : gapDue (atNextSweep s) = true) :
    exec .takeGap s = .next (linkChoose (startSweep s)) :=
  (partEvent_runs runs _).trans (by rw [onlyWhen, gapStarts_eq plain, if_pos due])

theorem exec_takeGap_undue (undue : ¬ gapDue (atNextSweep s) = true) : exec .takeGap s = .next (linkChoose s) :=
  (partEvent_runs runs _).trans (by rw [onlyWhen, gapStarts_eq plain, if_neg undue])

end

/-- Settles O29: TKR's sweep event finds its own items and PMEM as they were, one sweep later, and appends by the take
mode and the room in the ring. -/
theorem takeGapIsAppended : Obligations.TakeGapIsAppended := by
  refine ⟨fun r s runs plain wf recording reference age ring within => ?ring,
    fun r s runs plain wf recording reference age oneShot => ?oneShot, fun s runs plain young => ?undue⟩
  case ring =>
    have due := (gapDue_iff (atNextSweep s)).2 ⟨recording, r, reference, age⟩
    obtain ⟨mem, tkr⟩ := recorderSweep_ring due ring within
    obtain ⟨sweptMem, sweptTkr⟩ := startSweep_recorder plain
    refine ⟨startSweep s, exec_takeGap_due runs plain due, (startSweep_sweep_leds s).1, ?_, ?_, sweptTkr.trans tkr⟩ <;>
      rw [sweptMem, mem]
    · exact readEntry_gapMemory wf
    · exact readEntry_gapMemory_ne (atNextSweep s)
  case oneShot =>
    have due := (gapDue_iff (atNextSweep s)).2 ⟨recording, r, reference, age⟩
    obtain ⟨sweptMem, sweptTkr⟩ := startSweep_recorder plain
    refine ⟨startSweep s, exec_takeGap_due runs plain due, (startSweep_sweep_leds s).1, fun last => ?_, fun full => ?_⟩
    · obtain ⟨mem, tkr⟩ := recorderSweep_fills due oneShot last
      rw [sweptMem, mem]
      exact ⟨readEntry_gapMemory wf, sweptTkr.trans tkr⟩
    · obtain ⟨mem, tkr⟩ := recorderSweep_refuses due oneShot full
      exact ⟨sweptMem.trans mem, sweptTkr.trans tkr⟩
  case undue =>
    refine exec_takeGap_undue runs plain fun due => ?_
    obtain ⟨-, r, reference, age⟩ := (gapDue_iff (atNextSweep s)).1 due
    exact young r reference age

end Sys2Proof.Machine

namespace Sys2Proof.Machine

/-! ## Commands that are not taken (R189; log 6, 7) -/

/-- Every command but the two of the reset input and the HOLD_IN pin is an event of the part. -/
theorem exec_partEvent {c : Instr} (other : c ≠ .powerOnReset) (unreleased : c ≠ .resetNRelease)
    (pin : ∀ high, c ≠ .holdInChange high) : ∃ effect, ∀ s, exec c s = partEvent effect s := by
  cases c with
  | powerOnReset => exact absurd rfl other
  | resetNRelease => exact absurd rfl unreleased
  | holdInChange high => exact absurd rfl (pin high)
  | _ => exact ⟨_, fun _ => rfl⟩

/-- R189: the commands that earn a reply are those accepted for an owner. -/
theorem exec_acceptCommand {c : Instr} (answered : isAnswered c = true) :
    ∃ kind own, ∀ s, exec c s = partEvent (acceptCommand kind own) s := by
  cases c with
  | powerOnReset | deviceReset | sweep | conversion | warmupEnd | channelFault | channelRecovery | gateExpiry
  | strikeAgeExpiry | pedalGroupComplete | railWaitExpiry | railMoveExpiry | railDriftHalt | outputSamplePeriod
  | jackAdoption | clickEnd | pulse | run | deadlineExpiry | waitTimerExpiry | staleStrikeAged | takeGap
  | voiceFrameCompletion | holdInChange | byteReceived | interByteTimeout | linkFrameCompletion | resetNRelease =>
    cases answered
  | _ => exact ⟨_, _, fun _ => rfl⟩

/-- Settles O3: an event does nothing while RESET_N is asserted, and acceptance drops a command before a full queue. -/
theorem untakenCommandsHaveNoEffect : Obligations.UntakenCommandsHaveNoEffect := by
  refine ⟨⟨fun c s asserted other unreleased pin => ?held, fun high s asserted => partEvent_held (by exact asserted) _⟩,
    fun c s answered runs full => ?full⟩
  case held =>
    obtain ⟨effect, event⟩ := exec_partEvent other unreleased pin
    rw [event, partEvent_held asserted]
  case full =>
    obtain ⟨kind, own, accepts⟩ := exec_acceptCommand answered
    rw [accepts, acceptCommand_full runs full]
    rfl

/-! ## PING, STATUS and CLEAR_FLAGS (R193 to R195) -/

/-- R193: the ready flag. -/
theorem scanStateCode_eq (state : ScanState) : scanStateCode state = if state = .warmup then 0 else 1 := by
  cases state <;> rfl

/-- Settles O9: both owners answer with fields read off the state. -/
theorem pingAndStatusShowTheState : Obligations.PingAndStatusShowTheState := by
  refine ⟨fun s takes => ?ping, fun s takes => ?status⟩
  case ping =>
    rw [← scanStateCode_eq]
    exact acceptCommand_takes takes kindPing ownPing
  case status => exact acceptCommand_takes takes kindStatus ownStatus

/-- Settles O10: the owner clears the items of R195 alone. -/
theorem clearFlagsClears : Obligations.ClearFlagsClears := fun _ takes =>
  acceptCommand_takes takes kindClearFlags ownClearFlags

end Sys2Proof.Machine

namespace Sys2Proof.Machine

/-! ## Reports handed to LNK (R197, R198) -/

/-- R197: a report of an enabled class whose queue has room joins its tail. -/
theorem handReport_room {r : Report} {s : State} (enabled : classEnabled s (reportClass r) = true)
    (room : (classQueue s.lnk (reportClass r)).length < classCapacity (reportClass r)) :
    handReport r s = s.modLnk fun l => setClassQueue (reportClass r) (classQueue l (reportClass r) ++ [r]) l :=
  handReport_accepted (by simp [reportAccepted, enabled, room])

/-- Settles O50, by the report's class: it is disabled, or its queue has room, or its queue is full. -/
theorem reportsJoinTheirQueues : Obligations.ReportsJoinTheirQueues := by
  refine ⟨fun r s off => handReport_disabled ?disabled,
    fun r s isN on => ⟨fun room => ?joinsN, fun older newest queue full => ?fullN⟩,
    fun r s isP on => ⟨fun room => ?joinsP, fun full => ?fullP⟩,
    fun r s isE on => ⟨fun room => ?joinsE, fun full => ?fullE⟩⟩
  case disabled =>
    rcases off with ⟨cls, off⟩ | ⟨cls, off⟩ | ⟨cls, off⟩ <;> rw [cls] <;> exact off
  case joinsN =>
    rw [handReport_room (by rw [isN]; exact on) (by rw [isN]; exact room), isN]
    rfl
  case joinsP =>
    rw [handReport_room (by rw [isP]; exact on) (by rw [isP]; exact room), isP]
    rfl
  case joinsE =>
    rw [handReport_room (by rw [isE]; exact on) (by rw [isE]; exact room), isE]
    rfl
  case fullN =>
    have reached : 64 ≤ s.lnk.classN.length := by
      rw [queue, List.length_append, List.length_singleton]
      omega
    rw [handReport_full (by rw [isN]; exact on) (by rw [isN]; exact reached), isN, State.modLnk, reportOverrun, queue,
      modifyNewest_append]
    rfl
  case fullP =>
    rw [handReport_full (by rw [isP]; exact on) (by rw [isP]; exact full), isP]
    rfl
  case fullE =>
    rw [handReport_full (by rw [isE]; exact on) (by rw [isE]; exact full), isE]
    rfl

/-! ## The choice of the Action Link transmitter (R199) -/

/-- R68, R199: a report sent leaves its queue and sets the fair flag of its class; of a VOICE DROP report VDP sees that
it leaves. -/
theorem sendReport_eq (c : ReportClass) (r : Report) (rest : List Report) (s : State) :
    sendReport c r rest s = { s with
      lnk := { setFair c (setClassQueue c rest s.lnk) with tx := some (reportFrame r) }
      vdp := if reportKind r = 0xF5 then { s.vdp with dropWaiting := false } else s.vdp } := by
  cases r <;> rfl

/-- R199: a report of another kind reaches LNK alone. -/
theorem sendReport_other {r : Report} (other : reportKind r ≠ 0xF5) (c : ReportClass) (rest : List Report) (s : State) :
    sendReport c r rest s =
      { s with lnk := { setFair c (setClassQueue c rest s.lnk) with tx := some (reportFrame r) } } := by
  rw [sendReport_eq, if_neg other]

/-- R199: every class that holds reports has had its turn. -/
def AllServed (l : Lnk) : Prop := ∀ c, classQueue l c ≠ [] → fairFlag l c = true

/-- R199: the fair flags at the start of a round. -/
def newRound (l : Lnk) : Lnk := { l with fairN := false, fairP := false, fairE := false }

theorem allServed_iff (l : Lnk) :
    [ReportClass.e, .p, .n].all (fun c => (classQueue l c).isEmpty || fairFlag l c) = true ↔ AllServed l := by
  have each (c : ReportClass) : ((classQueue l c).isEmpty || fairFlag l c) = true ↔
      (classQueue l c ≠ [] → fairFlag l c = true) := by
    rw [Bool.or_eq_true, List.isEmpty_iff, or_iff_not_imp_left]
  simp only [List.all_cons, List.all_nil, Bool.and_true, Bool.and_eq_true, each]
  exact ⟨fun ⟨e, p, n⟩ c => by cases c <;> assumption, fun served => ⟨served .e, served .p, served .n⟩⟩

/-- R199: the three flags are cleared once every class that holds reports has had its turn. -/
theorem clearFair_served {l : Lnk} (served : AllServed l) : clearFair l = newRound l :=
  if_pos ((allServed_iff l).2 served)

theorem clearFair_unserved {l : Lnk} (unserved : ¬ AllServed l) : clearFair l = l :=
  if_neg fun all => unserved ((allServed_iff l).1 all)

/-- R199: it is the turn of class c: it holds reports, its flag is clear, and each class before it in the order E, P, N is
empty or has its flag set. -/
def TurnOf (l : Lnk) : ReportClass → Prop
  | .e => l.classE ≠ [] ∧ l.fairE = false
  | .p => (l.classE = [] ∨ l.fairE = true) ∧ l.classP ≠ [] ∧ l.fairP = false
  | .n => (l.classE = [] ∨ l.fairE = true) ∧ (l.classP = [] ∨ l.fairP = true) ∧ l.classN ≠ [] ∧ l.fairN = false

theorem fairClass_of_turn {l : Lnk} {c : ReportClass} (turn : TurnOf l c) : fairClass l = some c := by
  cases c with
  | e =>
    obtain ⟨holds, clear⟩ := turn
    simp [fairClass, classQueue, fairFlag, holds, clear]
  | p =>
    obtain ⟨passedE, holds, clear⟩ := turn
    rcases passedE with e | e <;> simp [fairClass, classQueue, fairFlag, e, holds, clear]
  | n =>
    obtain ⟨passedE, passedP, holds, clear⟩ := turn
    rcases passedE with e | e <;> rcases passedP with p | p <;>
      simp [fairClass, classQueue, fairFlag, e, p, holds, clear]

theorem TurnOf.holds {l : Lnk} {c : ReportClass} (turn : TurnOf l c) : classQueue l c ≠ [] ∧ fairFlag l c = false := by
  cases c with
  | e => exact turn
  | p => exact turn.2
  | n => exact turn.2.2

theorem TurnOf.unserved {l : Lnk} {c : ReportClass} (turn : TurnOf l c) : ¬ AllServed l := fun served => by
  obtain ⟨holds, clear⟩ := turn.holds
  exact absurd (served c holds) (by simp [clear])

section
variable {s : State}

theorem linkChoose_sending (sending : s.lnk.tx ≠ none) : linkChoose s = s := by
  obtain ⟨f, tx⟩ := Option.ne_none_iff_exists'.1 sending
  exact linkChoose_busy tx

section
variable (idle : s.lnk.tx = none)
include idle

/-- R199: the oldest reply goes before any report. -/
theorem linkChoose_reply {r : Reply} {rest : List Reply} (replies : s.lnk.replies = r :: rest) :
    linkChoose s = { s with lnk := { s.lnk with replies := rest, tx := some (replyFrame r) } } := by
  simp only [linkChoose, idle, replies]
  rfl

variable (quiet : s.lnk.replies = [])
include quiet

/-- R199: with no reply waiting the reports have their turn. -/
theorem linkChoose_report : linkChoose s = sendNextReport s := by
  simp only [linkChoose, idle, quiet]

/-- R199: the class whose turn it is once the flags are looked at sends its oldest report. -/
theorem linkChoose_turn {c : ReportClass} {r : Report} {rest : List Report} (turn : TurnOf (clearFair s.lnk) c)
    (queue : classQueue s.lnk c = r :: rest) :
    linkChoose s = sendReport c r rest { s with lnk := clearFair s.lnk } := by
  rw [linkChoose_report idle quiet]
  simp only [sendNextReport, fairClass_of_turn turn, (clearFair_queues s.lnk).2, queue]
  rfl

/-- R199: within a round. -/
theorem linkChoose_within {c : ReportClass} {r : Report} {rest : List Report} (turn : TurnOf s.lnk c)
    (queue : classQueue s.lnk c = r :: rest) : linkChoose s = sendReport c r rest s := by
  have kept := clearFair_unserved turn.unserved
  rw [linkChoose_turn idle quiet (by rwa [kept]) queue, kept]

/-- R199: at the start of a round. -/
theorem linkChoose_newRound {c : ReportClass} {r : Report} {rest : List Report} (served : AllServed s.lnk)
    (turn : TurnOf (newRound s.lnk) c) (queue : classQueue s.lnk c = r :: rest) :
    linkChoose s = sendReport c r rest { s with lnk := newRound s.lnk } := by
  have cleared := clearFair_served served
  rw [linkChoose_turn idle quiet (by rwa [cleared]) queue, cleared]

end

/-- R199: nothing is sent where nothing waits. -/
theorem linkChoose_empty (quiet : s.lnk.replies = []) (n : s.lnk.classN = []) (p : s.lnk.classP = [])
    (e : s.lnk.classE = []) : linkChoose s = s := by
  have queues (c : ReportClass) : classQueue (clearFair s.lnk) c = [] := by
    rw [(clearFair_queues s.lnk).2]
    cases c <;> assumption
  have none : fairClass (clearFair s.lnk) = none := by simp [fairClass, queues]
  cases tx : s.lnk.tx with
  | none =>
    rw [linkChoose_report tx quiet]
    simp only [sendNextReport, none]
  | some f => exact linkChoose_busy tx

end

/-- Settles O49: the reply, then the class whose turn it is, within a round of the fair flags or at the start of one. -/
theorem linkTransmitterChooses : Obligations.LinkTransmitterChooses := by
  refine ⟨fun s runs => partEvent_runs runs _, fun s => linkChoose_sending,
    fun r rest s idle replies => linkChoose_reply idle replies, fun s => linkChoose_empty,
    fun r rest s idle quiet => ⟨fun queue clear => ?e, fun passedE queue clear other => ?p,
      fun passedE passedP queue clear other => ?n, fun servedE servedP servedN => ?round⟩⟩
  case e => rw [linkChoose_within idle quiet (c := .e) ⟨by simp [queue], clear⟩ queue, sendReport_eq]; rfl
  case p =>
    rw [linkChoose_within idle quiet (c := .p) ⟨passedE, by simp [queue], clear⟩ queue, sendReport_other other]; rfl
  case n =>
    rw [linkChoose_within idle quiet (c := .n) ⟨passedE, passedP, by simp [queue], clear⟩ queue,
      sendReport_other other]
    rfl
  case round =>
    have served : AllServed s.lnk := fun c => by cases c <;> assumption
    refine ⟨fun queue => ?_, fun e queue other => ?_, fun e p queue other => ?_⟩
    · rw [linkChoose_newRound idle quiet (c := .e) served ⟨by simp [newRound, queue], rfl⟩ queue, sendReport_eq]
      rfl
    · rw [linkChoose_newRound idle quiet (c := .p) served ⟨.inl e, by simp [newRound, queue], rfl⟩ queue,
        sendReport_other other]
      rfl
    · rw [linkChoose_newRound idle quiet (c := .n) served ⟨.inl e, .inl p, by simp [newRound, queue], rfl⟩ queue,
        sendReport_other other]
      rfl

/-! ## DEVICE_RESET (R196, R83, R117, R200) -/

/-- R196: LNK has nothing to send after a device reset. -/
theorem linkChoose_deviceReset (s : State) : linkChoose (deviceReset s) = deviceReset s := by
  have lnk : (deviceReset s).lnk = { Lnk.initial with tx := s.lnk.tx } := by simp [deviceReset, deviceResetFrom]
  refine linkChoose_empty ?_ ?_ ?_ ?_ <;> rw [lnk] <;> rfl

/-- Settles O6: an idle voice transmitter sends the ALL DAMP of its reset table, one that is sending goes on. -/
theorem deviceResetLeavesTheTables : Obligations.DeviceResetLeavesTheTables := by
  intro s runs
  have resetHeld : s.resetHeld = false := runs
  have event : exec .deviceReset s = .next (linkChoose (deviceReset s)) := partEvent_runs runs deviceReset
  rw [event, linkChoose_deviceReset, deviceReset]
  cases flight : s.vdp.inFlight with
  | some f =>
    rw [voiceChoose_busy (by exact flight), deviceResetFrom, resetHeld, flight]
    rfl
  | none =>
    rw [voiceChoose_urgent (by exact flight) rfl, deviceResetFrom, resetHeld]
    rfl

end Sys2Proof.Machine

namespace Sys2Proof.Machine

/-! ## RESET_PRACTICE (R156, R172, R184, R196) -/

/-- Settles O7: the stop steps clear the keys and the pedals, the three blocks their own items. -/
theorem resetPracticeClearsPractice : Obligations.ResetPracticeClearsPractice := by
  intro s takes
  have stopped := stopSteps_vdp .reset s
  have prm : (resetMonitor (resetPlayback s)).prm = { s.prm with
      expected := [], waitTimer := none, pauseSweep := none, recent := [], hits := 0, misses := 0, wrongs := 0 } := by
    simp [resetMonitor, resetPlayback, stopSteps_prm]
  refine ⟨endTake (resetMonitor (resetPlayback s)), acceptCommand_takes takes kindReset ownResetPractice, rfl,
    congrArg Prm.expected prm, congrArg Prm.recent prm, congrArg Prm.waitTimer prm, congrArg Prm.hits prm,
    congrArg Prm.misses prm, congrArg Prm.wrongs prm, ?tkr, fun k => ?sound, fun p => ?pedal, ?blocks⟩
  case tkr => simp [endTake, resetMonitor, resetPlayback]
  case sound =>
    rw [State.sound]
    show (stopSteps .reset s).vdp.table[k].playbackHolder = false
    rw [stopped.1]
    exact (clearPlayback_holders _ k).2
  case pedal =>
    show ((stopSteps .reset s).ptr.pedals.get p).playback = 0
    rw [stopped.2]
    exact clearPlaybackLevels_playback _ p
  case blocks => simp [endTake, resetMonitor, resetPlayback]

/-! ## TABLE READ (R192) -/

section
variable {s : State} {code sel first : Byte} {count : Half} {most lo past sels : Nat} {f entry : Nat → List Byte}

theorem count_empty (bad : count = 0 ∨ most < count.toNat) : count.toNat = 0 ∨ most < count.toNat :=
  bad.imp_left fun none => by rw [none]; rfl

/-- R192: the refusals of a read from a table without a selector. -/
theorem readPlain_refuses (sel : Byte) :
    (count = 0 ∨ most < count.toNat → readPlain code first count most lo past f s = answerRefused .badLength s) ∧
    (1 ≤ count.toNat → count.toNat ≤ most →
      first.toNat < lo ∨ past < first.toNat + count.toNat ∨ 256 ≤ sel.toNat →
      readPlain code first count most lo past f s = answerRefused .badIndex s) := by
  refine ⟨fun bad => if_pos (count_empty bad), fun nonempty few out => ?_⟩
  have selector := sel.isLt
  rw [readPlain, if_neg (by omega), if_pos (by omega)]

/-- R192: the refusals of a read from a table with a selector. -/
theorem readSelected_refuses :
    (count = 0 ∨ most < count.toNat →
      readSelected code sel first count most sels past f s = answerRefused .badLength s) ∧
    (1 ≤ count.toNat → count.toNat ≤ most →
      first.toNat < 0 ∨ past < first.toNat + count.toNat ∨ sels ≤ sel.toNat →
      readSelected code sel first count most sels past f s = answerRefused .badIndex s) := by
  refine ⟨fun bad => if_pos (count_empty bad), fun nonempty few out => ?_⟩
  rw [readSelected, if_neg (by omega), if_pos (by omega)]

/-- R192: the six tables, each by its code: its greatest read, its least index, one past its last, its selectors. -/
theorem ownTableRead_refuses (row : (code.toNat, most, lo, past, sels) ∈ [(0, 11, 1, 89, 256), (1, 4, 0, 4, 256),
      (2, 33, 0, 33, 4), (3, 33, 0, 33, 256), (4, 32, 0, 32, 256), (5, 117, 0, 256, 2)]) :
    (count = 0 ∨ most < count.toNat → ownTableRead code sel first count s = answerRefused .badLength s) ∧
    (1 ≤ count.toNat → count.toNat ≤ most →
      first.toNat < lo ∨ past < first.toNat + count.toNat ∨ sels ≤ sel.toNat →
      ownTableRead code sel first count s = answerRefused .badIndex s) := by
  simp only [List.mem_cons, List.not_mem_nil, or_false, Prod.mk.injEq] at row
  unfold ownTableRead
  rcases row with ⟨table, rfl, rfl, rfl, rfl⟩ | ⟨table, rfl, rfl, rfl, rfl⟩ | ⟨table, rfl, rfl, rfl, rfl⟩ |
    ⟨table, rfl, rfl, rfl, rfl⟩ | ⟨table, rfl, rfl, rfl, rfl⟩ | ⟨table, rfl, rfl, rfl, rfl⟩ <;> rw [table]
  · exact readPlain_refuses sel
  · exact readPlain_refuses sel
  · exact readSelected_refuses
  · exact readPlain_refuses sel
  · exact readPlain_refuses sel
  · exact readSelected_refuses

theorem ownTableRead_badTable (unnamed : 5 < code.toNat) :
    ownTableRead code sel first count s = answerRefused .badTable s := by
  unfold ownTableRead
  split
  case h_7 => rfl
  all_goals omega

/-- R189: the reply of a read that is taken. -/
theorem exec_tableRead (takes : s.Takes) {a : Answer} (answers : ownTableRead code sel first count s = a) :
    exec (.tableRead code sel first count) s = .next (linkChoose (replied 0x03 a.code a.fields a.st)) :=
  command_takes takes answers

/-- R192: a read of a run inside a table shows its entries in turn. -/
theorem readPlain_shows (nonempty : 1 ≤ count.toNat) (few : count.toNat ≤ most) (low : lo ≤ first.toNat)
    (inside : first.toNat + count.toNat ≤ past) (reads : ∀ i, lo ≤ i → i < past → f i = entry i) :
    readPlain code first count most lo past f s = answerOk s ([code, first] ++ field2 count.toNat ++
      (List.range count.toNat).flatMap fun i => entry (first.toNat + i)) := by
  rw [readPlain, if_neg (by omega), if_neg (by omega),
    readEntries_eq fun i run => reads (first.toNat + i) (by omega) (by omega)]
  rfl

theorem readSelected_shows (nonempty : 1 ≤ count.toNat) (few : count.toNat ≤ most) (one : sel.toNat < sels)
    (inside : first.toNat + count.toNat ≤ past) (reads : ∀ i < past, f i = entry i) :
    readSelected code sel first count most sels past f s = answerOk s ([code, sel, first] ++ field2 count.toNat ++
      (List.range count.toNat).flatMap fun i => entry (first.toNat + i)) := by
  rw [readSelected, if_neg (by omega), if_neg (by omega),
    readEntries_eq fun i run => reads (first.toNat + i) (by omega)]
  rfl

/-- R21: a CAL read shows the pending record where there is one, else the one in effect. -/
theorem calEntry_keyNumber (s : State) (k : Key) :
    calEntry s (keyNumber k) =
      [byteOf (keyNumber k), if (s.keyRec k).pendingCal = none then 1 else 0] ++
        (let c := (s.keyRec k).pendingCal.getD (s.keyRec k).cal
        [c.restRaw, c.fullRaw, c.floor, c.ceil, c.dmp, c.g1, c.rpt, c.g2, c.scale].flatMap field2) := by
  simp only [calEntry, keyOfNumber_keyNumber]
  cases (s.keyRec k).pendingCal <;> rfl

/-- The keys are numbered 1 to 88. -/
theorem exists_keyNumber {n : Nat} (low : 1 ≤ n) (high : n < 89) : ∃ k, keyNumber k = n :=
  ⟨⟨n - 1, by omega⟩, Nat.sub_add_cancel low⟩

/-- R40: a curve point as it stands. -/
theorem curveEntry_eq (s : State) (curve : Fin 4) (i : Fin 33) :
    curveEntry s curve.val i.val = [byteOf s.ktr.curves[curve][i]] := by
  simp [curveEntry, curvePoint_eq]

/-- R105: a sample of the sound that the selector names, as it stands. -/
theorem clickEntry_eq (s : State) {sel : Byte} (named : sel.toNat ≤ 1) (i : Fin 256) :
    clickEntry s sel.toNat i.val = field2 (if sel = 0 then s.hpm.clickA[i] else s.hpm.clickB[i]).toNat := by
  obtain rfl | rfl : sel = 0 ∨ sel = 1 := by bv_omega
  all_goals simp [clickEntry, soundOfCode, soundTable, halfBytes]

end

section
variable (s : State) (sel first : Byte) (count : Half)

theorem ownTableRead_cal :
    ownTableRead 0 sel first count s = readPlain 0 first count 11 1 89 (calEntry s) s := rfl

theorem ownTableRead_pcal :
    ownTableRead 1 sel first count s = readPlain 1 first count 4 0 4 (pcalEntry s) s := rfl

theorem ownTableRead_curve :
    ownTableRead 2 sel first count s = readSelected 2 sel first count 33 4 33 (curveEntry s sel.toNat) s := rfl

theorem ownTableRead_param :
    ownTableRead 3 sel first count s =
      readPlain 3 first count 33 0 33 (fun i => field2 (paramGet s.par i)) s := rfl

theorem ownTableRead_loud :
    ownTableRead 4 sel first count s =
      readPlain 4 first count 32 0 32 (fun i => field2 (s.hpm.loud[i]?.getD 0)) s := rfl

theorem ownTableRead_click :
    ownTableRead 5 sel first count s = readSelected 5 sel first count 117 2 256 (clickEntry s sel.toNat) s := rfl

end

/-- Settles O11: a read leaves the state, is refused outside its table, and shows each entry of a run inside it. -/
theorem tableReadShowsTables : Obligations.TableReadShowsTables := by
  refine ⟨fun code sel first count s takes =>
      ⟨(ownTableRead code sel first count s).code, (ownTableRead code sel first count s).fields, ?leaves⟩,
    fun code sel first count s takes unnamed => exec_tableRead takes (ownTableRead_badTable unnamed),
    fun sel first count s takes nonempty few inside => ?param,
    fun code sel first count most lo past sels s takes row => ?refused,
    fun sel first count entry s takes nonempty => ⟨fun reads few low inside => ?cal, fun reads inside => ?pcal,
      fun curve named reads inside => ?curve, fun reads inside => ?loud, fun reads named few inside => ?click⟩⟩
  case leaves =>
    have event := acceptCommand_takes takes kindTableRead (ownTableRead code sel first count)
    rwa [ownTableRead_st] at event
  case param =>
    exact exec_tableRead takes ((ownTableRead_param ..).trans
      (readPlain_shows nonempty few (Nat.zero_le _) inside fun _ _ _ => rfl))
  case refused =>
    obtain ⟨badLength, badIndex⟩ := ownTableRead_refuses (s := s) (sel := sel) (first := first) (count := count) row
    exact ⟨fun bad => exec_tableRead takes (badLength bad),
      fun nonempty few out => exec_tableRead takes (badIndex nonempty few out)⟩
  case cal =>
    refine exec_tableRead takes ((ownTableRead_cal ..).trans
      (readPlain_shows nonempty few low (by omega) fun n low high => ?_))
    obtain ⟨k, rfl⟩ := exists_keyNumber low high
    rw [calEntry_keyNumber, reads k]
  case pcal =>
    refine exec_tableRead takes ((ownTableRead_pcal ..).trans
      (readPlain_shows nonempty (by omega) (Nat.zero_le _) inside fun i _ high => ?_))
    rw [reads i high, pcalEntry]
    cases pedalOfCode i <;> rfl
  case curve =>
    refine exec_tableRead takes ((ownTableRead_curve ..).trans
      (readSelected_shows nonempty (by omega) (by omega) inside fun i high => ?_))
    rw [named, reads ⟨i, high⟩]
    exact curveEntry_eq s curve ⟨i, high⟩
  case loud =>
    refine exec_tableRead takes ((ownTableRead_loud ..).trans
      (readPlain_shows nonempty (by omega) (Nat.zero_le _) inside fun i _ high => ?_))
    rw [reads ⟨i, high⟩]
    simp [high]
  case click =>
    refine exec_tableRead takes ((ownTableRead_click ..).trans
      (readSelected_shows nonempty few (by omega) inside fun i high => ?_))
    rw [reads ⟨i, high⟩]
    exact clickEntry_eq s named ⟨i, high⟩

/-! ## TABLE WRITE of PARAM (R6, R191) -/

/-- R191: an entry without a rule of its own. -/
theorem takeParam_plain {a : ParamArgs} (plain : a.index.toNat ∉ [7, 9, 10, 24, 25, 30]) (w : WriteResult) :
    takeParam a w = takePlainParam a.index.toNat a.value.toNat w := by
  unfold takeParam
  dsimp only
  split
  case h_7 => rfl
  all_goals simp_all

section
variable (s : State) {es : List ParamArgs}

theorem ownParamWrite_badLength (bad : es = [] ∨ 79 < es.length) : ownParamWrite es s = answerRefused .badLength s :=
  if_pos (badRun_true bad)

section
variable (nonempty : es ≠ []) (few : es.length ≤ 79)
include nonempty few

theorem ownParamWrite_badIndex (out : ∃ a ∈ es, 33 ≤ a.index.toNat) :
    ownParamWrite es s = answerRefused .badIndex s := by
  have any : (es.any fun a => decide (33 ≤ a.index.toNat)) = true := by simpa using out
  simp only [ownParamWrite, badRun_false nonempty few, Bool.false_eq_true, if_false]
  exact if_pos any

theorem ownParamWrite_inTurn (inside : ∀ a ∈ es, a.index.toNat < 33) :
    ownParamWrite es s = (takenInTurn (takenAlone takeParam) es s).answer := by
  have none : ¬ (es.any fun a => decide (33 ≤ a.index.toNat)) = true := by simpa using inside
  simp only [ownParamWrite, badRun_false nonempty few, Bool.false_eq_true, if_false]
  rw [← takeRecords_inTurn _ _ _ fun a _ w => takeParam_adds a w]
  exact if_neg none

end
end

/-- R191, R6: one entry without a rule of its own, clamped and stored. -/
theorem exec_paramWrite_plain {i : Byte} (v : Half) {s : State} (takes : s.Takes) (inside : i.toNat < 33)
    (plain : i.toNat ∉ [7, 9, 10, 24, 25, 30]) :
    exec (.paramWrite [⟨i, v⟩]) s =
      .next (linkChoose (repliedCounts .ok 1
        (if paramLo i.toNat ≤ v.toNat ∧ v.toNat ≤ paramHi i.toNat then 0 else 1) 0
        { s with par := paramSet i.toNat (max (paramLo i.toNat) (min (paramHi i.toNat) v.toNat)) s.par })) := by
  refine paramWrite_taken takes inside ?_
  rw [takenAlone, takeParam_plain plain, takePlainParam, clampCount_eq (paramLo_le_paramHi _)]
  simp only [WriteResult.taken, Nat.zero_add]
  rfl

/-- Settles O12: a write of one plain entry, and a run by its owner's bounds; the rows of single entries are that run. -/
theorem plainParamWritesStore : Obligations.PlainParamWritesStore := by
  refine ⟨fun i v s takes inside plain => exec_paramWrite_plain v takes inside plain, fun v s takes => ?warmup,
    fun es s takes bad => command_takes takes (ownParamWrite_badLength s bad),
    fun es s takes nonempty few out => command_takes takes (ownParamWrite_badIndex s nonempty few out),
    fun es s takes nonempty few inside => tableWrite_inTurn takes (ownParamWrite_inTurn s nonempty few inside),
    fun v s => ⟨rfl, rfl, rfl, rfl, rfl, rfl, rfl⟩⟩
  case warmup =>
    rw [show exec (.warmupWrite v) s = exec (.paramWrite [⟨3, v⟩]) s from rfl,
      exec_paramWrite_plain v takes (by decide) (by decide)]
    simp [paramLo, paramHi, paramSet]

end Sys2Proof.Machine

namespace Sys2Proof.Machine

/-! ## The byte format of the lines (R185) -/

/-- R185: the number read from the data bits of a byte, least significant first, is the byte. -/
theorem bitsValue_lsbFirst (b : Byte) : byteOf (bitsValue ((List.range 8).map fun i => b.getLsbD i)) = b := by
  apply BitVec.eq_of_getLsbD_eq
  intro i inside
  rw [byteOf, BitVec.getLsbD_ofNat, bitsValue_testBit, List.getElem?_map, List.getElem?_range inside]
  simp [inside]

/-- R185: ten bit times with a low start bit are the reception of their byte. -/
theorem readSerial_frame (b : Byte) (stop : Bool) :
    readSerial (false :: (List.range 8).map (fun i => b.getLsbD i) ++ [stop]) = some (b, !stop) :=
  congrArg (fun byte => some (byte, !stop)) (bitsValue_lsbFirst b)

/-! ## The receiver (R187, R188) -/

section
variable {s : State} {b : Byte}

theorem exec_byteReceived (runs : s.Runs) : exec (.byteReceived b false) s = .next (linkChoose (takeByte b s)) :=
  partEvent_runs runs (receiveByte b false)

theorem exec_badByte (runs : s.Runs) : exec (.byteReceived b true) s = .next (linkChoose (takeBadByte s)) :=
  partEvent_runs runs (receiveByte b true)

theorem takeBadByte_hunt (hunt : s.lnk.rx = .hunt) : takeBadByte s = s := by simp only [takeBadByte, hunt]

/-- R188: a framing error inside a frame abandons it. -/
theorem takeBadByte_frame (frame : s.lnk.rx ≠ .hunt) : takeBadByte s = dropFrame s := by
  unfold takeBadByte
  split
  case h_1 hunt => exact absurd hunt frame
  case h_2 => rfl

/-- R187: outside a frame only the start byte is heard. -/
theorem takeByte_hunt (hunt : s.lnk.rx = .hunt) : takeByte b s = if b = 0x9E then receiverTo .kind s else s := by
  simp only [takeByte, hunt]
  rfl

theorem takeByte_kind (kind : s.lnk.rx = .kind) : takeByte b s = receiverTo (.length b) s := by
  simp only [takeByte, kind]

theorem takeByte_length {k : Byte} (length : s.lnk.rx = .length k) :
    takeByte b s =
      if 240 < b.toNat then dropFrame s
      else if b = 0 then receiverTo (.check k []) s
      else receiverTo (.body k b.toNat []) s := by
  simp only [takeByte, length]
  rfl

theorem takeByte_body {k : Byte} {len : Nat} {got : List Byte} (body : s.lnk.rx = .body k len got) :
    takeByte b s =
      if len ≤ got.length + 1 then receiverTo (.check k (got ++ [b])) s
      else receiverTo (.body k len (got ++ [b])) s := by
  simp only [takeByte, body, List.length_append, List.length_singleton]

theorem takeByte_check {k : Byte} {payload : List Byte} (check : s.lnk.rx = .check k payload) :
    takeByte b s =
      if b = linkCrc k payload ∧ k ∈ commandKinds then takeCommand k payload (receiverDone s) else dropFrame s := by
  simp only [takeByte, check, checkFrame, List.contains_iff_mem]

end

/-! ## Frames and their commands (R187, R189, R196) -/

/-- R186: the frame of a PING, its CRC evaluated. -/
theorem linkFrameBytes_ping : linkFrameBytes ⟨0x01, []⟩ = [0x9E, 0x01, 0x00, 0xF4] := by decide +kernel

/-- R189, R196: the frame of this kind and payload spells the command c. -/
def Spells (kind : Byte) (payload : List Byte) (c : Instr) : Prop :=
  kind ∈ commandKinds ∧ ∀ s, exec c s = partEvent (takeCommand kind payload) s

/-- R187: the last byte of a good frame has the effect of the command that the frame spells. -/
theorem Spells.exec_lastByte {kind : Byte} {payload : List Byte} {c : Instr} (spells : Spells kind payload c)
    {s : State} (runs : s.Runs) (check : s.lnk.rx = .check kind payload) :
    exec (.byteReceived (linkCrc kind payload) false) s = exec c (receiverDone s) := by
  obtain ⟨listed, commands⟩ := spells
  rw [exec_byteReceived runs, takeByte_check check, if_pos ⟨rfl, listed⟩, commands,
    partEvent_runs (s := receiverDone s) runs]

/-- Settles O48: the byte on the line, the receiver by its state, and each command by the frame that spells it. -/
theorem framesAreReceived : Obligations.FramesAreReceived := by
  refine ⟨fun b stop => ⟨readSerial_frame b stop, ?command, rfl⟩,
    fun s => ⟨fun idle => by rw [altxLevels, idle]; rfl, fun f sending => by rw [altxLevels, sending]; rfl⟩,
    ⟨linkFrameBytes_ping, fun b s runs => ⟨fun rx moves => ?moves, fun hunt other => ?other, fun hunt => ?unheard, fun bad => ?bad,
      fun frame => ?abandoned⟩⟩,
    fun kind payload c u s runs check done spelled => ?spelled⟩
  case command => rw [alrxCommand, readSerial_frame]; rfl
  case moves =>
    rw [exec_byteReceived runs]
    rcases moves with ⟨hunt, rfl, rfl⟩ | ⟨inKind, rfl⟩ | ⟨k, length, rfl, rfl⟩ | ⟨k, length, nonzero, few, rfl⟩ |
      ⟨k, len, got, body, more, rfl⟩ | ⟨k, len, got, body, last, rfl⟩
    · rw [takeByte_hunt hunt, if_pos rfl]
      rfl
    · rw [takeByte_kind inKind]
      rfl
    · rw [takeByte_length length, if_neg (by decide), if_pos rfl]
      rfl
    · rw [takeByte_length length, if_neg few.not_gt, if_neg nonzero]
      rfl
    · rw [takeByte_body body, if_neg more.not_ge]
      rfl
    · rw [takeByte_body body, if_pos last]
      rfl
  case other => rw [exec_byteReceived runs, takeByte_hunt hunt, if_neg other]
  case unheard => rw [exec_badByte runs, takeBadByte_hunt hunt]
  case bad =>
    rw [exec_byteReceived runs]
    rcases bad with ⟨k, length, long⟩ | ⟨k, payload, check, bad⟩
    · rw [takeByte_length length, if_pos long]
      rfl
    · rw [takeByte_check check, if_neg fun good => bad.elim (· good.1) (· good.2)]
      rfl
  case abandoned =>
    rw [exec_badByte runs, takeBadByte_frame frame]
    rfl
  case spelled =>
    rw [show u = receiverDone s from done]
    refine Spells.exec_lastByte ?_ runs check
    rcases spelled with ⟨rfl, rfl, rfl⟩ | ⟨sel, first, hi, lo, rfl, rfl, rfl⟩ | ⟨first, hi, lo, rfl, rfl, rfl⟩ |
      ⟨i, hi, lo, rfl, rfl, rfl⟩ | ⟨curve, first, points, rfl, rfl, rfl⟩ | ⟨a, rfl, rfl, rfl⟩ |
      ⟨h0, l0, e, rfl, rfl, rfl⟩ | ⟨h0, l0, h1, l1, rfl, rfl, rfl⟩ | ⟨a, b, rfl, rfl, rfl⟩ | ⟨rfl, rfl, rfl⟩ |
      ⟨rfl, rfl, rfl⟩ | ⟨rfl, rfl, rfl⟩ | ⟨a, rfl, rfl, rfl⟩ | ⟨a, rfl, rfl, rfl⟩ | ⟨rfl, rfl, rfl⟩ |
      ⟨h0, l0, h1, l1, rfl, rfl, rfl⟩ | ⟨rfl, rfl, rfl⟩ | ⟨rfl, rfl⟩ | ⟨rfl, rfl, rfl⟩ | ⟨ch, hi, lo, rfl, rfl, rfl⟩ |
      ⟨rfl, rfl, rfl⟩ | ⟨rfl, rfl, rfl⟩ | ⟨rfl, rfl, rfl⟩ | ⟨rfl, rfl, rfl⟩ | ⟨rfl, rfl, rfl⟩
    all_goals exact ⟨by decide, fun _ => rfl⟩

end Sys2Proof.Machine

namespace Sys2Proof.Machine

/-! ## The queue of the commands that wait (log 9) -/

theorem step_front {c : Instr} {rest : List Instr} {s : State} (front : s.pending = c :: rest) :
    step s = exec c { s with pending := rest } := by
  simp only [step, front]

theorem step_idle {s : State} (empty : s.pending = []) : step s = .next s := by
  simp only [step, empty]

/-- Settles O1: the step splits on the queue. -/
theorem stepTakesTheFrontCommand : Obligations.StepTakesTheFrontCommand :=
  ⟨fun _ _ _ => step_front, fun _ => step_idle⟩

/-! ### What the owners of the commands leave of it -/

/-- The commands of q wait. -/
def Waits (q : List Instr) (s : State) : Prop := s.pending = q

/-- The records of a TABLE WRITE leave the queue if each of them does. -/
theorem takeRecords_pending {α : Type} {take : α → WriteResult → WriteResult}
    (leaves : ∀ a w, (take a w).st.pending = w.st.pending) (records : List α) (s : State) :
    (takeRecords take records s).answer.st.pending = s.pending :=
  takeRecords_keeps (P := Waits s.pending) (fun a w waits => (leaves a w).trans waits) records rfl

@[simp] theorem takeCal_pending (a : CalArgs) (w : WriteResult) : (takeCal a w).st.pending = w.st.pending := by
  unfold takeCal
  (repeat' split) <;> simp [WriteResult.taken, WriteResult.refuse]

@[simp] theorem takePcal_pending (a : PcalArgs) (w : WriteResult) : (takePcal a w).st.pending = w.st.pending := by
  unfold takePcal
  dsimp only
  (repeat' split) <;>
    simp [WriteResult.taken, WriteResult.refuse, WriteResult.refuseBusy, placePedalCal, placeRailCal]

/-- R191: an entry is stored, and its rule (R49, R57, R120, R170) reaches blocks of the part alone. -/
@[simp] theorem takeParam_pending (a : ParamArgs) (w : WriteResult) : (takeParam a w).st.pending = w.st.pending := by
  unfold takeParam
  dsimp only
  split
  · simp [takePedalAccum, WriteResult.taken, storeParam]
  · simp [takeHoldOn, WriteResult.taken, testThresholds]
  · simp [takeHoldOff, WriteResult.taken, testThresholds]
  · simp [takePracticeMode, WriteResult.taken, storeParam]
  · simp [takePartMask, WriteResult.taken, storeParam]
  · unfold takeTakeSize
    split <;> simp [WriteResult.taken, WriteResult.refuseBusy, moveBoundary]
  · simp [takePlainParam, WriteResult.taken, storeParam]

section
variable (s : State)

@[simp] theorem ownCalWrite_pending (records : List CalArgs) : (ownCalWrite records s).st.pending = s.pending := by
  unfold ownCalWrite
  (repeat' split)
  · rfl
  · rfl
  · exact takeRecords_pending takeCal_pending records s

@[simp] theorem ownPcalWrite_pending (records : List PcalArgs) : (ownPcalWrite records s).st.pending = s.pending := by
  unfold ownPcalWrite
  (repeat' split)
  · rfl
  · rfl
  · exact takeRecords_pending takePcal_pending records s

@[simp] theorem ownParamWrite_pending (entries : List ParamArgs) : (ownParamWrite entries s).st.pending = s.pending := by
  unfold ownParamWrite
  (repeat' split)
  · rfl
  · rfl
  · exact takeRecords_pending takeParam_pending entries s

@[simp] theorem ownCurveWrite_pending (curve first : Byte) (points : List Byte) :
    (ownCurveWrite curve first points s).st.pending = s.pending := by
  unfold ownCurveWrite
  dsimp only
  (repeat' split) <;> rfl

@[simp] theorem ownLoudWrite_pending (first : Byte) (gains : List Half) :
    (ownLoudWrite first gains s).st.pending = s.pending := by
  unfold ownLoudWrite
  dsimp only
  (repeat' split) <;> rfl

@[simp] theorem ownClickWrite_pending (sound first : Byte) (samples : List Half) :
    (ownClickWrite sound first samples s).st.pending = s.pending := by
  have stores (snd : Sound) : (storeClick snd first.toNat samples s).pending = s.pending := by cases snd <;> rfl
  unfold ownClickWrite
  (repeat' split)
  · rfl
  · rfl
  · rfl
  · exact stores _

@[simp] theorem ownRail_pending (target : Byte) : (ownRail target s).st.pending = s.pending := by
  unfold ownRail
  (repeat' split) <;> simp [answerOk, answerRefused]

@[simp] theorem ownScoreWrite_pending (start : Half) (entries : List Entry) :
    (ownScoreWrite start entries s).st.pending = s.pending := by
  unfold ownScoreWrite
  (repeat' split) <;> rfl

@[simp] theorem playFrom_pending (source : Source) (place : Nat) : (playFrom source place s).pending = s.pending := by
  cases source <;> simp [playFrom, fixWindow]

@[simp] theorem ownPlay_pending (source mark : Byte) : (ownPlay source mark s).st.pending = s.pending := by
  unfold ownPlay
  (repeat' split) <;> simp [answerOk, answerRefused]

@[simp] theorem ownStop_pending : (ownStop s).st.pending = s.pending := by
  unfold ownStop
  split <;> simp [answerOk]

@[simp] theorem ownPause_pending : (ownPause s).st.pending = s.pending := by
  unfold ownPause
  split <;> simp [answerOk, answerRefused, pauseFrom]

@[simp] theorem ownResume_pending : (ownResume s).st.pending = s.pending := by
  unfold ownResume
  split <;> simp [answerOk, answerRefused, resumeSteps]

@[simp] theorem ownLocate_pending (mark : Byte) : (ownLocate mark s).st.pending = s.pending := by
  unfold ownLocate
  (repeat' split) <;> simp [answerOk, answerRefused, locateAt]

@[simp] theorem ownArm_pending (mode : Byte) : (ownArm mode s).st.pending = s.pending := by
  unfold ownArm armRecorder
  (repeat' split) <;> simp [armAnswer, answerOk, answerRefused]

@[simp] theorem ownStopCapture_pending : (ownStopCapture s).st.pending = s.pending := by
  unfold ownStopCapture answerOk
  dsimp only
  split <;> simp

@[simp] theorem ownCaptureClear_pending : (ownCaptureClear s).st.pending = s.pending := by
  unfold ownCaptureClear
  split <;> simp [answerOk, answerRefused]

@[simp] theorem ownVoicePass_pending (bytes : List Byte) : (ownVoicePass bytes s).st.pending = s.pending := by
  unfold ownVoicePass
  (repeat' split) <;> simp [answerOk, answerRefused]

@[simp] theorem ownDampAll_pending : (ownDampAll s).st.pending = s.pending := by
  simp [ownDampAll, answerOk]

@[simp] theorem ownWatch_pending (channel : Byte) (count : Half) : (ownWatch channel count s).st.pending = s.pending := by
  unfold ownWatch
  (repeat' split) <;> simp [answerOk, answerRefused, openWatch]

@[simp] theorem ownClearFlags_pending : (ownClearFlags s).st.pending = s.pending := rfl

@[simp] theorem ownResetPractice_pending : (ownResetPractice s).st.pending = s.pending := by
  simp [ownResetPractice, answerOk, resetMonitor, resetPlayback]

@[simp] theorem ownResetVoices_pending : (ownResetVoices s).st.pending = s.pending := by
  simp [ownResetVoices, answerOk]

@[simp] theorem ownReset_pending (scope : Byte) : (ownReset scope s).st.pending = s.pending := by
  unfold ownReset
  (repeat' split) <;> simp [answerRefused]

end

/-! ### Frames and their acceptance (R187, R189) -/

/-- An owner that leaves the queue. -/
theorem OwnerKeeps.of_pending {q : List Instr} {own : State → Answer} (leaves : ∀ s, (own s).st.pending = s.pending) :
    OwnerKeeps (Waits q) own := fun s waits => (leaves s).trans waits

theorem ownTableWriteFrame_waits {q : List Instr} (payload : List Byte) :
    OwnerKeeps (Waits q) (ownTableWriteFrame payload) := fun s waits => by
  unfold ownTableWriteFrame
  split
  · exact waits
  · split
    · exact OwnerKeeps.withRecords (fun records => .of_pending (ownCalWrite_pending · records)) _ s waits
    · exact OwnerKeeps.withRecords (fun records => .of_pending (ownPcalWrite_pending · records)) _ s waits
    · exact (ownCurveWrite_pending ..).trans waits
    · exact OwnerKeeps.withRecords (fun entries => .of_pending (ownParamWrite_pending · entries)) _ s waits
    · exact OwnerKeeps.withRecords (fun gains => .of_pending (ownLoudWrite_pending · _ gains)) _ s waits
    · exact OwnerKeeps.withRecords (fun samples => .of_pending (ownClickWrite_pending · _ _ samples)) _ s waits
    · exact waits

theorem ownerOf_waits {q : List Instr} (kind : Byte) (payload : List Byte) :
    OwnerKeeps (Waits q) (ownerOf kind payload) := by
  unfold ownerOf
  split
  · exact .formNone payload (.of_st fun _ => rfl)
  · exact ownTableWriteFrame_waits payload
  · exact .of_st (ownTableReadFrame_st payload)
  · exact .formByte payload fun a => .of_pending (ownRail_pending · a)
  · exact .formScoreWrite payload fun start entries => .of_pending (ownScoreWrite_pending · start entries)
  · exact .formTwoHalves payload fun a b => .of_st (ownScoreRead_st · a b)
  · exact .formTwoBytes payload fun a b => .of_pending (ownPlay_pending · a b)
  · exact .formNone payload (.of_pending ownStop_pending)
  · exact .formNone payload (.of_pending ownPause_pending)
  · exact .formNone payload (.of_pending ownResume_pending)
  · exact .formByte payload fun a => .of_pending (ownLocate_pending · a)
  · exact .formByte payload fun a => .of_pending (ownArm_pending · a)
  · exact .formNone payload (.of_pending ownStopCapture_pending)
  · exact .formTwoHalves payload fun a b => .of_st (ownCaptureRead_st · a b)
  · exact .formNone payload (.of_pending ownCaptureClear_pending)
  · exact .of_pending (ownVoicePass_pending · payload)
  · exact .formNone payload (.of_pending ownDampAll_pending)
  · exact .formByteHalf payload fun a b => .of_pending (ownWatch_pending · a b)
  · exact .formNone payload (.of_st fun _ => rfl)
  · exact .formNone payload (.of_pending ownClearFlags_pending)
  · exact .formByte payload fun a => .of_pending (ownReset_pending · a)

/-- R189: acceptance adds a reply or counts a dropped command; the rest is the owner's. -/
theorem acceptCommand_pending (kind : Byte) {own : State → Answer} {s : State}
    (leaves : (own s).st.pending = s.pending) : (acceptCommand kind own s).pending = s.pending := by
  unfold acceptCommand
  split
  · exact leaves
  · rfl

@[simp] theorem deviceReset_pending (s : State) : (deviceReset s).pending = s.pending := by
  simp [deviceReset, deviceResetFrom]

@[simp] theorem takeCommand_pending (kind : Byte) (payload : List Byte) (s : State) :
    (takeCommand kind payload s).pending = s.pending := by
  unfold takeCommand
  split
  · exact deviceReset_pending s
  · exact acceptCommand_pending kind (ownerOf_waits kind payload s rfl)

@[simp] theorem takeByte_pending (b : Byte) (s : State) : (takeByte b s).pending = s.pending := by
  unfold takeByte checkFrame
  dsimp only
  (repeat' split) <;> simp

@[simp] theorem receiveByte_pending (b : Byte) (framingError : Bool) (s : State) :
    (receiveByte b framingError s).pending = s.pending := by
  unfold receiveByte takeBadByte
  (repeat' split) <;> simp

@[simp] theorem releaseReset_pending (s : State) : (releaseReset s).pending = s.pending := by
  unfold releaseReset
  split <;> simp

/-! ### Every command -/

/-- An event answers a next state with the same commands waiting. -/
def Completes (event : State → Host.Outcome State Fault Refusal) : Prop :=
  ∀ s, ∃ t, event s = .next t ∧ t.pending = s.pending

/-- An event of the part: its effect, then the choice of the Action Link transmitter, and nothing under RESET_N. -/
theorem Completes.of_effect {effect : State → State} (leaves : ∀ s, (effect s).pending = s.pending) :
    Completes (partEvent effect) := fun s => by
  refine ⟨_, rfl, ?_⟩
  split
  · rfl
  · simp [leaves]

/-- An event named for what comes about in a larger one (log 1). -/
theorem Completes.of_onlyWhen {effect : State → State} (leaves : ∀ s, (effect s).pending = s.pending)
    (due : State → Bool) : Completes (partEvent (onlyWhen due effect)) :=
  .of_effect fun s => by
    unfold onlyWhen
    split
    · exact leaves s
    · rfl

theorem Completes.of_owner {own : State → Answer} (leaves : ∀ s, (own s).st.pending = s.pending) (kind : Byte) :
    Completes (partEvent (acceptCommand kind own)) :=
  .of_effect fun s => acceptCommand_pending kind (leaves s)

/-- An owner that only reads. -/
theorem Completes.of_reader {own : State → Answer} (reads : ∀ s, (own s).st = s) (kind : Byte) :
    Completes (partEvent (acceptCommand kind own)) :=
  .of_owner (fun s => congrArg State.pending (reads s)) kind

theorem exec_completes (c : Instr) : Completes (exec c) := by
  have sweep (s : State) : (startSweep s).pending = s.pending := by simp
  have convert (c : Channel) (r : Raw) (s : State) : (convert c r s).pending = s.pending := by simp
  have period (f : AudioFrame) (s : State) : (samplePeriod f s).pending = s.pending := by simp
  cases c with
  | powerOnReset => exact fun _ => ⟨_, rfl, rfl⟩
  | resetNRelease => exact fun s => ⟨_, rfl, releaseReset_pending s⟩
  | holdInChange high => exact fun s => Completes.of_effect (by simp) (s.modVdp fun v => { v with holdIn := high })
  | ping | status => exact .of_reader (fun _ => rfl) _
  | tableRead code sel first count => exact .of_reader (ownTableRead_st · code sel first count) _
  | scoreRead start count => exact .of_reader (ownScoreRead_st · start count) _
  | captureRead offset count => exact .of_reader (ownCaptureRead_st · offset count) _
  | resetPractice | resetVoices | calWrite | pcalWrite | curveWrite | loudWrite | clickWrite | paramWrite | warmupWrite
  | pedalAccumWrite | holdOnWrite | holdOffWrite | practiceModeWrite | partMaskWrite | takeSizeWrite | rail | scoreWrite
  | play | stop | pause | resume | locate | arm | stopCapture | captureClear | voicePass | dampAll | watch | clearFlags =>
    exact .of_owner (by simp) _
  | sweep => exact .of_effect sweep
  | warmupEnd | pulse | run | deadlineExpiry | waitTimerExpiry | staleStrikeAged | takeGap => exact .of_onlyWhen sweep _
  | conversion c r => exact .of_effect (convert c r)
  | channelFault c r | channelRecovery c r => exact .of_onlyWhen (convert c r) _
  | pedalGroupComplete p r => exact .of_onlyWhen (convert (.pedal p) r) _
  | railDriftHalt r => exact .of_onlyWhen (convert .rail r) _
  | outputSamplePeriod f => exact .of_effect (period f)
  | jackAdoption f | clickEnd f => exact .of_onlyWhen (period f) _
  | deviceReset | gateExpiry | strikeAgeExpiry | railWaitExpiry | railMoveExpiry | voiceFrameCompletion | byteReceived
  | interByteTimeout =>
    exact .of_effect (by simp)
  | linkFrameCompletion => exact .of_effect fun _ => rfl

/-- Settles O2: every arm of the dispatch is an event that completes. -/
theorem everyCommandAnswersNext : Obligations.EveryCommandAnswersNext := exec_completes

end Sys2Proof.Machine
